-- ==== Sys2Proof/Word.lean ====
section
/-! DEFINITION. Word.lean: the words of the block and the shape of a sparse table. -/

namespace Sys2Proof

/-- A 32-bit word: a register, an operand word, a deck word (R13, R19, R278). -/
abbrev W32 := BitVec 32
/-- A 24-bit port word or Q3.21 gain (R20, R75). -/
abbrev W24 := BitVec 24
/-- A 16-bit word: core pointers, modifiers (R171, R311). -/
abbrev W16 := BitVec 16
/-- A 64-bit word: an instruction of a signal core, a media sample index (R22, R206). -/
abbrev W64 := BitVec 64
/-- An accumulator of a signal core (R171). -/
abbrev W80 := BitVec 80
/-- One byte. -/
abbrev Byte := BitVec 8

/-- A sparse table: keys strictly rising, so that equal tables are equal lists. -/
abbrev SMap (V : Type) := List (Nat × V)

end Sys2Proof
end

