-- ==== Sys2Proof/Syntax.lean ====
section
/-! DEFINITION. Syntax.lean: the commands of the block, one constructor for each row of spec/opcode_table.json,
and the operands they carry. Where a rule leaves a fact to the world outside (a temperature, a received frame, the
cycle at which a core issues), that fact is an operand of the event that brings it. -/

namespace Sys2Proof

/-- An instruction of a request packet (R311): the mooring and class of its packet (R278), whether the packet carries
AUTH, the modifier and the operand words. The opcode is the command's row. -/
structure Req where
  m : Fin 8
  cls : Fin 4
  auth : Bool
  mod : W16
  ops : List W32
  deriving DecidableEq, Repr

/-- How a write to a packet aperture arrives (R289, R299): whole; poisoned, as each of its words then is; or with part of a word's
bytes unwritten. -/
inductive Arrival
  | whole
  | poisoned
  | partWord
  deriving DecidableEq, Repr

/-- A sensor reading in 0.125 degC steps, signed (R548). -/
abbrev Temp := BitVec 16

/-- Edge counts of one window of 1,024 SRC cycles (R449). -/
structure ClockCounts where
  dom : List Nat
  xo : Nat
  pll0 : Nat
  srcGood : Bool
  deriving DecidableEq, Repr

/-- What the residue checkers of the two gangway copies see in one sample (R264). -/
structure GwUpset where
  copyB : Bool
  output : Fin 64
  flip : W24
  fails : Bool
  deriving DecidableEq, Repr

/-- What a sample period brings: D4 cycles since the last period start (R391), the slot bits of the input channels of
master groups in this period (R416), the master groups whose active edge has drifted past a quarter period (R457),
gangway upsets (R264), and the berths in TESTING whose march has ended in it (R250). -/
structure SampleIn where
  d4 : Nat
  ins : List (Nat × W32)
  slips : List (Fin 4)
  upsets : List GwUpset
  marched : List (Fin 32)
  deriving DecidableEq, Repr

/-- A residue event of a pontoon lane (R128). -/
structure PnUpset where
  lane : Fin 8
  twice : Bool
  span : Nat
  deriving DecidableEq, Repr

/-- What a stage edge finds: the destinations that a matrix phase it stops has written (R593), the residue events of a PN phase
it stops (R127), how many words of each repeat or fade it cuts stand (R243, R244), and how many of the fault ferries whose
copies have not ended will end them by cycle M of the stage that begins (R246). -/
structure EdgeIn where
  xmWritten : Nat
  upsets : List PnUpset
  patched : List Nat
  ferries : Nat
  deriving DecidableEq, Repr

/-- What hardware checks report while a bundle issues (R170, R193): nothing, a corrected program or data word, an
uncorrectable word with its CODE, or a residue mismatch with its CODE (R195, R234). -/
inductive CoreUpset
  | none
  | fixedProg
  | fixedData
  | eccProg
  | eccData (code : BitVec 8)
  | residue (code : BitVec 8)
  deriving DecidableEq, Repr

/-- What a read finds in a code word (R486, R487). -/
inductive Finding
  | clean
  | single
  | uncorrectable
  deriving DecidableEq, Repr

/-- A 64 KiB sub-array of a bank in which a march has found failing cells (R496): its number in the bank, the spare rows and columns
that the march engine takes to cover them, and whether the sub-array fails again when it is marched once more. -/
structure SubFail where
  sub : Nat
  rows : Nat
  cols : Nat
  again : Bool
  deriving DecidableEq, Repr

/-- What a MAC makes of a frame (R363, NETx_STAT): good, bad (a wrong FCS, or two tags), or lost for lack of a buffer. -/
inductive MacIn
  | good
  | bad
  | lost
  deriving DecidableEq, Repr

/-- What the headers of a received UDP frame name (R375): IPv4 source and destination, destination port, the tag (0 for none), and
whether the frame is a fragment. -/
structure UdpIn where
  src : W32
  dst : W32
  dport : W16
  vid : BitVec 12
  fragment : Bool
  deriving DecidableEq, Repr

/-- A received RTP frame as the stream plane sees it (R368, R375): the port, what the MAC makes of it, its headers, its bytes without
the FCS, whether every checksum and the RTP version are good, payload type, sequence number, timestamp and payload. -/
structure RtpIn where
  netB : Bool
  mac : MacIn
  udp : UdpIn
  bytes : List Byte
  good : Bool
  pt : BitVec 7
  seq : W16
  ts : W32
  payload : List Byte
  deriving DecidableEq, Repr

/-- Any other received frame (R402): the port, what the MAC makes of it, the address that an ARP request or ICMP echo request asks
for, its UDP headers, its EtherType and IPv4 protocol, and its bytes without the FCS. -/
structure TapIn where
  netB : Bool
  mac : MacIn
  request : Option W32
  udp : Option UdpIn
  etherType : W16
  ipProto : Option Byte
  bytes : List Byte
  deriving DecidableEq, Repr

/-- The version of an IGMP query (R368). -/
inductive IgmpVersion
  | v1
  | v2
  | v3
  deriving DecidableEq, Repr

/-- What an Announce message says (IEEE 1588): grandmasterIdentity, its priority1, its clockClass, clockAccuracy and
offsetScaledLogVariance as one word, its priority2, stepsRemoved, and the sourcePortIdentity. -/
structure Announce where
  gm : W64
  prio1 : Byte
  quality : W32
  prio2 : Byte
  steps : W16
  sender : BitVec 80
  deriving DecidableEq, Repr

/-- A received PTP message (R393, R395). Times are in 2^-16 ns since the PTP epoch, corrections in 2^-16 ns; rx and tx are
the raw ingress and egress time-stamps of event messages, as D4 cycles after the last sample period began. -/
inductive PtpMsg
  | announce (d : Announce)
  /-- One-step Sync, with its origin time. -/
  | sync (rx t1 : Nat) (corr : Int)
  /-- Two-step Sync. -/
  | syncTwoStep (rx : Nat) (seq : W16) (corr : Int)
  /-- Follow_Up of a two-step Sync, with the precise origin time. -/
  | followUp (seq : W16) (t1 : Nat) (corr : Int)
  /-- Delay_Req, from a port of a slave. -/
  | delayReq (rx : Nat) (from_ : BitVec 80) (seq : W16) (corr : Int)
  /-- Delay_Resp to this port's last Delay_Req, with the master's receive time. -/
  | delayResp (t4 : Nat) (corr : Int)
  /-- Pdelay_Req of the peer, and the egress of the response. -/
  | pdelayReq (rx tx : Nat) (from_ : BitVec 80) (seq : W16) (corr : Int)
  /-- One-step Pdelay_Resp to this port's last Pdelay_Req: the peer's turnaround stands in the correction. -/
  | pdelayResp (rx : Nat) (corr : Int)
  /-- Two-step Pdelay_Resp, with the peer's receive time. -/
  | pdelayRespTwoStep (rx t2 : Nat) (corr : Int)
  /-- Pdelay_Resp_Follow_Up, with the peer's response time. -/
  | pdelayFollowUp (t3 : Nat) (corr : Int)
  deriving DecidableEq, Repr

/-- The PTP messages that an interval sends (R395): Sync with its Follow_Up, Delay_Req, Pdelay_Req, Announce. -/
inductive PtpKind
  | sync
  | delayReq
  | pdelayReq
  | announce
  deriving DecidableEq, Repr

/-- A frame of a slave TDM group (R418, R419): BCLK cycles since the last active edge, the active edge as D4 cycles after the last
sample period began, and the slot bits of the group's input channels. -/
structure TdmIn where
  bclks : Nat
  d4 : Nat
  words : List (Nat × W32)
  deriving DecidableEq, Repr

/-- One AES3 subframe as received (R423): audio word, V, C, whether parity and the biphase code are good. -/
structure AesSub where
  word : W24
  v : Bool
  c : Bool
  parityGood : Bool
  biphaseGood : Bool
  deriving DecidableEq, Repr

/-- One AES3 frame (R423): whether it starts with a Z preamble, whether the preambles are valid, the two subframes, and its start
as D4 cycles after the last sample period began. -/
structure AesIn where
  z : Bool
  preambles : Bool
  sub1 : AesSub
  sub2 : AesSub
  d4 : Nat
  deriving DecidableEq, Repr

/-- The result of a step of DRAM training (R521, R522): passed; the densities that MR8 reports; for each lane the delay codes at
which the pattern passes, bit c for code c; the counts of the DQS oscillators of channels A and B, each with its scale in 2^-16
delay codes a count; or failed. -/
inductive TrainResult
  | passed
  | device (densA densB : BitVec 3)
  | sweep (lanes : List (BitVec 256))
  | oscillator (a b : Nat × Int)
  | failed (cause : BitVec 4) (lane : BitVec 2)
  deriving DecidableEq, Repr

/-- What drift tracking finds on a channel (R523): the count of its DQS oscillator, and for each of its two lanes the lowest and
highest code at which the calibration pattern now passes. -/
structure Track where
  count : Nat
  eyes : List (Nat × Nat)
  deriving DecidableEq, Repr

/-- The commands. -/
inductive Instr
  | vddAoRise
  | vddAoFall
  | pwrgoodRise
  | pwrgoodFall
  | resetNLow
  | deviceResetRelease (bootsel : BitVec 3)
  | tamperN
  | voltageGlitch
  | clockGlitch
  | tamperWipeDone
  | tempSample (temps : List Temp)
  | thermalShutdown (gradient : Bool)
  | shutdownRelease
  | xoStable
  | pll0Lock (band : BitVec 3)
  | domainSwitchDone (d : Fin 8)
  | ckmuxHang (d : Fin 8)
  | clockMonitorWindow (counts : ClockCounts)
  | srcTrim (count : Nat)
  | gateClose (reg : Fin 4) (bit : Fin 32)
  | gateCloseTimeout (reg : Fin 4) (bit : Fin 32)
  | mpllLock
  | mpllCoast
  | mpllReacquire (atBandEdge : Bool)
  | refPhaseSample (i : Fin 12) (phase : Int)
  | refAbsent (i : Fin 12)
  | refMeasurementDone (i : Fin 12) (offset : Int) (hz : Nat)
  | refWtrExpiry (i : Fin 12)
  | refQualTimeout (i : Fin 12)
  | rselSwitchDone (a : Int)
  | samplePeriod (sp : SampleIn)
  | zcTimeout (output : Bool) (chan : Nat)
  | stageEdge (i : EdgeIn)
  | delayLinePassDone (cycles : Nat) (cut : Option Nat)
  | pnPhaseDone (phase : Fin 16) (cycle : Nat) (upsets : List PnUpset)
  | xmPhaseDone (phase : Fin 16) (cycle : Nat) (upsets : List Nat)
  | scAllowanceExpiry (phase : Fin 16) (cycle : Nat)
  | watchdog (c : Fin 32) (cycle : Nat)
  | bundle (c : Fin 32) (cycle : Nat) (upset : CoreUpset)
  | deckReadReturn (c : Fin 32)
  | deckWriteArrive (c : Fin 32) (cycle : Nat)
  | bra (c : Fin 32) (cycle : Nat) (upset : CoreUpset)
  | call (c : Fin 32) (cycle : Nat) (upset : CoreUpset)
  | ret (c : Fin 32) (cycle : Nat) (upset : CoreUpset)
  | loop (c : Fin 32) (cycle : Nat) (upset : CoreUpset)
  | frame (c : Fin 32) (cycle : Nat)
  | sync (c : Fin 32) (cycle : Nat)
  | trap (c : Fin 32) (cycle : Nat)
  | faultRepeat (t : Fin 32) (cycle : Nat)
  | stopFade (t : Fin 32) (cycle : Nat)
  | ferryCopyDone (cycle : Nat) (error : Bool)
  | shadowFillDone (t : Fin 32)
  | berthTestDone (b : Fin 32) (pass : Bool) (repairs : Byte)
  | berthFillDone (b : Fin 32)
  | mirrorDone (t : Fin 32) (error : Bool)
  | handoverWindowEnd (t : Fin 32)
  | returnHoldExpiry (t : Fin 32)
  | tandemRejoin (t : Fin 32)
  | pcieApertureWrite (pf : Fin 4) (m : Fin 8) (cls : Fin 4) (words : List W32) (how : Arrival)
  | pcieDbWrite (pf : Fin 4) (m : Fin 8) (v : W32)
  | qpPacket (port : Fin 2) (words : List W32) (partialWord ended : Bool)
  | qpReply (port : Fin 2) (whole : Bool)
  | qpStatus (port : Fin 2)
  | qpMreset (port : Fin 2) (w : W32)
  | qpBadOpcode (port : Fin 2) (op : Byte)
  | packetStart
  | replyDma (m : Fin 8)
  | pcieBmeChange (pf : Fin 4) (up : Bool)
  | pcieFlr (pf : Fin 4)
  | perstN
  | pcieLinkLoss
  | mgmtWrite (index : Byte)
  | mgmtRead (bytes : Nat)
  | registerWrite (addr : Nat) (v : W32) (bar0 : Option (Fin 4))
  | rcRead (addr : Nat) (bar0 : Option (Fin 4))
  | latchRead (addr : Nat)
  | moorBindWrite (m : Fin 8) (v : W32)
  | eccTestRawWrite (v : W32)
  | gwdtKick (v : W32)
  | gwdtExpiry
  | loaderGo (v : W32)
  | bootFlashDone (copy0 copy1 : List Byte)
  | ctlLockstepMismatch
  | ctlWatchdogExpiry
  | ctlRestartDone (copy0 copy1 : List Byte)
  | eccWriteBack (addr : Nat)
  | scrubWord (found : Finding) (cycles : Nat)
  | marchDone (fails : List SubFail) (addr : Nat)
  | bankReady (bank : Nat) (fails : List SubFail)
  | powerDone (d : Fin 8)
  | dramTrainingStep (r : TrainResult)
  | dramRefresh (chB : Bool) (track : Track)
  | mr4Poll (rate : BitVec 3)
  | patrolRead (singles bads : List (Fin 8))
  | recorderWriteDone (c : Fin 32)
  | netLinkChange (netB : Bool) (speed : BitVec 3)
  | rtpPacketRx (f : RtpIn)
  | arpRequestRx (netB : Bool) (ip : W32)
  | icmpEchoRx (netB : Bool) (ip : W32) (data : List Byte)
  | igmpQueryRx (netB : Bool) (version : IgmpVersion) (group : W32)
  | igmpReportTimer (ctx : Fin 512)
  | tapFrameRx (f : TapIn)
  /-- A ready packet begins to leave on NETA, on NETB, or on both. -/
  | streamPacketTx (ctx : Fin 512) (onA onB : Bool)
  | streamTxDiscard (ctx : Fin 512)
  | ptpMessageRx (netB : Bool) (msg : PtpMsg)
  | ptpMessageTx (netB : Bool) (kind : PtpKind) (tx : Nat)
  | announceReceiptTimeout (netB : Bool)
  | mdioFrameDone (data : W16)
  | tdmSlaveFrame (g : Fin 4) (f : TdmIn)
  | tdmFsyncLoss (g : Fin 4)
  | aes3FrameRx (n : Fin 8) (f : AesIn)
  | aes3LockLoss (n : Fin 8)
  | asrcAcquireDone (n : Fin 24)
  | rateRestart
  | lifecycleFuseDone
  | bypass
  | idcode
  | samplePreload
  | extest
  | clamp
  | highz
  | nop (q : Req)
  | echo (q : Req)
  | queryDevice (q : Req)
  | queryFrame (q : Req)
  | querySelf (q : Req)
  | mread (q : Req)
  | mwrite (q : Req)
  | mfill (q : Req)
  | rate (q : Req)
  | slotmapKind (q : Req)
  | slotmapBindin (q : Req)
  | slotmapBindout (q : Req)
  | slotmapUnbind (q : Req)
  | timetable (q : Req)
  | xptSet (q : Req)
  | xptRead (q : Req)
  | xblk (q : Req)
  | xmodeMode (q : Req)
  | xmodeInslot (q : Req)
  | xmodeBusslot (q : Req)
  | xmodeOutslot (q : Req)
  | sosDirect (q : Req)
  | sosGlide (q : Req)
  | spanDefine (q : Req)
  | spanDelete (q : Req)
  | sosrd (q : Req)
  | turnAt (q : Req)
  | turnNext (q : Req)
  | drop (q : Req)
  | taskOpen (q : Req)
  | taskData (q : Req)
  | taskStart (q : Req)
  | taskInfo (q : Req)
  | tstopFade (q : Req)
  | tstopCut (q : Req)
  | tparamWrite (q : Req)
  | tparamReadActive (q : Req)
  | tparamReadInactive (q : Req)
  | ferryUopen (q : Req)
  | ferryUdata (q : Req)
  | ferryUcommit (q : Req)
  | ferryCancel (q : Req)
  | ferryRevert (q : Req)
  | ferryDrill (q : Req)
  | ferryInfo (q : Req)
  | tandemOn (q : Req)
  | tandemOff (q : Req)
  | tandemInfo (q : Req)
  | spareSet (q : Req)
  | spareHold (q : Req)
  | spareInfo (q : Req)
  | streamDefine (q : Req)
  | streamDelete (q : Req)
  | streamRead (q : Req)
  | sctlStart (q : Req)
  | sctlStop (q : Req)
  | sctlStatus (q : Req)
  | zoneBind (q : Req)
  | zoneClaim (q : Req)
  | zoneRelease (q : Req)
  | zoneRead (q : Req)
  | ntapSend (q : Req)
  | ntapRecv (q : Req)
  | ntapFilter (q : Req)
  | timeGet (q : Req)
  | timeStep (q : Req)
  | timeFreq (q : Req)
  | ptpcfg (q : Req)
  | refselInput (q : Req)
  | refselMode (q : Req)
  | refselStatus (q : Req)
  | realign (q : Req)
  | portTdmgrp (q : Req)
  | portTdmlane (q : Req)
  | portAesrx (q : Req)
  | portAestx (q : Req)
  | portLim (q : Req)
  | portChan (q : Req)
  | asrcAssign (q : Req)
  | asrcRelease (q : Req)
  | asrcStatus (q : Req)
  | cstatTxset (q : Req)
  | cstatRxread (q : Req)
  | gangwayInsrc (q : Req)
  | gangwayInopen (q : Req)
  | gangwayGain (q : Req)
  | gangwayOut (q : Req)
  | alarmRaise (q : Req)
  | alarmClear (q : Req)
  | alarmStatus (q : Req)
  | meterSet (q : Req)
  | meterRead (q : Req)
  | meterNotify (q : Req)
  | memtestMarch (q : Req)
  | memtestStatus (q : Req)
  | scrubEnable (q : Req)
  | scrubStatus (q : Req)
  | power (q : Req)
  | clockGate (q : Req)
  | clockMclk (q : Req)
  | clockBand (q : Req)
  | resetMooring (q : Req)
  | resetEngine (q : Req)
  | keyLoad (q : Req)
  | keyErase (q : Req)
  | keySignkey (q : Req)
  | lifecycle (q : Req)
  | subscribe (q : Req)
  | flush (q : Req)
  | pcieLinkUp (speed : BitVec 3) (width : BitVec 2)
  | messageSpacingEnd (m : Fin 8)
  | journalApplied (t : Fin 32)
  | jtagDebugAccess (addr : Nat) (write : Option W32)
  deriving DecidableEq, Repr

end Sys2Proof
end

