-- ==== Sys2Proof/WellFormed.lean ====
section
/-! DEFINITION. WellFormed.lean: the commands whose operands have the shape that the spec gives them. A command that is not
well formed names something the block does not have. -/

namespace Sys2Proof

/-- An instruction's operand count fits the count of its word or extension word (R311). -/
def Req.wf (q : Req) : Bool := decide (q.ops.length ≤ 16386)

/-- Eight counts of domains (R449). -/
def ClockCounts.wf (c : ClockCounts) : Bool := c.dom.length == 8

/-- A command is well formed. -/
def Instr.wf : Instr → Bool
  | .tempSample temps => temps.length == 8
  | .clockMonitorWindow counts => counts.wf
  | .samplePeriod sp => sp.ins.all (fun e => decide (e.1 < 12288)) && decide (0 < sp.d4)
  | .zcTimeout _ chan => decide (chan < 12288)
  | .bankReady bank fails => decide (bank < 40) && fails.all (fun f => decide (f.sub < 256))
  | .marchDone fails _ => fails.all (fun f => decide (f.sub < 256))
  | .dramRefresh _ track => track.eyes.length == 2
  | .dramTrainingStep (.sweep lanes) => lanes.length == 4
  | .registerWrite addr _ bar0 => decide (addr % 4 = 0) && decide (addr < if bar0.isSome then 0x10000 else 0x250000)
  | .rcRead addr bar0 => decide (addr % 4 = 0) && decide (addr < if bar0.isSome then 0x10000 else 0x250000)
  | .latchRead addr => decide (addr % 4 = 0) && decide (addr < 0x250000)
  | .mgmtRead bytes => decide (0 < bytes)
  | .nop q | .echo q | .queryDevice q | .queryFrame q | .querySelf q | .mread q | .mwrite q | .mfill q | .rate q
  | .slotmapKind q | .slotmapBindin q | .slotmapBindout q | .slotmapUnbind q | .timetable q | .xptSet q | .xptRead q
  | .xblk q | .xmodeMode q | .xmodeInslot q | .xmodeBusslot q | .xmodeOutslot q | .sosDirect q | .sosGlide q
  | .spanDefine q | .spanDelete q | .sosrd q | .turnAt q | .turnNext q | .drop q | .taskOpen q | .taskData q
  | .taskStart q | .taskInfo q | .tstopFade q | .tstopCut q | .tparamWrite q | .tparamReadActive q
  | .tparamReadInactive q | .ferryUopen q | .ferryUdata q | .ferryUcommit q | .ferryCancel q | .ferryRevert q
  | .ferryDrill q | .ferryInfo q | .tandemOn q | .tandemOff q | .tandemInfo q | .spareSet q | .spareHold q
  | .spareInfo q | .streamDefine q | .streamDelete q | .streamRead q | .sctlStart q | .sctlStop q | .sctlStatus q
  | .zoneBind q | .zoneClaim q | .zoneRelease q | .zoneRead q | .ntapSend q | .ntapRecv q | .ntapFilter q | .timeGet q
  | .timeStep q | .timeFreq q | .ptpcfg q | .refselInput q | .refselMode q | .refselStatus q | .realign q
  | .portTdmgrp q | .portTdmlane q | .portAesrx q | .portAestx q | .portLim q | .portChan q | .asrcAssign q
  | .asrcRelease q | .asrcStatus q | .cstatTxset q | .cstatRxread q | .gangwayInsrc q | .gangwayInopen q
  | .gangwayGain q | .gangwayOut q | .alarmRaise q | .alarmClear q | .alarmStatus q | .meterSet q | .meterRead q
  | .meterNotify q | .memtestMarch q | .memtestStatus q | .scrubEnable q | .scrubStatus q | .power q | .clockGate q
  | .clockMclk q | .clockBand q | .resetMooring q | .resetEngine q | .keyLoad q | .keyErase q | .keySignkey q
  | .lifecycle q | .subscribe q | .flush q => q.wf
  | .vddAoRise | .vddAoFall | .pwrgoodRise | .pwrgoodFall | .resetNLow | .deviceResetRelease _ | .tamperN
  | .voltageGlitch | .clockGlitch | .tamperWipeDone | .thermalShutdown _ | .shutdownRelease | .xoStable | .pll0Lock _
  | .domainSwitchDone _ | .ckmuxHang _ | .srcTrim _ | .gateClose _ _ | .gateCloseTimeout _ _ | .mpllLock | .mpllCoast
  | .mpllReacquire _ | .refPhaseSample _ _ | .refAbsent _ | .refMeasurementDone _ _ _ | .refWtrExpiry _
  | .refQualTimeout _ | .rselSwitchDone _ | .stageEdge _ | .delayLinePassDone _ _ | .pnPhaseDone _ _ _
  | .xmPhaseDone _ _ _ | .scAllowanceExpiry _ _ | .watchdog _ _ | .bundle _ _ _ | .deckReadReturn _
  | .deckWriteArrive _ _ | .bra _ _ _ | .call _ _ _ | .ret _ _ _ | .loop _ _ _ | .frame _ _ | .sync _ _ | .trap _ _
  | .faultRepeat _ _ | .stopFade _ _ | .ferryCopyDone _ _ | .shadowFillDone _ | .berthTestDone _ _ _
  | .berthFillDone _ | .mirrorDone _ _ | .handoverWindowEnd _ | .returnHoldExpiry _ | .tandemRejoin _
  | .pcieApertureWrite _ _ _ _ _ | .pcieDbWrite _ _ _ | .qpPacket _ _ _ _ | .qpReply _ _ | .qpStatus _ | .qpMreset _ _
  | .qpBadOpcode _ _ | .packetStart | .replyDma _ | .pcieBmeChange _ _ | .pcieFlr _ | .perstN | .pcieLinkLoss
  | .mgmtWrite _ | .moorBindWrite _ _ | .eccTestRawWrite _ | .gwdtKick _ | .gwdtExpiry | .loaderGo _
  | .bootFlashDone _ _ | .ctlLockstepMismatch | .ctlWatchdogExpiry | .ctlRestartDone _ _ | .eccWriteBack _
  | .scrubWord _ _ | .powerDone _ | .dramTrainingStep _ | .mr4Poll _ | .patrolRead _ _
  | .recorderWriteDone _ | .netLinkChange _ _ | .rtpPacketRx _ | .arpRequestRx _ _ | .icmpEchoRx _ _ _
  | .igmpQueryRx _ _ _ | .igmpReportTimer _ | .tapFrameRx _ | .streamPacketTx _ _ _ | .streamTxDiscard _ | .ptpMessageRx _ _
  | .ptpMessageTx _ _ _ | .announceReceiptTimeout _ | .mdioFrameDone _ | .tdmSlaveFrame _ _ | .tdmFsyncLoss _
  | .aes3FrameRx _ _ | .aes3LockLoss _ | .asrcAcquireDone _ | .rateRestart | .lifecycleFuseDone | .bypass | .idcode
  | .samplePreload | .extest | .clamp | .highz | .pcieLinkUp _ _ | .messageSpacingEnd _ | .journalApplied _
  | .jtagDebugAccess _ _ => true

end Sys2Proof
end

