-- ==== Sys2Proof/Decode.lean ====
section
/-! DEFINITION. Decode.lean: the words of the opcode table. The commands of the block reach it as operations and events; no row
of the table gives them bits. The words of a packet are read by Machine/Links.lean (R311, R313). -/

namespace Sys2Proof

/-- The command that a table word spells: none, since no row gives bits (log 49). -/
def decodeTableWord (_nbits _w : Nat) : Option Instr := none

end Sys2Proof
end

