-- ==== Sys2Proof/Config.lean ====
section
/-! DEFINITION. Config.lean: the values that the spec leaves open and fixes nowhere: opaque constants, applied to the
counter State.free (a fresh value each time) or to the operands they depend on. Nothing can be proved of their values.
Log 7, 10, 11, 27, 36, 153. -/

namespace Sys2Proof.Config

/-- How many samples of a cut span the array had computed (R127 gives the rule for whole spans only). -/
opaque pnCut : Nat → Nat → Nat

/-- A word that an ASRC instance delivers: instance, channel, a number of the step, and the input signal: the instant at which it is
taken and the input words around it with the times of their frames (the filter's coefficients are not given, R431 to R434). -/
opaque asrcWord : Nat → Nat → Nat → Nat → List (Nat × BitVec 24) → BitVec 24

/-- The check bits of a data word (R482 to R485 name the code, not its matrix). -/
opaque checkBits : BitVec 64 → BitVec 8

/-- A byte of the boot ROM, by offset (its contents are not given). -/
opaque bootRom : Nat → BitVec 8

/-- A free word for a value of no stated result. -/
opaque freeWord : Nat → BitVec 32

/-- The 32-bit word by which the stream bank holds a port word of an index (R376 gives the place, not the layout). -/
opaque streamWord : Nat → BitVec 24 → BitVec 32

/-- Whether a measured frequency between two values of its unit is shown as the higher one (R449, R452 give the unit, not the
rounding). -/
opaque measUp : Nat → Bool

/-- Which fade length of R409 an AES3 transmitter has (no FADE field of it exists). -/
opaque aesFade : Fin 3

/-- A program word of a berth that serves as a shadow berth, by address: its journal, whose entries' form is not given (R239).
The entries it holds stand as task, memory (Y or X), address and data. -/
opaque journalWord : Nat → List (Nat × Bool × Nat × BitVec 32) → BitVec 64

/-- Whether VDD_IO18, VDD_SD18 and VDD_SD085 are present while PWRGOOD is low (R541, R572). -/
opaque ioRails : Nat → Bool

end Sys2Proof.Config
end

