-- ==== Sys2Proof/Machine/Bits.lean ====
section
/-! DEFINITION. Machine/Bits.lean: bit fields, saturation and rounding, sparse tables, little-endian bytes, and the
constants of each engine rate (R3). -/

namespace Sys2Proof.Machine

/-! Bit fields -/

/-- Bits [hi:lo] of a word, as a number. -/
def bf {n : Nat} (w : BitVec n) (hi lo : Nat) : Nat := (w.toNat >>> lo) % 2 ^ (hi + 1 - lo)

/-- Bit i of a word. -/
def bit {n : Nat} (w : BitVec n) (i : Nat) : Bool := w.getLsbD i

/-- The word with bits [hi:lo] set to v. -/
def setBf {n : Nat} (w : BitVec n) (hi lo v : Nat) : BitVec n :=
  let m := BitVec.ofNat n ((2 ^ (hi + 1 - lo) - 1) <<< lo)
  (w &&& ~~~m) ||| (BitVec.ofNat n (v <<< lo) &&& m)

/-- A number laid at bit lo of a 32-bit word. -/
def at32 (v lo : Nat) : W32 := BitVec.ofNat 32 (v <<< lo)

/-- The 32-bit word of a truth value at a bit. -/
def flag (b : Bool) (i : Nat) : W32 := if b then BitVec.ofNat 32 (1 <<< i) else 0

/-- The sum of words whose set bits do not meet. -/
def orAll (l : List W32) : W32 := l.foldl (· ||| ·) 0

/-- True where every bit of w outside mask is 0. -/
def within {n : Nat} (w : BitVec n) (mask : Nat) : Bool := w &&& ~~~(BitVec.ofNat n mask) == 0

/-- Two halves of a 64-bit number. -/
def lo32 (n : Nat) : W32 := BitVec.ofNat 32 n
def hi32 (n : Nat) : W32 := BitVec.ofNat 32 (n >>> 32)

/-- The positions below n at which a word has a set bit. -/
def bitsOf {k : Nat} (w : BitVec k) (n : Nat) : List Nat := (List.range n).filter (fun i => w.getLsbD i)

/-- The word with the bits of a list of positions set. -/
def wordOf (l : List Nat) : W32 := l.foldl (fun w i => w ||| BitVec.ofNat 32 (1 <<< i)) 0

/-! Saturation and rounding -/

/-- x clamped to [lo, hi]. -/
def clampI (lo hi x : Int) : Int := if x < lo then lo else if hi < x then hi else x

/-- x saturated to a signed width of n bits. -/
def satS (n : Nat) (x : Int) : Int := clampI (-(2 ^ (n - 1) : Int)) (2 ^ (n - 1) - 1) x

/-- A saturating unsigned increment up to hi. -/
def incSat (hi x : Nat) : Nat := if x < hi then x + 1 else hi

/-- round(a / b) of R590 for b > 0: to nearest, halves toward plus infinity. -/
def roundDiv (a : Int) (b : Nat) : Int := (2 * a + b) / (2 * b)

/-- The smallest integer that is not below a / b. -/
def ceilDiv (a b : Nat) : Nat := (a + b - 1) / b

/-- Arithmetic shift right of an integer: floor division by a power of two. -/
def asrI (a : Int) (k : Nat) : Int := a / (2 ^ k : Int)

/-- The integer square root's floor, by bits from the top. -/
def isqrtFrom : Nat → Nat → Nat → Nat
  | 0, r, _ => r
  | k + 1, r, n => let t := r + 2 ^ k; isqrtFrom k (if t * t ≤ n then t else r) n

/-! Sparse tables -/

/-- The entry of a sparse table at a key. -/
def look {V : Type} : SMap V → Nat → Option V
  | [], _ => none
  | (a, v) :: r, k => if k = a then some v else look r k

/-- The entry of a sparse table at a key, or what an unlisted key reads as. -/
def lookD {V : Type} (m : SMap V) (d : V) (k : Nat) : V := (look m k).getD d

/-- The table with an entry set. -/
def ins {V : Type} : SMap V → Nat → V → SMap V
  | [], k, v => [(k, v)]
  | (a, u) :: r, k, v => if k = a then (k, v) :: r else if k < a then (k, v) :: (a, u) :: r else (a, u) :: ins r k v

/-- The table without the entry of a key. -/
def del {V : Type} (m : SMap V) (k : Nat) : SMap V := m.filter (fun e => e.1 != k)

/-- The table with an entry set, where an unlisted key reads as d: writing d removes the entry. -/
def insD {V : Type} [DecidableEq V] (m : SMap V) (d : V) (k : Nat) (v : V) : SMap V :=
  if v = d then del m k else ins m k v

/-- The table without the entries whose key lies in [a, a + n). -/
def delRange {V : Type} (m : SMap V) (a n : Nat) : SMap V := m.filter (fun e => e.1 < a || a + n ≤ e.1)

/-- The entries whose key lies in [a, a + n). -/
def sub {V : Type} (m : SMap V) (a n : Nat) : SMap V := m.filter (fun e => a ≤ e.1 && e.1 < a + n)

/-- A list of numbers without repeats, in order of first occurrence. -/
def uniq (l : List Nat) : List Nat := l.foldl (fun a x => if a.contains x then a else a ++ [x]) []

/-- The keys of a sparse table strictly rise. -/
def rising {V : Type} : SMap V → Bool
  | [] => true
  | [_] => true
  | (a, _) :: (b, w) :: r => decide (a < b) && rising ((b, w) :: r)

/-! Little-endian bytes (R13) -/

/-- Four bytes as a little-endian word. -/
def le32 (b0 b1 b2 b3 : Byte) : W32 := b3 ++ b2 ++ b1 ++ b0

/-- Byte i of a word, the lowest first. -/
def byteOf (w : W32) (i : Nat) : Byte := w.extractLsb' (8 * i) 8

/-- The four bytes of a word, the lowest first. -/
def bytes32 (w : W32) : List Byte := [byteOf w 0, byteOf w 1, byteOf w 2, byteOf w 3]

/-- A byte list as little-endian words, a short tail filled with zero bytes. -/
def wordsLE : List Byte → List W32
  | [] => []
  | [a] => [le32 a 0 0 0]
  | [a, b] => [le32 a b 0 0]
  | [a, b, c] => [le32 a b c 0]
  | a :: b :: c :: d :: r => le32 a b c d :: wordsLE r

/-- The bytes of little-endian words. -/
def bytesLE (l : List W32) : List Byte := l.flatMap bytes32

/-- Big-endian words of a byte list. -/
def wordsBE (l : List Byte) : List W32 := (wordsLE l).map (fun w => byteOf w 0 ++ byteOf w 1 ++ byteOf w 2 ++ byteOf w 3)

/-- Word i of an operand list; an absent word reads 0 (callers check the count first). -/
def wd (l : List W32) (i : Nat) : W32 := l.getD i 0

/-! Engine rates (R1, R3). The code is that of the RATE command: 0 to 5. -/

/-- Samples per second. -/
def rateHz : Nat → Nat
  | 0 => 44100 | 1 => 48000 | 2 => 88200 | 3 => 96000 | 4 => 176400 | _ => 192000

/-- 1, 2 or 4: the rate's multiple of the base rate. -/
def rateMul : Nat → Nat
  | 0 => 1 | 1 => 1 | 2 => 2 | 3 => 2 | _ => 4

/-- Core cycles (and D1 cycles) per frame. -/
def frameCycles : Nat → Nat
  | 0 => 435374 | 1 => 400000 | 2 => 217687 | 3 => 200000 | 4 => 108843 | _ => 100000

def capChan (r : Nat) : Nat := 1024 / rateMul r
def capBus (r : Nat) : Nat := 256 / rateMul r
def capOut (r : Nat) : Nat := 512 / rateMul r
def capNet (r : Nat) : Nat := 1024 / rateMul r

/-- The slot positions of a TDM lane at a rate: 512 channels over 16 lanes (R3). -/
def capLane (r : Nat) : Nat := 32 / rateMul r

end Sys2Proof.Machine
end

