-- ==== Sys2Proof/Machine/Crypto.lean ====
section
/-! DEFINITION. Machine/Crypto.lean: the standard functions the spec names: CRC-32C (R279), SHA-256 and HMAC-SHA-256
(R278, R188), ECDSA P-256 verification (R188). The spec names the standards (RFC 3720, FIPS 180-4, FIPS 186-4); their
constants are taken from them: PRESUMED, log 8. -/

namespace Sys2Proof.Machine

/-! CRC-32C -/

/-- One bit of the reflected CRC-32C register (R279). -/
def crcBit (c : W32) : W32 := if c.getLsbD 0 then (c >>> 1) ^^^ 0x82F63B78 else c >>> 1

/-- The CRC register after one byte. -/
def crcByte (c : W32) (b : Byte) : W32 :=
  crcBit (crcBit (crcBit (crcBit (crcBit (crcBit (crcBit (crcBit (c ^^^ b.setWidth 32))))))))

/-- CRC-32C of bytes in memory order (R279). -/
def crc32c (l : List Byte) : W32 := l.foldl crcByte 0xFFFFFFFF ^^^ 0xFFFFFFFF

/-! SHA-256 -/

def sha256K : List W32 :=
  [ 0x428A2F98, 0x71374491, 0xB5C0FBCF, 0xE9B5DBA5, 0x3956C25B, 0x59F111F1, 0x923F82A4, 0xAB1C5ED5,
    0xD807AA98, 0x12835B01, 0x243185BE, 0x550C7DC3, 0x72BE5D74, 0x80DEB1FE, 0x9BDC06A7, 0xC19BF174,
    0xE49B69C1, 0xEFBE4786, 0x0FC19DC6, 0x240CA1CC, 0x2DE92C6F, 0x4A7484AA, 0x5CB0A9DC, 0x76F988DA,
    0x983E5152, 0xA831C66D, 0xB00327C8, 0xBF597FC7, 0xC6E00BF3, 0xD5A79147, 0x06CA6351, 0x14292967,
    0x27B70A85, 0x2E1B2138, 0x4D2C6DFC, 0x53380D13, 0x650A7354, 0x766A0ABB, 0x81C2C92E, 0x92722C85,
    0xA2BFE8A1, 0xA81A664B, 0xC24B8B70, 0xC76C51A3, 0xD192E819, 0xD6990624, 0xF40E3585, 0x106AA070,
    0x19A4C116, 0x1E376C08, 0x2748774C, 0x34B0BCB5, 0x391C0CB3, 0x4ED8AA4A, 0x5B9CCA4F, 0x682E6FF3,
    0x748F82EE, 0x78A5636F, 0x84C87814, 0x8CC70208, 0x90BEFFFA, 0xA4506CEB, 0xBEF9A3F7, 0xC67178F2 ]

def sha256Init : List W32 :=
  [ 0x6A09E667, 0xBB67AE85, 0x3C6EF372, 0xA54FF53A, 0x510E527F, 0x9B05688C, 0x1F83D9AB, 0x5BE0CD19 ]

def rotr (x : W32) (n : Nat) : W32 := (x >>> n) ||| (x <<< (32 - n))

/-- The message schedule: from the last 16 words, newest first, the next n words, oldest first. -/
def shaExpand : Nat → List W32 → List W32
  | 0, _ => []
  | n + 1, l =>
    let w15 := wd l 14
    let w2 := wd l 1
    let s0 := rotr w15 7 ^^^ rotr w15 18 ^^^ (w15 >>> 3)
    let s1 := rotr w2 17 ^^^ rotr w2 19 ^^^ (w2 >>> 10)
    let w := wd l 15 + s0 + wd l 6 + s1
    w :: shaExpand n (w :: l.take 15)

/-- One round on the eight working words. -/
def shaRound (v : List W32) (kw : W32 × W32) : List W32 :=
  match v with
  | [a, b, c, d, e, f, g, h] =>
    let t1 := h + (rotr e 6 ^^^ rotr e 11 ^^^ rotr e 25) + ((e &&& f) ^^^ (~~~e &&& g)) + kw.1 + kw.2
    let t2 := (rotr a 2 ^^^ rotr a 13 ^^^ rotr a 22) + ((a &&& b) ^^^ (a &&& c) ^^^ (b &&& c))
    [t1 + t2, a, b, c, d + t1, e, f, g]
  | _ => v

/-- One block of 16 words. -/
def shaBlock (h blk : List W32) : List W32 :=
  let ws := blk ++ shaExpand 48 blk.reverse
  (h.zip ((sha256K.zip ws).foldl shaRound h)).map (fun p => p.1 + p.2)

/-- The blocks of a message of words, 16 words each; n bounds their number. -/
def shaBlocks : Nat → List W32 → List W32 → List W32
  | 0, h, _ => h
  | n + 1, h, ws => if ws.length < 16 then h else shaBlocks n (shaBlock h (ws.take 16)) (ws.drop 16)

/-- The bytes of a big-endian word. -/
def bytesBE (w : W32) : List Byte := (bytes32 w).reverse

/-- SHA-256 of bytes: 32 bytes. -/
def sha256 (m : List Byte) : List Byte :=
  let z := (119 - m.length % 64) % 64
  let pad := m ++ [0x80] ++ List.replicate z 0 ++ bytesBE (hi32 (8 * m.length)) ++ bytesBE (lo32 (8 * m.length))
  (shaBlocks (pad.length / 64) sha256Init (wordsBE pad)).flatMap bytesBE

/-- HMAC-SHA-256 with a key of at most 64 bytes. -/
def hmac (key m : List Byte) : List Byte :=
  let k := key ++ List.replicate (64 - key.length) 0
  sha256 (k.map (· ^^^ 0x5C) ++ sha256 (k.map (· ^^^ 0x36) ++ m))

/-! ECDSA P-256 -/

def p256P : Nat := 2 ^ 256 - 2 ^ 224 + 2 ^ 192 + 2 ^ 96 - 1
def p256N : Nat := 0xFFFFFFFF00000000FFFFFFFFFFFFFFFFBCE6FAADA7179E84F3B9CAC2FC632551
def p256B : Nat := 0x5AC635D8AA3A93E7B3EBBD55769886BC651D06B0CC53B0F63BCE3C3E27D2604B
def p256Gx : Nat := 0x6B17D1F2E12C4247F8BCE6E563A440F277037D812DEB33A0F4A13945D898C296
def p256Gy : Nat := 0x4FE342E2FE1A7F9B8EE7EB4A7C0F9E162BCE33576B315ECECBB6406837BF51F5

/-- b ^ e mod m by the low n bits of e. -/
def powModN : Nat → Nat → Nat → Nat → Nat
  | 0, _, _, m => 1 % m
  | n + 1, b, e, m =>
    let r := powModN n (b * b % m) (e / 2) m
    if e % 2 = 1 then b * r % m else r

/-- The inverse modulo a prime m below 2 ^ 256. -/
def invMod (a m : Nat) : Nat := powModN 256 a (m - 2) m

/-- Addition of points of P-256; none is the point at infinity. -/
def ecAdd : Option (Nat × Nat) → Option (Nat × Nat) → Option (Nat × Nat)
  | none, q => q
  | p, none => p
  | some (x1, y1), some (x2, y2) =>
    let p := p256P
    if x1 = x2 ∧ (y1 + y2) % p = 0 then none
    else
      let l := if x1 = x2 then (3 * x1 * x1 + (p - 3)) % p * invMod (2 * y1 % p) p % p
        else (y2 + (p - y1)) % p * invMod ((x2 + (p - x1)) % p) p % p
      let x3 := (l * l + (p - x1) + (p - x2)) % p
      some (x3, (l * ((x1 + (p - x3)) % p) + (p - y1)) % p)

/-- The multiple k q of a point, by the low n bits of k. -/
def ecMul : Nat → Nat → Option (Nat × Nat) → Option (Nat × Nat)
  | 0, _, _ => none
  | n + 1, k, q =>
    let r := ecMul n (k / 2) (ecAdd q q)
    if k % 2 = 1 then ecAdd q r else r

/-- A big-endian number. -/
def natBE (l : List Byte) : Nat := l.foldl (fun a b => a * 256 + b.toNat) 0

/-- ECDSA P-256: the signature (r, s) of 64 bytes verifies over a 32-byte digest under a public key (x, y) of 64 bytes. -/
def ecdsaVerify (digest key sig : List Byte) : Bool :=
  let x := natBE (key.take 32)
  let y := natBE (key.drop 32)
  let r := natBE (sig.take 32)
  let t := natBE (sig.drop 32)
  let n := p256N
  let p := p256P
  let onCurve := x < p && y < p && y * y % p == (x * x * x + (p - 3) * x + p256B) % p
  if onCurve && 0 < r && r < n && 0 < t && t < n then
    let w := invMod t n
    match ecAdd (ecMul 256 (natBE digest * w % n) (some (p256Gx, p256Gy))) (ecMul 256 (r * w % n) (some (x, y))) with
    | some (u, _) => u % n == r
    | none => false
  else false

end Sys2Proof.Machine
end

