-- ==== Sys2Proof/Machine/RegMap.lean ====
section
/-! DEFINITION. Machine/RegMap.lean: the peripheral registers, from the register tables of spec/01 to spec/15: the
place of each field (namespace F, names as in the manual), the access masks of R15 of each register, and the reset
value of each (R14). An address is the byte offset in the peripheral region: block number x 0x1_0000 + offset (R476). -/

namespace Sys2Proof.Machine

/-- A field of a register: the register's offset and the bits [hi:lo]. -/
structure Fld where
  reg : Nat
  hi : Nat
  lo : Nat
  deriving DecidableEq, Repr

/-- A register or an array of registers: base offset, counts and strides of up to two indices, the bits of each
access code of R15 (bits of no mask are RO), and the reset value where it is one value. -/
structure RegRow where
  base : Nat
  n1 : Nat := 1
  s1 : Nat := 4
  n2 : Nat := 1
  s2 : Nat := 4
  rw : Nat := 0
  rwl : Nat := 0
  wo : Nat := 0
  w1c : Nat := 0
  rc : Nat := 0
  reset : Nat := 0
  deriving DecidableEq, Repr

namespace F

/-- TT_STAT (spec/01_frames_deck_and_timetable.md, R68) -/
def TT_STAT : Nat := 0x240004
def TT_STAT_LAST_FORCED : Fld := ⟨TT_STAT, 19, 16⟩
def TT_STAT_FORCED_CNT : Fld := ⟨TT_STAT, 15, 8⟩
def TT_STAT_KERR : Fld := ⟨TT_STAT, 2, 2⟩
def TT_STAT_FORCED : Fld := ⟨TT_STAT, 1, 1⟩
def TT_STAT_PEND : Fld := ⟨TT_STAT, 0, 0⟩
/-- TT_FRAME_LO (spec/01_frames_deck_and_timetable.md, R68) -/
def TT_FRAME_LO : Nat := 0x240008
def TT_FRAME_LO_FRAME_LO : Fld := ⟨TT_FRAME_LO, 31, 0⟩
/-- TT_FRAME_HI (spec/01_frames_deck_and_timetable.md, R68) -/
def TT_FRAME_HI : Nat := 0x24000C
def TT_FRAME_HI_FRAME_HI : Fld := ⟨TT_FRAME_HI, 27, 0⟩
/-- TT_BAROPEN (spec/01_frames_deck_and_timetable.md, R68) -/
def TT_BAROPEN : Nat := 0x240010
def TT_BAROPEN_OPEN : Fld := ⟨TT_BAROPEN, 15, 0⟩
/-- TT_PHn_CFG (spec/01_frames_deck_and_timetable.md, R68) -/
def TT_PHn_CFG (i : Nat) : Nat := 0x240100 + 16 * i
def TT_PHn_CFG_VALID (i : Nat) : Fld := ⟨(TT_PHn_CFG i), 31, 31⟩
def TT_PHn_CFG_UNIT (i : Nat) : Fld := ⟨(TT_PHn_CFG i), 30, 28⟩
def TT_PHn_CFG_BARRIER (i : Nat) : Fld := ⟨(TT_PHn_CFG i), 27, 24⟩
/-- TT_PHn_ARG (spec/01_frames_deck_and_timetable.md, R68) -/
def TT_PHn_ARG (i : Nat) : Nat := 0x240104 + 16 * i
def TT_PHn_ARG_ARG (i : Nat) : Fld := ⟨(TT_PHn_ARG i), 31, 0⟩
/-- TT_PHn_DUR (spec/01_frames_deck_and_timetable.md, R68) -/
def TT_PHn_DUR (i : Nat) : Nat := 0x240108 + 16 * i
def TT_PHn_DUR_DUR (i : Nat) : Fld := ⟨(TT_PHn_DUR i), 19, 0⟩
/-- LIM_SUM (spec/01_frames_deck_and_timetable.md, R68) -/
def LIM_SUM : Nat := 0x220000
def LIM_SUM_ANYACT : Fld := ⟨LIM_SUM, 1, 1⟩
def LIM_SUM_ANYCLIP : Fld := ⟨LIM_SUM, 0, 0⟩
/-- LIM_CFGn (spec/01_frames_deck_and_timetable.md, R68) -/
def LIM_CFGn (i : Nat) : Nat := 0x221000 + 4 * i
def LIM_CFGn_EN (i : Nat) : Fld := ⟨(LIM_CFGn i), 31, 31⟩
def LIM_CFGn_LA (i : Nat) : Fld := ⟨(LIM_CFGn i), 30, 29⟩
def LIM_CFGn_REL (i : Nat) : Fld := ⟨(LIM_CFGn i), 28, 18⟩
def LIM_CFGn_THR (i : Nat) : Fld := ⟨(LIM_CFGn i), 8, 0⟩
/-- LIM_STATn (spec/01_frames_deck_and_timetable.md, R68) -/
def LIM_STATn (i : Nat) : Nat := 0x224000 + 4 * i
def LIM_STATn_GR (i : Nat) : Fld := ⟨(LIM_STATn i), 15, 8⟩
def LIM_STATn_CLIP (i : Nat) : Fld := ⟨(LIM_STATn i), 1, 1⟩
def LIM_STATn_ACT (i : Nat) : Fld := ⟨(LIM_STATn i), 0, 0⟩
/-- GW_CTRL (spec/01_frames_deck_and_timetable.md, R68) -/
def GW_CTRL : Nat := 0x210000
def GW_CTRL_LOCK : Fld := ⟨GW_CTRL, 8, 8⟩
def GW_CTRL_DRIVE : Fld := ⟨GW_CTRL, 1, 0⟩
/-- GW_STAT (spec/01_frames_deck_and_timetable.md, R68) -/
def GW_STAT : Nat := 0x210004
def GW_STAT_MISMATCH_CNT : Fld := ⟨GW_STAT, 15, 8⟩
def GW_STAT_MISMATCH : Fld := ⟨GW_STAT, 2, 2⟩
def GW_STAT_DRIVER : Fld := ⟨GW_STAT, 1, 1⟩
def GW_STAT_READY : Fld := ⟨GW_STAT, 0, 0⟩
/-- GW_OPEN (spec/01_frames_deck_and_timetable.md, R68) -/
def GW_OPEN : Nat := 0x210008
def GW_OPEN_OPEN : Fld := ⟨GW_OPEN, 31, 0⟩
/-- GW_ACT_LO (spec/01_frames_deck_and_timetable.md, R68) -/
def GW_ACT_LO : Nat := 0x21000C
def GW_ACT_LO_ACT : Fld := ⟨GW_ACT_LO, 31, 0⟩
/-- GW_ACT_HI (spec/01_frames_deck_and_timetable.md, R68) -/
def GW_ACT_HI : Nat := 0x210010
def GW_ACT_HI_ACT : Fld := ⟨GW_ACT_HI, 31, 0⟩
/-- GW_INn_SRC (spec/01_frames_deck_and_timetable.md, R68) -/
def GW_INn_SRC (i : Nat) : Nat := 0x210100 + 8 * i
def GW_INn_SRC_SRC (i : Nat) : Fld := ⟨(GW_INn_SRC i), 15, 0⟩
/-- GW_INn_OPEN (spec/01_frames_deck_and_timetable.md, R68) -/
def GW_INn_OPEN (i : Nat) : Nat := 0x210104 + 8 * i
def GW_INn_OPEN_HOLD (i : Nat) : Fld := ⟨(GW_INn_OPEN i), 31, 18⟩
def GW_INn_OPEN_MODE (i : Nat) : Fld := ⟨(GW_INn_OPEN i), 17, 16⟩
def GW_INn_OPEN_THR (i : Nat) : Fld := ⟨(GW_INn_OPEN i), 9, 0⟩
/-- GW_OUTn (spec/01_frames_deck_and_timetable.md, R68) -/
def GW_OUTn (i : Nat) : Nat := 0x210200 + 4 * i
def GW_OUTn_MODE (i : Nat) : Fld := ⟨(GW_OUTn i), 17, 16⟩
def GW_OUTn_DST (i : Nat) : Fld := ⟨(GW_OUTn i), 15, 0⟩
/-- GW_GAINi_o (spec/01_frames_deck_and_timetable.md, R68) -/
def GW_GAINi_o (i : Nat) (j : Nat) : Nat := 0x211000 + 256 * i + 4 * j
def GW_GAINi_o_GAIN (i : Nat) (j : Nat) : Fld := ⟨(GW_GAINi_o i j), 23, 0⟩
/-- XM_CFG (spec/02_crossing_matrix.md, R105) -/
def XM_CFG : Nat := 0x1E0000
def XM_CFG_MODE : Fld := ⟨XM_CFG, 31, 31⟩
def XM_CFG_NIN : Fld := ⟨XM_CFG, 30, 20⟩
def XM_CFG_NBUS : Fld := ⟨XM_CFG, 19, 11⟩
def XM_CFG_NOUT : Fld := ⟨XM_CFG, 10, 1⟩
/-- XM_STAT (spec/02_crossing_matrix.md, R105) -/
def XM_STAT : Nat := 0x1E0004
def XM_STAT_EERR : Fld := ⟨XM_STAT, 24, 24⟩
def XM_STAT_ANYSAT : Fld := ⟨XM_STAT, 23, 23⟩
def XM_STAT_RONLY : Fld := ⟨XM_STAT, 22, 22⟩
def XM_STAT_CUT : Fld := ⟨XM_STAT, 21, 21⟩
def XM_STAT_RAMPS : Fld := ⟨XM_STAT, 19, 0⟩
/-- XM_DUR1 (spec/02_crossing_matrix.md, R105) -/
def XM_DUR1 : Nat := 0x1E0008
def XM_DUR1_DUR : Fld := ⟨XM_DUR1, 19, 0⟩
/-- XM_DUR2 (spec/02_crossing_matrix.md, R105) -/
def XM_DUR2 : Nat := 0x1E000C
def XM_DUR2_DUR : Fld := ⟨XM_DUR2, 19, 0⟩
/-- XM_SATBn (spec/02_crossing_matrix.md, R105) -/
def XM_SATBn (i : Nat) : Nat := 0x1E0040 + 4 * i
def XM_SATBn_SAT (i : Nat) : Fld := ⟨(XM_SATBn i), 31, 0⟩
/-- XM_SATOn (spec/02_crossing_matrix.md, R105) -/
def XM_SATOn (i : Nat) : Nat := 0x1E0080 + 4 * i
def XM_SATOn_SAT (i : Nat) : Fld := ⟨(XM_SATOn i), 31, 0⟩
/-- XM_INn (spec/02_crossing_matrix.md, R105) -/
def XM_INn (i : Nat) : Nat := 0x1E1000 + 4 * i
def XM_INn_VALID (i : Nat) : Fld := ⟨(XM_INn i), 31, 31⟩
def XM_INn_LAG (i : Nat) : Fld := ⟨(XM_INn i), 30, 30⟩
def XM_INn_SLOT (i : Nat) : Fld := ⟨(XM_INn i), 13, 0⟩
/-- XM_BUSn (spec/02_crossing_matrix.md, R105) -/
def XM_BUSn (i : Nat) : Nat := 0x1E2000 + 4 * i
def XM_BUSn_OVALID (i : Nat) : Fld := ⟨(XM_BUSn i), 31, 31⟩
def XM_BUSn_IVALID (i : Nat) : Fld := ⟨(XM_BUSn i), 30, 30⟩
def XM_BUSn_ILAG (i : Nat) : Fld := ⟨(XM_BUSn i), 29, 29⟩
def XM_BUSn_ISLOT (i : Nat) : Fld := ⟨(XM_BUSn i), 27, 14⟩
def XM_BUSn_OSLOT (i : Nat) : Fld := ⟨(XM_BUSn i), 13, 0⟩
/-- XM_OUTn (spec/02_crossing_matrix.md, R105) -/
def XM_OUTn (i : Nat) : Nat := 0x1E3000 + 4 * i
def XM_OUTn_VALID (i : Nat) : Fld := ⟨(XM_OUTn i), 31, 31⟩
def XM_OUTn_SLOT (i : Nat) : Fld := ⟨(XM_OUTn i), 13, 0⟩
/-- PN_STAT (spec/03_pontoon_array.md, R140) -/
def PN_STAT : Nat := 0x1F0000
def PN_STAT_LANEOK : Fld := ⟨PN_STAT, 27, 20⟩
def PN_STAT_EERR : Fld := ⟨PN_STAT, 19, 19⟩
def PN_STAT_RERR : Fld := ⟨PN_STAT, 18, 18⟩
def PN_STAT_ANYSAT : Fld := ⟨PN_STAT, 17, 17⟩
def PN_STAT_CUT : Fld := ⟨PN_STAT, 16, 16⟩
def PN_STAT_GLIDES : Fld := ⟨PN_STAT, 15, 0⟩
/-- PN_RETRY (spec/03_pontoon_array.md, R140) -/
def PN_RETRY : Nat := 0x1F0004
def PN_RETRY_CNT : Fld := ⟨PN_RETRY, 15, 0⟩
/-- PN_LOAD (spec/03_pontoon_array.md, R140) -/
def PN_LOAD : Nat := 0x1F0008
def PN_LOAD_LOAD : Fld := ⟨PN_LOAD, 19, 0⟩
/-- PN_ERRLOC (spec/03_pontoon_array.md, R140) -/
def PN_ERRLOC : Nat := 0x1F000C
def PN_ERRLOC_VALID : Fld := ⟨PN_ERRLOC, 31, 31⟩
def PN_ERRLOC_KIND : Fld := ⟨PN_ERRLOC, 30, 30⟩
def PN_ERRLOC_INDEX : Fld := ⟨PN_ERRLOC, 14, 0⟩
/-- PN_SATn (spec/03_pontoon_array.md, R140) -/
def PN_SATn (i : Nat) : Nat := 0x1F0100 + 4 * i
def PN_SATn_SAT (i : Nat) : Fld := ⟨(PN_SATn i), 31, 0⟩
/-- TT_SCN_SUM (spec/04_scenes_and_turns.md, R164) -/
def TT_SCN_SUM : Nat := 0x240200
def TT_SCN_SUM_RUN : Fld := ⟨TT_SCN_SUM, 31, 16⟩
def TT_SCN_SUM_ARMED : Fld := ⟨TT_SCN_SUM, 15, 0⟩
/-- TT_SCNg_TLO (spec/04_scenes_and_turns.md, R164) -/
def TT_SCNg_TLO (i : Nat) : Nat := 0x240400 + 32 * i
def TT_SCNg_TLO_T_LO (i : Nat) : Fld := ⟨(TT_SCNg_TLO i), 31, 0⟩
/-- TT_SCNg_THI (spec/04_scenes_and_turns.md, R164) -/
def TT_SCNg_THI (i : Nat) : Nat := 0x240404 + 32 * i
def TT_SCNg_THI_T_HI (i : Nat) : Fld := ⟨(TT_SCNg_THI i), 31, 0⟩
/-- TT_SCNg_STAT (spec/04_scenes_and_turns.md, R164) -/
def TT_SCNg_STAT (i : Nat) : Nat := 0x240408 + 32 * i
def TT_SCNg_STAT_ARMED (i : Nat) : Fld := ⟨(TT_SCNg_STAT i), 31, 31⟩
def TT_SCNg_STAT_RUN (i : Nat) : Fld := ⟨(TT_SCNg_STAT i), 30, 30⟩
def TT_SCNg_STAT_RESULT (i : Nat) : Fld := ⟨(TT_SCNg_STAT i), 28, 26⟩
def TT_SCNg_STAT_RV (i : Nat) : Fld := ⟨(TT_SCNg_STAT i), 25, 25⟩
def TT_SCNg_STAT_ISSUER (i : Nat) : Fld := ⟨(TT_SCNg_STAT i), 18, 16⟩
def TT_SCNg_STAT_LEN (i : Nat) : Fld := ⟨(TT_SCNg_STAT i), 15, 0⟩
/-- TT_SCNg_PXM (spec/04_scenes_and_turns.md, R164) -/
def TT_SCNg_PXM (i : Nat) : Nat := 0x24040C + 32 * i
def TT_SCNg_PXM_XPTS (i : Nat) : Fld := ⟨(TT_SCNg_PXM i), 19, 0⟩
/-- TT_SCNg_PSP (spec/04_scenes_and_turns.md, R164) -/
def TT_SCNg_PSP (i : Nat) : Nat := 0x240410 + 32 * i
def TT_SCNg_PSP_PAGES (i : Nat) : Fld := ⟨(TT_SCNg_PSP i), 31, 16⟩
def TT_SCNg_PSP_SECTIONS (i : Nat) : Fld := ⟨(TT_SCNg_PSP i), 15, 0⟩
/-- SC_ACTIVE (spec/05_signal_cores.md, R205) -/
def SC_ACTIVE : Nat := 0x200000
def SC_ACTIVE_ACT : Fld := ⟨SC_ACTIVE, 31, 0⟩
/-- SC_FAULTED (spec/05_signal_cores.md, R205) -/
def SC_FAULTED : Nat := 0x200004
def SC_FAULTED_FLT : Fld := ⟨SC_FAULTED, 31, 0⟩
/-- SCc_STAT (spec/05_signal_cores.md, R205) -/
def SCc_STAT (i : Nat) : Nat := 0x201000 + 64 * i
def SCc_STAT_BERTH (i : Nat) : Fld := ⟨(SCc_STAT i), 31, 28⟩
def SCc_STAT_TASK (i : Nat) : Fld := ⟨(SCc_STAT i), 27, 23⟩
def SCc_STAT_PROT (i : Nat) : Fld := ⟨(SCc_STAT i), 22, 22⟩
def SCc_STAT_FERRYOK (i : Nat) : Fld := ⟨(SCc_STAT i), 21, 21⟩
def SCc_STAT_WAIT (i : Nat) : Fld := ⟨(SCc_STAT i), 20, 20⟩
def SCc_STAT_WKIND (i : Nat) : Fld := ⟨(SCc_STAT i), 19, 19⟩
def SCc_STAT_SYNCB (i : Nat) : Fld := ⟨(SCc_STAT i), 18, 15⟩
def SCc_STAT_PSEL (i : Nat) : Fld := ⟨(SCc_STAT i), 14, 14⟩
def SCc_STAT_PGW (i : Nat) : Fld := ⟨(SCc_STAT i), 13, 13⟩
def SCc_STAT_DKERR (i : Nat) : Fld := ⟨(SCc_STAT i), 12, 12⟩
def SCc_STAT_LATE (i : Nat) : Fld := ⟨(SCc_STAT i), 11, 11⟩
/-- SCc_PC (spec/05_signal_cores.md, R205) -/
def SCc_PC (i : Nat) : Nat := 0x201004 + 64 * i
def SCc_PC_PC (i : Nat) : Fld := ⟨(SCc_PC i), 12, 0⟩
/-- SCc_FAULT (spec/05_signal_cores.md, R205) -/
def SCc_FAULT (i : Nat) : Nat := 0x201008 + 64 * i
def SCc_FAULT_VALID (i : Nat) : Fld := ⟨(SCc_FAULT i), 31, 31⟩
def SCc_FAULT_CAUSE (i : Nat) : Fld := ⟨(SCc_FAULT i), 30, 27⟩
def SCc_FAULT_CLASS (i : Nat) : Fld := ⟨(SCc_FAULT i), 26, 26⟩
def SCc_FAULT_TASK (i : Nat) : Fld := ⟨(SCc_FAULT i), 25, 21⟩
def SCc_FAULT_CODE (i : Nat) : Fld := ⟨(SCc_FAULT i), 20, 13⟩
def SCc_FAULT_PC (i : Nat) : Fld := ⟨(SCc_FAULT i), 12, 0⟩
/-- SCc_FRAME (spec/05_signal_cores.md, R205) -/
def SCc_FRAME (i : Nat) : Nat := 0x20100C + 64 * i
def SCc_FRAME_FRAME (i : Nat) : Fld := ⟨(SCc_FRAME i), 31, 0⟩
/-- SCc_CYC (spec/05_signal_cores.md, R205) -/
def SCc_CYC (i : Nat) : Nat := 0x201010 + 64 * i
def SCc_CYC_CYC (i : Nat) : Fld := ⟨(SCc_CYC i), 18, 0⟩
/-- SCc_CYCMAX (spec/05_signal_cores.md, R205) -/
def SCc_CYCMAX (i : Nat) : Nat := 0x201014 + 64 * i
def SCc_CYCMAX_CYCMAX (i : Nat) : Fld := ⟨(SCc_CYCMAX i), 18, 0⟩
/-- SCc_STALL (spec/05_signal_cores.md, R205) -/
def SCc_STALL (i : Nat) : Nat := 0x201018 + 64 * i
def SCc_STALL_STALL (i : Nat) : Fld := ⟨(SCc_STALL i), 18, 0⟩
/-- SCc_ECC (spec/05_signal_cores.md, R205) -/
def SCc_ECC (i : Nat) : Nat := 0x20101C + 64 * i
def SCc_ECC_PROG (i : Nat) : Fld := ⟨(SCc_ECC i), 15, 8⟩
def SCc_ECC_DATA (i : Nat) : Fld := ⟨(SCc_ECC i), 7, 0⟩
/-- SCc_IMG (spec/05_signal_cores.md, R205) -/
def SCc_IMG (i : Nat) : Nat := 0x201020 + 64 * i
def SCc_IMG_LAYOUT (i : Nat) : Fld := ⟨(SCc_IMG i), 31, 0⟩
/-- SCc_WDLIM (spec/05_signal_cores.md, R205) -/
def SCc_WDLIM (i : Nat) : Nat := 0x201024 + 64 * i
def SCc_WDLIM_WDLIM (i : Nat) : Fld := ⟨(SCc_WDLIM i), 19, 0⟩
/-- SCc_RNGk (spec/05_signal_cores.md, R205) -/
def SCc_RNGk (i : Nat) (j : Nat) : Nat := 0x201028 + 64 * i + 4 * j
def SCc_RNGk_VALID (i : Nat) (j : Nat) : Fld := ⟨(SCc_RNGk i j), 31, 31⟩
def SCc_RNGk_FIRST (i : Nat) (j : Nat) : Fld := ⟨(SCc_RNGk i j), 29, 16⟩
def SCc_RNGk_CNTM1 (i : Nat) (j : Nat) : Fld := ⟨(SCc_RNGk i j), 13, 0⟩
/-- SC_SPARE (spec/07_ferry_and_tandem.md, R271) -/
def SC_SPARE : Nat := 0x200008
def SC_SPARE_SPARE : Fld := ⟨SC_SPARE, 31, 0⟩
/-- SC_FERRY_HOLD (spec/07_ferry_and_tandem.md, R271) -/
def SC_FERRY_HOLD : Nat := 0x20000C
def SC_FERRY_HOLD_HOLD : Fld := ⟨SC_FERRY_HOLD, 9, 0⟩
/-- SC_FSTAT (spec/07_ferry_and_tandem.md, R271) -/
def SC_FSTAT : Nat := 0x200010
def SC_FSTAT_BUSY : Fld := ⟨SC_FSTAT, 31, 31⟩
def SC_FSTAT_CUR : Fld := ⟨SC_FSTAT, 30, 26⟩
def SC_FSTAT_QLEN : Fld := ⟨SC_FSTAT, 25, 20⟩
def SC_FSTAT_AVAIL : Fld := ⟨SC_FSTAT, 19, 17⟩
def SC_FSTAT_RCUT : Fld := ⟨SC_FSTAT, 16, 16⟩
def SC_FSTAT_ABORT : Fld := ⟨SC_FSTAT, 15, 15⟩
def SC_FSTAT_NOSPARE : Fld := ⟨SC_FSTAT, 14, 14⟩
def SC_FSTAT_FERRIES : Fld := ⟨SC_FSTAT, 7, 0⟩
/-- SC_TFt (spec/07_ferry_and_tandem.md, R271) -/
def SC_TFt (i : Nat) : Nat := 0x200800 + 16 * i
def SC_TFt_BERTH (i : Nat) : Fld := ⟨(SC_TFt i), 31, 27⟩
def SC_TFt_AWAY (i : Nat) : Fld := ⟨(SC_TFt i), 26, 26⟩
def SC_TFt_SHSTATE (i : Nat) : Fld := ⟨(SC_TFt i), 25, 23⟩
def SC_TFt_SHBERTH (i : Nat) : Fld := ⟨(SC_TFt i), 22, 18⟩
def SC_TFt_TDM (i : Nat) : Fld := ⟨(SC_TFt i), 17, 17⟩
def SC_TFt_SOLO (i : Nat) : Fld := ⟨(SC_TFt i), 16, 16⟩
def SC_TFt_PARTNER (i : Nat) : Fld := ⟨(SC_TFt i), 15, 11⟩
def SC_TFt_UPD (i : Nat) : Fld := ⟨(SC_TFt i), 10, 8⟩
def SC_TFt_RVWAIT (i : Nat) : Fld := ⟨(SC_TFt i), 7, 7⟩
/-- SC_TFt_HOLD (spec/07_ferry_and_tandem.md, R271) -/
def SC_TFt_HOLD (i : Nat) : Nat := 0x200804 + 16 * i
def SC_TFt_HOLD_LEFT (i : Nat) : Fld := ⟨(SC_TFt_HOLD i), 9, 0⟩
/-- SCc_TEST (spec/07_ferry_and_tandem.md, R271) -/
def SCc_TEST (i : Nat) : Nat := 0x201038 + 64 * i
def SCc_TEST_DONE (i : Nat) : Fld := ⟨(SCc_TEST i), 31, 31⟩
def SCc_TEST_PASS (i : Nat) : Fld := ⟨(SCc_TEST i), 30, 30⟩
def SCc_TEST_STEP (i : Nat) : Fld := ⟨(SCc_TEST i), 29, 28⟩
def SCc_TEST_REPAIRS (i : Nat) : Fld := ⟨(SCc_TEST i), 27, 20⟩
def SCc_TEST_TESTS (i : Nat) : Fld := ⟨(SCc_TEST i), 15, 8⟩
/-- GW_CMP (spec/07_ferry_and_tandem.md, R271) -/
def GW_CMP : Nat := 0x210014
def GW_CMP_RESA : Fld := ⟨GW_CMP, 31, 24⟩
def GW_CMP_RESB : Fld := ⟨GW_CMP, 23, 16⟩
def GW_CMP_FLAGB : Fld := ⟨GW_CMP, 1, 1⟩
def GW_CMP_FLAGA : Fld := ⟨GW_CMP, 0, 0⟩
/-- MOOR_CTRL (spec/08_moorings_and_landing_queues.md, R310) -/
def MOOR_CTRL : Nat := 0x180000
def MOOR_CTRL_LOCK : Fld := ⟨MOOR_CTRL, 0, 0⟩
/-- MOOR_BINDm (spec/08_moorings_and_landing_queues.md, R310) -/
def MOOR_BINDm (i : Nat) : Nat := 0x180100 + 4 * i
def MOOR_BINDm_EN (i : Nat) : Fld := ⟨(MOOR_BINDm i), 31, 31⟩
def MOOR_BINDm_AUTHREQ (i : Nat) : Fld := ⟨(MOOR_BINDm i), 30, 30⟩
def MOOR_BINDm_LINK (i : Nat) : Fld := ⟨(MOOR_BINDm i), 2, 0⟩
/-- MOOR_STATm (spec/08_moorings_and_landing_queues.md, R310) -/
def MOOR_STATm (i : Nat) : Nat := 0x180200 + 4 * i
def MOOR_STATm_ATTACHED (i : Nat) : Fld := ⟨(MOOR_STATm i), 31, 31⟩
def MOOR_STATm_FENCED (i : Nat) : Fld := ⟨(MOOR_STATm i), 30, 30⟩
def MOOR_STATm_KEYED (i : Nat) : Fld := ⟨(MOOR_STATm i), 29, 29⟩
def MOOR_STATm_NLOST (i : Nat) : Fld := ⟨(MOOR_STATm i), 15, 8⟩
def MOOR_STATm_REFUSED (i : Nat) : Fld := ⟨(MOOR_STATm i), 7, 0⟩
/-- MOOR_SUBm (spec/08_moorings_and_landing_queues.md, R310) -/
def MOOR_SUBm (i : Nat) : Nat := 0x180300 + 4 * i
def MOOR_SUBm_CODES (i : Nat) : Fld := ⟨(MOOR_SUBm i), 15, 1⟩
/-- LQ_STAT (spec/08_moorings_and_landing_queues.md, R310) -/
def LQ_STAT : Nat := 0x170000
def LQ_STAT_READY : Fld := ⟨LQ_STAT, 31, 31⟩
def LQ_STAT_BUSY : Fld := ⟨LQ_STAT, 30, 30⟩
def LQ_STAT_CFGERR : Fld := ⟨LQ_STAT, 17, 17⟩
def LQ_STAT_VIOL : Fld := ⟨LQ_STAT, 16, 16⟩
def LQ_STAT_BADHDR : Fld := ⟨LQ_STAT, 15, 8⟩
/-- LQ_CFGm_c (spec/08_moorings_and_landing_queues.md, R310) -/
def LQ_CFGm_c (i : Nat) (j : Nat) : Nat := 0x170100 + 16 * i + 4 * j
def LQ_CFGm_c_SIZE (i : Nat) (j : Nat) : Fld := ⟨(LQ_CFGm_c i j), 29, 16⟩
def LQ_CFGm_c_BASE (i : Nat) (j : Nat) : Fld := ⟨(LQ_CFGm_c i j), 12, 0⟩
/-- LQ_PTRm_c (spec/08_moorings_and_landing_queues.md, R310) -/
def LQ_PTRm_c (i : Nat) (j : Nat) : Nat := 0x170200 + 16 * i + 4 * j
def LQ_PTRm_c_WR (i : Nat) (j : Nat) : Fld := ⟨(LQ_PTRm_c i j), 29, 16⟩
def LQ_PTRm_c_RD (i : Nat) (j : Nat) : Fld := ⟨(LQ_PTRm_c i j), 13, 0⟩
/-- LQ_LIMAm (spec/08_moorings_and_landing_queues.md, R310) -/
def LQ_LIMAm (i : Nat) : Nat := 0x170300 + 8 * i
def LQ_LIMAm_LIMIT1 (i : Nat) : Fld := ⟨(LQ_LIMAm i), 31, 16⟩
def LQ_LIMAm_LIMIT0 (i : Nat) : Fld := ⟨(LQ_LIMAm i), 15, 0⟩
/-- LQ_LIMBm (spec/08_moorings_and_landing_queues.md, R310) -/
def LQ_LIMBm (i : Nat) : Nat := 0x170304 + 8 * i
def LQ_LIMBm_LIMIT1 (i : Nat) : Fld := ⟨(LQ_LIMBm i), 31, 16⟩
def LQ_LIMBm_LIMIT0 (i : Nat) : Fld := ⟨(LQ_LIMBm i), 15, 0⟩
/-- PCIE_STAT (spec/08_moorings_and_landing_queues.md, R310) -/
def PCIE_STAT : Nat := 0x190000
def PCIE_STAT_PFUP : Fld := ⟨PCIE_STAT, 31, 28⟩
def PCIE_STAT_SPEED : Fld := ⟨PCIE_STAT, 27, 25⟩
def PCIE_STAT_WIDTH : Fld := ⟨PCIE_STAT, 24, 23⟩
def PCIE_STAT_STRAY : Fld := ⟨PCIE_STAT, 7, 0⟩
/-- PCIE_DBm (spec/08_moorings_and_landing_queues.md, R310) -/
def PCIE_DBm (i : Nat) : Nat := 0x191000 + 64 * i
def PCIE_DBm_CLASS (i : Nat) : Fld := ⟨(PCIE_DBm i), 17, 16⟩
def PCIE_DBm_LEN (i : Nat) : Fld := ⟨(PCIE_DBm i), 14, 0⟩
/-- PCIE_RBLm (spec/08_moorings_and_landing_queues.md, R310) -/
def PCIE_RBLm (i : Nat) : Nat := 0x19100C + 64 * i
def PCIE_RBLm_BASE (i : Nat) : Fld := ⟨(PCIE_RBLm i), 31, 12⟩
/-- PCIE_RBHm (spec/08_moorings_and_landing_queues.md, R310) -/
def PCIE_RBHm (i : Nat) : Nat := 0x191010 + 64 * i
def PCIE_RBHm_BASE (i : Nat) : Fld := ⟨(PCIE_RBHm i), 31, 0⟩
/-- PCIE_RCFGm (spec/08_moorings_and_landing_queues.md, R310) -/
def PCIE_RCFGm (i : Nat) : Nat := 0x191014 + 64 * i
def PCIE_RCFGm_EN (i : Nat) : Fld := ⟨(PCIE_RCFGm i), 31, 31⟩
def PCIE_RCFGm_VEC (i : Nat) : Fld := ⟨(PCIE_RCFGm i), 26, 24⟩
def PCIE_RCFGm_HOLD (i : Nat) : Fld := ⟨(PCIE_RCFGm i), 23, 16⟩
def PCIE_RCFGm_LOG2 (i : Nat) : Fld := ⟨(PCIE_RCFGm i), 4, 0⟩
/-- PCIE_RHEADm (spec/08_moorings_and_landing_queues.md, R310) -/
def PCIE_RHEADm (i : Nat) : Nat := 0x191018 + 64 * i
def PCIE_RHEADm_HEAD (i : Nat) : Fld := ⟨(PCIE_RHEADm i), 22, 0⟩
/-- PCIE_RTAILm (spec/08_moorings_and_landing_queues.md, R310) -/
def PCIE_RTAILm (i : Nat) : Nat := 0x19101C + 64 * i
def PCIE_RTAILm_TAIL (i : Nat) : Fld := ⟨(PCIE_RTAILm i), 22, 0⟩
/-- QPn_CTRL (spec/08_moorings_and_landing_queues.md, R310) -/
def QPn_CTRL (i : Nat) : Nat := 0x1A0000 + 256 * i
def QPn_CTRL_EN (i : Nat) : Fld := ⟨(QPn_CTRL i), 0, 0⟩
/-- QPn_STAT (spec/08_moorings_and_landing_queues.md, R310) -/
def QPn_STAT (i : Nat) : Nat := 0x1A0004 + 256 * i
def QPn_STAT_IRQ (i : Nat) : Fld := ⟨(QPn_STAT i), 31, 31⟩
def QPn_STAT_FULL (i : Nat) : Fld := ⟨(QPn_STAT i), 24, 24⟩
def QPn_STAT_BADOP (i : Nat) : Fld := ⟨(QPn_STAT i), 23, 16⟩
def QPn_STAT_PART (i : Nat) : Fld := ⟨(QPn_STAT i), 15, 8⟩
def QPn_STAT_FILL (i : Nat) : Fld := ⟨(QPn_STAT i), 7, 0⟩
/-- NETx_CTRL (spec/10_network_streams_and_time.md, R404) -/
def NETx_CTRL (i : Nat) : Nat := 0x130000 + 65536 * i
def NETx_CTRL_EN (i : Nat) : Fld := ⟨(NETx_CTRL i), 31, 31⟩
def NETx_CTRL_PTPDSCP (i : Nat) : Fld := ⟨(NETx_CTRL i), 29, 24⟩
def NETx_CTRL_TTL (i : Nat) : Fld := ⟨(NETx_CTRL i), 23, 16⟩
def NETx_CTRL_VLANEN (i : Nat) : Fld := ⟨(NETx_CTRL i), 15, 15⟩
def NETx_CTRL_PCP (i : Nat) : Fld := ⟨(NETx_CTRL i), 14, 12⟩
def NETx_CTRL_VID (i : Nat) : Fld := ⟨(NETx_CTRL i), 11, 0⟩
/-- NETx_STAT (spec/10_network_streams_and_time.md, R404) -/
def NETx_STAT (i : Nat) : Nat := 0x130004 + 65536 * i
def NETx_STAT_LINK (i : Nat) : Fld := ⟨(NETx_STAT i), 31, 31⟩
def NETx_STAT_SPEED (i : Nat) : Fld := ⟨(NETx_STAT i), 30, 28⟩
def NETx_STAT_RXERR (i : Nat) : Fld := ⟨(NETx_STAT i), 15, 8⟩
def NETx_STAT_RXOVF (i : Nat) : Fld := ⟨(NETx_STAT i), 7, 0⟩
/-- NETx_MACHI (spec/10_network_streams_and_time.md, R404) -/
def NETx_MACHI (i : Nat) : Nat := 0x13000C + 65536 * i
def NETx_MACHI_MACHI (i : Nat) : Fld := ⟨(NETx_MACHI i), 15, 0⟩
/-- NETx_MACLO (spec/10_network_streams_and_time.md, R404) -/
def NETx_MACLO (i : Nat) : Nat := 0x130008 + 65536 * i
def NETx_MACLO_MACLO (i : Nat) : Fld := ⟨(NETx_MACLO i), 31, 0⟩
/-- NETx_IP (spec/10_network_streams_and_time.md, R404) -/
def NETx_IP (i : Nat) : Nat := 0x130010 + 65536 * i
def NETx_IP_IP (i : Nat) : Fld := ⟨(NETx_IP i), 31, 0⟩
/-- NETx_MASK (spec/10_network_streams_and_time.md, R404) -/
def NETx_MASK (i : Nat) : Nat := 0x130014 + 65536 * i
def NETx_MASK_MASK (i : Nat) : Fld := ⟨(NETx_MASK i), 31, 0⟩
/-- NETx_TXLAT (spec/10_network_streams_and_time.md, R404) -/
def NETx_TXLAT (i : Nat) : Nat := 0x130018 + 65536 * i
def NETx_TXLAT_TXLAT (i : Nat) : Fld := ⟨(NETx_TXLAT i), 31, 0⟩
/-- NETx_RXLAT (spec/10_network_streams_and_time.md, R404) -/
def NETx_RXLAT (i : Nat) : Nat := 0x13001C + 65536 * i
def NETx_RXLAT_RXLAT (i : Nat) : Fld := ⟨(NETx_RXLAT i), 31, 0⟩
/-- NETx_ASYM (spec/10_network_streams_and_time.md, R404) -/
def NETx_ASYM (i : Nat) : Nat := 0x130020 + 65536 * i
def NETx_ASYM_ASYM (i : Nat) : Fld := ⟨(NETx_ASYM i), 31, 0⟩
/-- NETA_MDIO (spec/10_network_streams_and_time.md, R404) -/
def NETA_MDIO : Nat := 0x130040
def NETA_MDIO_GO : Fld := ⟨NETA_MDIO, 31, 31⟩
def NETA_MDIO_C45 : Fld := ⟨NETA_MDIO, 30, 30⟩
def NETA_MDIO_OP : Fld := ⟨NETA_MDIO, 29, 28⟩
def NETA_MDIO_PHYAD : Fld := ⟨NETA_MDIO, 27, 23⟩
def NETA_MDIO_REG : Fld := ⟨NETA_MDIO, 22, 18⟩
def NETA_MDIO_DATA : Fld := ⟨NETA_MDIO, 15, 0⟩
/-- STRM_STAT (spec/10_network_streams_and_time.md, R404) -/
def STRM_STAT : Nat := 0x150000
def STRM_STAT_RXRUN : Fld := ⟨STRM_STAT, 19, 10⟩
def STRM_STAT_TXRUN : Fld := ⟨STRM_STAT, 9, 0⟩
/-- STRM_ERR (spec/10_network_streams_and_time.md, R404) -/
def STRM_ERR : Nat := 0x150004
def STRM_ERR_BADPKT : Fld := ⟨STRM_ERR, 31, 24⟩
def STRM_ERR_LATE : Fld := ⟨STRM_ERR, 23, 16⟩
def STRM_ERR_EARLY : Fld := ⟨STRM_ERR, 15, 8⟩
/-- STRMn_STAT (spec/10_network_streams_and_time.md, R404) -/
def STRMn_STAT (i : Nat) : Nat := 0x151000 + 8 * i
def STRMn_STAT_RUN (i : Nat) : Fld := ⟨(STRMn_STAT i), 31, 31⟩
def STRMn_STAT_HOLDOVER (i : Nat) : Fld := ⟨(STRMn_STAT i), 30, 30⟩
def STRMn_STAT_PATHA (i : Nat) : Fld := ⟨(STRMn_STAT i), 29, 29⟩
def STRMn_STAT_PATHB (i : Nat) : Fld := ⟨(STRMn_STAT i), 28, 28⟩
def STRMn_STAT_DRY (i : Nat) : Fld := ⟨(STRMn_STAT i), 27, 27⟩
def STRMn_STAT_OVERSZ (i : Nat) : Fld := ⟨(STRMn_STAT i), 26, 26⟩
/-- STRMn_PKT (spec/10_network_streams_and_time.md, R404) -/
def STRMn_PKT (i : Nat) : Nat := 0x151004 + 8 * i
def STRMn_PKT_PKTS (i : Nat) : Fld := ⟨(STRMn_PKT i), 31, 16⟩
def STRMn_PKT_DROP (i : Nat) : Fld := ⟨(STRMn_PKT i), 15, 0⟩
/-- ZONE_STAT (spec/10_network_streams_and_time.md, R404) -/
def ZONE_STAT : Nat := 0x160000
def ZONE_STAT_ANYALARM : Fld := ⟨ZONE_STAT, 31, 31⟩
def ZONE_STAT_PENDALM : Fld := ⟨ZONE_STAT, 30, 30⟩
def ZONE_STAT_ALARMS : Fld := ⟨ZONE_STAT, 29, 16⟩
def ZONE_STAT_CLAIMED : Fld := ⟨ZONE_STAT, 13, 0⟩
/-- ZONE_AFEED (spec/10_network_streams_and_time.md, R404) -/
def ZONE_AFEED : Nat := 0x160004
def ZONE_AFEED_VALID : Fld := ⟨ZONE_AFEED, 31, 31⟩
def ZONE_AFEED_KIND : Fld := ⟨ZONE_AFEED, 30, 30⟩
def ZONE_AFEED_SRC : Fld := ⟨ZONE_AFEED, 13, 0⟩
/-- ZONE_FEEDf (spec/10_network_streams_and_time.md, R404) -/
def ZONE_FEEDf (i : Nat) : Nat := 0x160100 + 4 * i
def ZONE_FEEDf_VALID (i : Nat) : Fld := ⟨(ZONE_FEEDf i), 31, 31⟩
def ZONE_FEEDf_SLOT (i : Nat) : Fld := ⟨(ZONE_FEEDf i), 13, 0⟩
/-- TIME_STAT (spec/10_network_streams_and_time.md, R404) -/
def TIME_STAT : Nat := 0x70000
def TIME_STAT_SERVO : Fld := ⟨TIME_STAT, 31, 29⟩
def TIME_STAT_STEPPED : Fld := ⟨TIME_STAT, 28, 28⟩
def TIME_STAT_STEPOK : Fld := ⟨TIME_STAT, 27, 27⟩
def TIME_STAT_PSTB : Fld := ⟨TIME_STAT, 15, 8⟩
def TIME_STAT_PSTA : Fld := ⟨TIME_STAT, 7, 0⟩
/-- TIME_SECLO (spec/10_network_streams_and_time.md, R404) -/
def TIME_SECLO : Nat := 0x70004
def TIME_SECLO_SECLO : Fld := ⟨TIME_SECLO, 31, 0⟩
/-- TIME_SECHI (spec/10_network_streams_and_time.md, R404) -/
def TIME_SECHI : Nat := 0x70008
def TIME_SECHI_SECHI : Fld := ⟨TIME_SECHI, 31, 0⟩
/-- TIME_NS (spec/10_network_streams_and_time.md, R404) -/
def TIME_NS : Nat := 0x7000C
def TIME_NS_NS : Fld := ⟨TIME_NS, 29, 0⟩
/-- TIME_FRAC (spec/10_network_streams_and_time.md, R404) -/
def TIME_FRAC : Nat := 0x70010
def TIME_FRAC_FRAC : Fld := ⟨TIME_FRAC, 31, 16⟩
/-- TIME_MSILO (spec/10_network_streams_and_time.md, R404) -/
def TIME_MSILO : Nat := 0x70014
def TIME_MSILO_MSILO : Fld := ⟨TIME_MSILO, 31, 0⟩
/-- TIME_MSIHI (spec/10_network_streams_and_time.md, R404) -/
def TIME_MSIHI : Nat := 0x70018
def TIME_MSIHI_MSIHI : Fld := ⟨TIME_MSIHI, 31, 0⟩
/-- TIME_OFS (spec/10_network_streams_and_time.md, R404) -/
def TIME_OFS : Nat := 0x7001C
def TIME_OFS_OFS : Fld := ⟨TIME_OFS, 31, 0⟩
/-- TIME_MPD (spec/10_network_streams_and_time.md, R404) -/
def TIME_MPD : Nat := 0x70020
def TIME_MPD_MPD : Fld := ⟨TIME_MPD, 31, 0⟩
/-- TIME_GMHI (spec/10_network_streams_and_time.md, R404) -/
def TIME_GMHI : Nat := 0x70024
def TIME_GMHI_GMHI : Fld := ⟨TIME_GMHI, 31, 0⟩
/-- TIME_GMLO (spec/10_network_streams_and_time.md, R404) -/
def TIME_GMLO : Nat := 0x70028
def TIME_GMLO_GMLO : Fld := ⟨TIME_GMLO, 31, 0⟩
/-- TIME_CFG (spec/10_network_streams_and_time.md, R404) -/
def TIME_CFG : Nat := 0x7002C
def TIME_CFG_DOMAIN : Fld := ⟨TIME_CFG, 23, 16⟩
def TIME_CFG_PORTS : Fld := ⟨TIME_CFG, 11, 10⟩
def TIME_CFG_ROLE : Fld := ⟨TIME_CFG, 9, 8⟩
def TIME_CFG_PROFILE : Fld := ⟨TIME_CFG, 2, 0⟩
/-- DCO_FREQ (spec/10_network_streams_and_time.md, R404) -/
def DCO_FREQ : Nat := 0x80000
def DCO_FREQ_FREQ : Fld := ⟨DCO_FREQ, 31, 0⟩
/-- DCO_HOLD (spec/10_network_streams_and_time.md, R404) -/
def DCO_HOLD : Nat := 0x80004
def DCO_HOLD_HOLD : Fld := ⟨DCO_HOLD, 31, 0⟩
/-- DCO_STAT (spec/10_network_streams_and_time.md, R404) -/
def DCO_STAT : Nat := 0x80008
def DCO_STAT_SLEW : Fld := ⟨DCO_STAT, 31, 31⟩
def DCO_STAT_EXT : Fld := ⟨DCO_STAT, 30, 30⟩
def DCO_STAT_SAT : Fld := ⟨DCO_STAT, 29, 29⟩
/-- TDM_ZC (spec/11_audio_ports_and_asrc.md, R438) -/
def TDM_ZC : Nat := 0x1B0000
def TDM_ZC_TO : Fld := ⟨TDM_ZC, 6, 0⟩
/-- TDMg_GCFG (spec/11_audio_ports_and_asrc.md, R438) -/
def TDMg_GCFG (i : Nat) : Nat := 0x1B0100 + 16 * i
def TDMg_GCFG_EN (i : Nat) : Fld := ⟨(TDMg_GCFG i), 31, 31⟩
def TDMg_GCFG_MASTER (i : Nat) : Fld := ⟨(TDMg_GCFG i), 30, 30⟩
def TDMg_GCFG_FMT (i : Nat) : Fld := ⟨(TDMg_GCFG i), 29, 28⟩
def TDMg_GCFG_SW (i : Nat) : Fld := ⟨(TDMg_GCFG i), 27, 26⟩
def TDMg_GCFG_SLOTS (i : Nat) : Fld := ⟨(TDMg_GCFG i), 25, 23⟩
def TDMg_GCFG_FSW (i : Nat) : Fld := ⟨(TDMg_GCFG i), 22, 22⟩
def TDMg_GCFG_FSINV (i : Nat) : Fld := ⟨(TDMg_GCFG i), 21, 21⟩
def TDMg_GCFG_BCINV (i : Nat) : Fld := ⟨(TDMg_GCFG i), 20, 20⟩
def TDMg_GCFG_DLY (i : Nat) : Fld := ⟨(TDMg_GCFG i), 19, 19⟩
def TDMg_GCFG_FADE (i : Nat) : Fld := ⟨(TDMg_GCFG i), 18, 17⟩
def TDMg_GCFG_AGRP (i : Nat) : Fld := ⟨(TDMg_GCFG i), 16, 13⟩
/-- TDMg_GSTAT (spec/11_audio_ports_and_asrc.md, R438) -/
def TDMg_GSTAT (i : Nat) : Nat := 0x1B0104 + 16 * i
def TDMg_GSTAT_STATE (i : Nat) : Fld := ⟨(TDMg_GSTAT i), 31, 30⟩
def TDMg_GSTAT_ASRC (i : Nat) : Fld := ⟨(TDMg_GSTAT i), 29, 29⟩
def TDMg_GSTAT_PHASE (i : Nat) : Fld := ⟨(TDMg_GSTAT i), 28, 22⟩
def TDMg_GSTAT_BADFRM (i : Nat) : Fld := ⟨(TDMg_GSTAT i), 15, 8⟩
def TDMg_GSTAT_SLIP (i : Nat) : Fld := ⟨(TDMg_GSTAT i), 7, 0⟩
/-- TDMl_ICFG (spec/11_audio_ports_and_asrc.md, R438) -/
def TDMl_ICFG (i : Nat) : Nat := 0x1B0200 + 8 * i
def TDMl_ICFG_EN (i : Nat) : Fld := ⟨(TDMl_ICFG i), 31, 31⟩
def TDMl_ICFG_GROUP (i : Nat) : Fld := ⟨(TDMl_ICFG i), 30, 29⟩
def TDMl_ICFG_HIZ (i : Nat) : Fld := ⟨(TDMl_ICFG i), 28, 28⟩
/-- TDMl_OCFG (spec/11_audio_ports_and_asrc.md, R438) -/
def TDMl_OCFG (i : Nat) : Nat := 0x1B0204 + 8 * i
def TDMl_OCFG_EN (i : Nat) : Fld := ⟨(TDMl_OCFG i), 31, 31⟩
def TDMl_OCFG_GROUP (i : Nat) : Fld := ⟨(TDMl_OCFG i), 30, 29⟩
def TDMl_OCFG_HIZ (i : Nat) : Fld := ⟨(TDMl_OCFG i), 28, 28⟩
/-- TDM_RUNIn (spec/11_audio_ports_and_asrc.md, R438) -/
def TDM_RUNIn (i : Nat) : Nat := 0x1B0400 + 4 * i
def TDM_RUNIn_RUN (i : Nat) : Fld := ⟨(TDM_RUNIn i), 31, 0⟩
/-- TDM_RUNOn (spec/11_audio_ports_and_asrc.md, R438) -/
def TDM_RUNOn (i : Nat) : Nat := 0x1B0500 + 4 * i
def TDM_RUNOn_RUN (i : Nat) : Fld := ⟨(TDM_RUNOn i), 31, 0⟩
/-- AESRXn_CFG (spec/11_audio_ports_and_asrc.md, R438) -/
def AESRXn_CFG (i : Nat) : Nat := 0x1C0100 + 32 * i
def AESRXn_CFG_EN (i : Nat) : Fld := ⟨(AESRXn_CFG i), 31, 31⟩
def AESRXn_CFG_VPOL (i : Nat) : Fld := ⟨(AESRXn_CFG i), 30, 30⟩
def AESRXn_CFG_FADE (i : Nat) : Fld := ⟨(AESRXn_CFG i), 29, 28⟩
def AESRXn_CFG_AGRP (i : Nat) : Fld := ⟨(AESRXn_CFG i), 27, 24⟩
/-- AESRXn_STAT (spec/11_audio_ports_and_asrc.md, R438) -/
def AESRXn_STAT (i : Nat) : Nat := 0x1C0104 + 32 * i
def AESRXn_STAT_LOCK (i : Nat) : Fld := ⟨(AESRXn_STAT i), 31, 31⟩
def AESRXn_STAT_NOM (i : Nat) : Fld := ⟨(AESRXn_STAT i), 30, 28⟩
def AESRXn_STAT_PRO (i : Nat) : Fld := ⟨(AESRXn_STAT i), 27, 27⟩
def AESRXn_STAT_CRCERR (i : Nat) : Fld := ⟨(AESRXn_STAT i), 26, 26⟩
def AESRXn_STAT_VSEEN (i : Nat) : Fld := ⟨(AESRXn_STAT i), 25, 25⟩
def AESRXn_STAT_MEAS (i : Nat) : Fld := ⟨(AESRXn_STAT i), 19, 0⟩
/-- AESRXn_ERR (spec/11_audio_ports_and_asrc.md, R438) -/
def AESRXn_ERR (i : Nat) : Nat := 0x1C0108 + 32 * i
def AESRXn_ERR_PARITY (i : Nat) : Fld := ⟨(AESRXn_ERR i), 31, 16⟩
def AESRXn_ERR_BIPHASE (i : Nat) : Fld := ⟨(AESRXn_ERR i), 15, 0⟩
/-- AESTXt_CFG (spec/11_audio_ports_and_asrc.md, R438) -/
def AESTXt_CFG (i : Nat) : Nat := 0x1C0400 + 64 * i
def AESTXt_CFG_EN (i : Nat) : Fld := ⟨(AESTXt_CFG i), 31, 31⟩
def AESTXt_CFG_VSTOP (i : Nat) : Fld := ⟨(AESTXt_CFG i), 30, 30⟩
/-- AESTXt_CSk (spec/11_audio_ports_and_asrc.md, R438) -/
def AESTXt_CSk (i : Nat) (j : Nat) : Nat := 0x1C0404 + 64 * i + 4 * j
def AESTXt_CSk_CS (i : Nat) (j : Nat) : Fld := ⟨(AESTXt_CSk i j), 31, 0⟩
/-- ASRCn_CFG (spec/11_audio_ports_and_asrc.md, R438) -/
def ASRCn_CFG (i : Nat) : Nat := 0x1D0100 + 8 * i
def ASRCn_CFG_VALID (i : Nat) : Fld := ⟨(ASRCn_CFG i), 31, 31⟩
def ASRCn_CFG_CNTM1 (i : Nat) : Fld := ⟨(ASRCn_CFG i), 19, 16⟩
def ASRCn_CFG_INDEX (i : Nat) : Fld := ⟨(ASRCn_CFG i), 10, 8⟩
def ASRCn_CFG_KIND (i : Nat) : Fld := ⟨(ASRCn_CFG i), 0, 0⟩
/-- ASRCn_STAT (spec/11_audio_ports_and_asrc.md, R438) -/
def ASRCn_STAT (i : Nat) : Nat := 0x1D0104 + 8 * i
def ASRCn_STAT_STATE (i : Nat) : Fld := ⟨(ASRCn_STAT i), 31, 29⟩
def ASRCn_STAT_RATIO (i : Nat) : Fld := ⟨(ASRCn_STAT i), 27, 0⟩
/-- CKG_ENn (spec/12_clocks_and_references.md, R474) -/
def CKG_ENn (i : Nat) : Nat := 0x20000 + 4 * i
def CKG_ENn_EN (i : Nat) : Fld := ⟨(CKG_ENn i), 31, 0⟩
/-- CKG_STAT (spec/12_clocks_and_references.md, R474) -/
def CKG_STAT : Nat := 0x20010
def CKG_STAT_CUT : Fld := ⟨CKG_STAT, 1, 1⟩
def CKG_STAT_BUSY : Fld := ⟨CKG_STAT, 0, 0⟩
/-- CKM_STAT (spec/12_clocks_and_references.md, R474) -/
def CKM_STAT : Nat := 0x30000
def CKM_STAT_XOSTABLE : Fld := ⟨CKM_STAT, 31, 31⟩
def CKM_STAT_XOFAIL : Fld := ⟨CKM_STAT, 30, 30⟩
def CKM_STAT_DFAIL : Fld := ⟨CKM_STAT, 23, 16⟩
def CKM_STAT_CKMUX_HANG : Fld := ⟨CKM_STAT, 15, 8⟩
def CKM_STAT_ONROOT : Fld := ⟨CKM_STAT, 7, 0⟩
/-- CKM_XO (spec/12_clocks_and_references.md, R474) -/
def CKM_XO : Nat := 0x30004
def CKM_XO_GOOD : Fld := ⟨CKM_XO, 24, 16⟩
def CKM_XO_COUNT : Fld := ⟨CKM_XO, 11, 0⟩
/-- CKM_SRC (spec/12_clocks_and_references.md, R474) -/
def CKM_SRC : Nat := 0x30008
def CKM_SRC_SRCE : Fld := ⟨CKM_SRC, 31, 30⟩
def CKM_SRC_RX : Fld := ⟨CKM_SRC, 29, 27⟩
def CKM_SRC_TRIM : Fld := ⟨CKM_SRC, 7, 0⟩
/-- CKM_MONd (spec/12_clocks_and_references.md, R474) -/
def CKM_MONd (i : Nat) : Nat := 0x30020 + 4 * i
def CKM_MONd_COUNT (i : Nat) : Fld := ⟨(CKM_MONd i), 16, 0⟩
/-- PLL0_STAT (spec/12_clocks_and_references.md, R474) -/
def PLL0_STAT : Nat := 0x40000
def PLL0_STAT_LOCK : Fld := ⟨PLL0_STAT, 31, 31⟩
def PLL0_STAT_COAST : Fld := ⟨PLL0_STAT, 30, 30⟩
def PLL0_STAT_BAND : Fld := ⟨PLL0_STAT, 2, 0⟩
/-- MPLL_STAT (spec/12_clocks_and_references.md, R474) -/
def MPLL_STAT : Nat := 0x50000
def MPLL_STAT_LOCK : Fld := ⟨MPLL_STAT, 31, 31⟩
def MPLL_STAT_COAST : Fld := ⟨MPLL_STAT, 30, 30⟩
def MPLL_STAT_NOBAND : Fld := ⟨MPLL_STAT, 29, 29⟩
def MPLL_STAT_UNLK : Fld := ⟨MPLL_STAT, 28, 28⟩
def MPLL_STAT_BAND : Fld := ⟨MPLL_STAT, 19, 16⟩
def MPLL_STAT_PERR : Fld := ⟨MPLL_STAT, 15, 0⟩
/-- MPLL_MCLKn (spec/12_clocks_and_references.md, R474) -/
def MPLL_MCLKn (i : Nat) : Nat := 0x50010 + 4 * i
def MPLL_MCLKn_EN (i : Nat) : Fld := ⟨(MPLL_MCLKn i), 8, 8⟩
def MPLL_MCLKn_MULT (i : Nat) : Fld := ⟨(MPLL_MCLKn i), 1, 0⟩
/-- MPLL_BANDk (spec/12_clocks_and_references.md, R474) -/
def MPLL_BANDk (i : Nat) : Nat := 0x50100 + 4 * i
def MPLL_BANDk_VALID (i : Nat) : Fld := ⟨(MPLL_BANDk i), 31, 31⟩
def MPLL_BANDk_CAP (i : Nat) : Fld := ⟨(MPLL_BANDk i), 29, 24⟩
def MPLL_BANDk_FMIN (i : Nat) : Fld := ⟨(MPLL_BANDk i), 23, 12⟩
def MPLL_BANDk_FMAX (i : Nat) : Fld := ⟨(MPLL_BANDk i), 11, 0⟩
/-- RSEL_STAT (spec/12_clocks_and_references.md, R474) -/
def RSEL_STAT : Nat := 0x60000
def RSEL_STAT_STATE : Fld := ⟨RSEL_STAT, 31, 29⟩
def RSEL_STAT_DEFER : Fld := ⟨RSEL_STAT, 28, 28⟩
def RSEL_STAT_SEL : Fld := ⟨RSEL_STAT, 27, 24⟩
def RSEL_STAT_CAND : Fld := ⟨RSEL_STAT, 23, 20⟩
def RSEL_STAT_MODE : Fld := ⟨RSEL_STAT, 17, 16⟩
def RSEL_STAT_FORCED : Fld := ⟨RSEL_STAT, 15, 12⟩
def RSEL_STAT_SWITCHES : Fld := ⟨RSEL_STAT, 7, 0⟩
/-- RSEL_OPHk (spec/12_clocks_and_references.md, R474) -/
def RSEL_OPHk (i : Nat) : Nat := 0x60020 + 4 * i
def RSEL_OPHk_OPH (i : Nat) : Fld := ⟨(RSEL_OPHk i), 29, 0⟩
/-- RSEL_INn_CFG (spec/12_clocks_and_references.md, R474) -/
def RSEL_INn_CFG (i : Nat) : Nat := 0x60100 + 32 * i
def RSEL_INn_CFG_EN (i : Nat) : Fld := ⟨(RSEL_INn_CFG i), 31, 31⟩
def RSEL_INn_CFG_RANK (i : Nat) : Fld := ⟨(RSEL_INn_CFG i), 27, 24⟩
def RSEL_INn_CFG_WTR (i : Nat) : Fld := ⟨(RSEL_INn_CFG i), 15, 0⟩
/-- RSEL_INn_BW (spec/12_clocks_and_references.md, R474) -/
def RSEL_INn_BW (i : Nat) : Nat := 0x60104 + 32 * i
def RSEL_INn_BW_BW (i : Nat) : Fld := ⟨(RSEL_INn_BW i), 19, 0⟩
/-- RSEL_INn_TOL (spec/12_clocks_and_references.md, R474) -/
def RSEL_INn_TOL (i : Nat) : Nat := 0x60108 + 32 * i
def RSEL_INn_TOL_QT (i : Nat) : Fld := ⟨(RSEL_INn_TOL i), 31, 16⟩
def RSEL_INn_TOL_TOL (i : Nat) : Fld := ⟨(RSEL_INn_TOL i), 15, 0⟩
/-- RSEL_INn_STAT (spec/12_clocks_and_references.md, R474) -/
def RSEL_INn_STAT (i : Nat) : Nat := 0x6010C + 32 * i
def RSEL_INn_STAT_STATE (i : Nat) : Fld := ⟨(RSEL_INn_STAT i), 31, 29⟩
def RSEL_INn_STAT_EN (i : Nat) : Fld := ⟨(RSEL_INn_STAT i), 28, 28⟩
def RSEL_INn_STAT_RANK (i : Nat) : Fld := ⟨(RSEL_INn_STAT i), 27, 24⟩
def RSEL_INn_STAT_TIMER (i : Nat) : Fld := ⟨(RSEL_INn_STAT i), 23, 16⟩
def RSEL_INn_STAT_FOFS (i : Nat) : Fld := ⟨(RSEL_INn_STAT i), 15, 0⟩
/-- RSEL_INn_PH (spec/12_clocks_and_references.md, R474) -/
def RSEL_INn_PH (i : Nat) : Nat := 0x60110 + 32 * i
def RSEL_INn_PH_A (i : Nat) : Fld := ⟨(RSEL_INn_PH i), 31, 0⟩
/-- FAB_CTRL (spec/13_onchip_memory_and_integrity.md, R511) -/
def FAB_CTRL : Nat := 0x10000
def FAB_CTRL_LOCK : Fld := ⟨FAB_CTRL, 1, 1⟩
def FAB_CTRL_REMAP : Fld := ⟨FAB_CTRL, 0, 0⟩
/-- FAB_STAT (spec/13_onchip_memory_and_integrity.md, R511) -/
def FAB_STAT : Nat := 0x10004
def FAB_STAT_HOLE : Fld := ⟨FAB_STAT, 31, 24⟩
def FAB_STAT_NOPATH : Fld := ⟨FAB_STAT, 23, 16⟩
def FAB_STAT_PDERR : Fld := ⟨FAB_STAT, 15, 8⟩
/-- FAB_SLICEm (spec/13_onchip_memory_and_integrity.md, R511) -/
def FAB_SLICEm (i : Nat) : Nat := 0x10100 + 4 * i
def FAB_SLICEm_SLICE (i : Nat) : Fld := ⟨(FAB_SLICEm i), 10, 0⟩
/-- BANK_STATb (spec/13_onchip_memory_and_integrity.md, R511) -/
def BANK_STATb (i : Nat) : Nat := 0xB0100 + 16 * i
def BANK_STATb_READY (i : Nat) : Fld := ⟨(BANK_STATb i), 31, 31⟩
def BANK_STATb_FAIL (i : Nat) : Fld := ⟨(BANK_STATb i), 30, 30⟩
def BANK_STATb_VB (i : Nat) : Fld := ⟨(BANK_STATb i), 29, 29⟩
def BANK_STATb_UE (i : Nat) : Fld := ⟨(BANK_STATb i), 28, 28⟩
def BANK_STATb_PSTATE (i : Nat) : Fld := ⟨(BANK_STATb i), 27, 26⟩
def BANK_STATb_REPAIRS (i : Nat) : Fld := ⟨(BANK_STATb i), 23, 16⟩
def BANK_STATb_FUSEREP (i : Nat) : Fld := ⟨(BANK_STATb i), 15, 8⟩
/-- BANK_CEb (spec/13_onchip_memory_and_integrity.md, R511) -/
def BANK_CEb (i : Nat) : Nat := 0xB0104 + 16 * i
def BANK_CEb_CE (i : Nat) : Fld := ⟨(BANK_CEb i), 15, 0⟩
/-- BANK_UEb (spec/13_onchip_memory_and_integrity.md, R511) -/
def BANK_UEb (i : Nat) : Nat := 0xB0108 + 16 * i
def BANK_UEb_ADDR (i : Nat) : Fld := ⟨(BANK_UEb i), 31, 0⟩
/-- ECC_TEST_CTRL (spec/13_onchip_memory_and_integrity.md, R511) -/
def ECC_TEST_CTRL : Nat := 0xC0000
def ECC_TEST_CTRL_RAW : Fld := ⟨ECC_TEST_CTRL, 31, 31⟩
def ECC_TEST_CTRL_REFUSED : Fld := ⟨ECC_TEST_CTRL, 30, 30⟩
def ECC_TEST_CTRL_BANK : Fld := ⟨ECC_TEST_CTRL, 5, 0⟩
/-- ECC_TEST_CHK (spec/13_onchip_memory_and_integrity.md, R511) -/
def ECC_TEST_CHK : Nat := 0xC0004
def ECC_TEST_CHK_CHK : Fld := ⟨ECC_TEST_CHK, 7, 0⟩
/-- ECC_FLIP_ADDR (spec/13_onchip_memory_and_integrity.md, R511) -/
def ECC_FLIP_ADDR : Nat := 0xC0010
def ECC_FLIP_ADDR_ADDR : Fld := ⟨ECC_FLIP_ADDR, 31, 0⟩
/-- ECC_FLIP_LO (spec/13_onchip_memory_and_integrity.md, R511) -/
def ECC_FLIP_LO : Nat := 0xC0014
def ECC_FLIP_LO_LO : Fld := ⟨ECC_FLIP_LO, 31, 0⟩
/-- ECC_FLIP_HI (spec/13_onchip_memory_and_integrity.md, R511) -/
def ECC_FLIP_HI : Nat := 0xC0018
def ECC_FLIP_HI_HI : Fld := ⟨ECC_FLIP_HI, 31, 0⟩
/-- ECC_FLIP_CTL (spec/13_onchip_memory_and_integrity.md, R511) -/
def ECC_FLIP_CTL : Nat := 0xC001C
def ECC_FLIP_CTL_ARM : Fld := ⟨ECC_FLIP_CTL, 31, 31⟩
def ECC_FLIP_CTL_CHK : Fld := ⟨ECC_FLIP_CTL, 7, 0⟩
/-- SCRB_EN0 (spec/13_onchip_memory_and_integrity.md, R511) -/
def SCRB_EN0 : Nat := 0xD0000
def SCRB_EN0_EN : Fld := ⟨SCRB_EN0, 31, 0⟩
/-- SCRB_EN1 (spec/13_onchip_memory_and_integrity.md, R511) -/
def SCRB_EN1 : Nat := 0xD0004
def SCRB_EN1_EN : Fld := ⟨SCRB_EN1, 31, 0⟩
/-- SCRB_LAP (spec/13_onchip_memory_and_integrity.md, R511) -/
def SCRB_LAP : Nat := 0xD0008
def SCRB_LAP_LAP : Fld := ⟨SCRB_LAP, 31, 0⟩
/-- SCRB_CNT (spec/13_onchip_memory_and_integrity.md, R511) -/
def SCRB_CNT : Nat := 0xD0010
def SCRB_CNT_CNT : Fld := ⟨SCRB_CNT, 31, 0⟩
/-- SCRB_STAT (spec/13_onchip_memory_and_integrity.md, R511) -/
def SCRB_STAT : Nat := 0xD000C
def SCRB_STAT_RUN : Fld := ⟨SCRB_STAT, 31, 31⟩
def SCRB_STAT_SKIP : Fld := ⟨SCRB_STAT, 30, 30⟩
def SCRB_STAT_BANK : Fld := ⟨SCRB_STAT, 29, 24⟩
def SCRB_STAT_POS : Fld := ⟨SCRB_STAT, 23, 0⟩
/-- MARCH_STAT (spec/13_onchip_memory_and_integrity.md, R511) -/
def MARCH_STAT : Nat := 0xE0000
def MARCH_STAT_RUN : Fld := ⟨MARCH_STAT, 31, 31⟩
def MARCH_STAT_PRES : Fld := ⟨MARCH_STAT, 30, 30⟩
def MARCH_STAT_BANK : Fld := ⟨MARCH_STAT, 29, 24⟩
def MARCH_STAT_POS : Fld := ⟨MARCH_STAT, 23, 0⟩
/-- MARCH_RESb (spec/13_onchip_memory_and_integrity.md, R511) -/
def MARCH_RESb (i : Nat) : Nat := 0xE0100 + 4 * i
def MARCH_RESb_DONE (i : Nat) : Fld := ⟨(MARCH_RESb i), 31, 31⟩
def MARCH_RESb_PASS (i : Nat) : Fld := ⟨(MARCH_RESb i), 30, 30⟩
def MARCH_RESb_RUN (i : Nat) : Fld := ⟨(MARCH_RESb i), 29, 29⟩
def MARCH_RESb_REPAIRS (i : Nat) : Fld := ⟨(MARCH_RESb i), 23, 16⟩
/-- SEC_STAT (spec/13_onchip_memory_and_integrity.md, R511) -/
def SEC_STAT : Nat := 0xF0000
def SEC_STAT_WIPING : Fld := ⟨SEC_STAT, 31, 31⟩
def SEC_STAT_WIPED : Fld := ⟨SEC_STAT, 30, 30⟩
def SEC_STAT_CAUSE : Fld := ⟨SEC_STAT, 19, 16⟩
def SEC_STAT_KEYED : Fld := ⟨SEC_STAT, 15, 8⟩
def SEC_STAT_SLOTS : Fld := ⟨SEC_STAT, 7, 4⟩
/-- SEC_WIPES (spec/13_onchip_memory_and_integrity.md, R511) -/
def SEC_WIPES : Nat := 0xF0004
def SEC_WIPES_WIPES : Fld := ⟨SEC_WIPES, 15, 0⟩
/-- LC_STATE (spec/13_onchip_memory_and_integrity.md, R511) -/
def LC_STATE : Nat := 0x100000
def LC_STATE_STATE : Fld := ⟨LC_STATE, 1, 0⟩
/-- DRC_CTRL (spec/14_dram_controller.md, R540) -/
def DRC_CTRL : Nat := 0x110000
def DRC_CTRL_PATROL : Fld := ⟨DRC_CTRL, 0, 0⟩
/-- DRC_STAT (spec/14_dram_controller.md, R540) -/
def DRC_STAT : Nat := 0x110004
def DRC_STAT_READY : Fld := ⟨DRC_STAT, 31, 31⟩
def DRC_STAT_STATE : Fld := ⟨DRC_STAT, 30, 28⟩
def DRC_STAT_DENS : Fld := ⟨DRC_STAT, 27, 25⟩
def DRC_STAT_RATE : Fld := ⟨DRC_STAT, 24, 22⟩
def DRC_STAT_DHOT : Fld := ⟨DRC_STAT, 21, 21⟩
def DRC_STAT_DLCUT : Fld := ⟨DRC_STAT, 20, 20⟩
def DRC_STAT_UE : Fld := ⟨DRC_STAT, 19, 19⟩
/-- DRC_CAP (spec/14_dram_controller.md, R540) -/
def DRC_CAP : Nat := 0x110008
def DRC_CAP_INST : Fld := ⟨DRC_CAP, 29, 16⟩
def DRC_CAP_USE : Fld := ⟨DRC_CAP, 13, 0⟩
/-- DRC_CE (spec/14_dram_controller.md, R540) -/
def DRC_CE : Nat := 0x11000C
def DRC_CE_CE : Fld := ⟨DRC_CE, 15, 0⟩
/-- DRC_DLPASS (spec/14_dram_controller.md, R540) -/
def DRC_DLPASS : Nat := 0x110018
def DRC_DLPASS_PASS : Fld := ⟨DRC_DLPASS, 19, 0⟩
/-- DRC_UELO (spec/14_dram_controller.md, R540) -/
def DRC_UELO : Nat := 0x110010
def DRC_UELO_ADDR : Fld := ⟨DRC_UELO, 31, 0⟩
/-- DRC_UEHI (spec/14_dram_controller.md, R540) -/
def DRC_UEHI : Nat := 0x110014
def DRC_UEHI_PORT : Fld := ⟨DRC_UEHI, 18, 16⟩
def DRC_UEHI_ADDRHI : Fld := ⟨DRC_UEHI, 7, 0⟩
/-- DRC_QOSp (spec/14_dram_controller.md, R540) -/
def DRC_QOSp (i : Nat) : Nat := 0x110100 + 4 * i
def DRC_QOSp_MISS (i : Nat) : Fld := ⟨(DRC_QOSp i), 31, 16⟩
def DRC_QOSp_TARGET (i : Nat) : Fld := ⟨(DRC_QOSp i), 15, 0⟩
/-- DRC_WINk (spec/14_dram_controller.md, R540) -/
def DRC_WINk (i : Nat) : Nat := 0x110200 + 4 * i
def DRC_WINk_EN (i : Nat) : Fld := ⟨(DRC_WINk i), 31, 31⟩
def DRC_WINk_MOOR (i : Nat) : Fld := ⟨(DRC_WINk i), 30, 28⟩
def DRC_WINk_SIZE (i : Nat) : Fld := ⟨(DRC_WINk i), 27, 14⟩
def DRC_WINk_BASE (i : Nat) : Fld := ⟨(DRC_WINk i), 13, 0⟩
/-- DRC_DLn_W0 (spec/14_dram_controller.md, R540) -/
def DRC_DLn_W0 (i : Nat) : Nat := 0x114000 + 32 * i
def DRC_DLn_W0_EN (i : Nat) : Fld := ⟨(DRC_DLn_W0 i), 31, 31⟩
def DRC_DLn_W0_T1EN (i : Nat) : Fld := ⟨(DRC_DLn_W0 i), 30, 30⟩
def DRC_DLn_W0_CV (i : Nat) : Fld := ⟨(DRC_DLn_W0 i), 29, 29⟩
def DRC_DLn_W0_OSLOT0 (i : Nat) : Fld := ⟨(DRC_DLn_W0 i), 27, 14⟩
def DRC_DLn_W0_ISLOT (i : Nat) : Fld := ⟨(DRC_DLn_W0 i), 13, 0⟩
/-- DRC_DLn_W1 (spec/14_dram_controller.md, R540) -/
def DRC_DLn_W1 (i : Nat) : Nat := 0x114004 + 32 * i
def DRC_DLn_W1_OSLOT1 (i : Nat) : Fld := ⟨(DRC_DLn_W1 i), 27, 14⟩
def DRC_DLn_W1_CSLOT (i : Nat) : Fld := ⟨(DRC_DLn_W1 i), 13, 0⟩
/-- DRC_DLn_W2 (spec/14_dram_controller.md, R540) -/
def DRC_DLn_W2 (i : Nat) : Nat := 0x114008 + 32 * i
def DRC_DLn_W2_BASE (i : Nat) : Fld := ⟨(DRC_DLn_W2 i), 26, 0⟩
/-- DRC_DLn_W3 (spec/14_dram_controller.md, R540) -/
def DRC_DLn_W3 (i : Nat) : Nat := 0x11400C + 32 * i
def DRC_DLn_W3_LEN16 (i : Nat) : Fld := ⟨(DRC_DLn_W3 i), 16, 0⟩
/-- DRC_DLn_W4 (spec/14_dram_controller.md, R540) -/
def DRC_DLn_W4 (i : Nat) : Nat := 0x114010 + 32 * i
def DRC_DLn_W4_DLY0 (i : Nat) : Fld := ⟨(DRC_DLn_W4 i), 20, 0⟩
/-- DRC_DLn_W5 (spec/14_dram_controller.md, R540) -/
def DRC_DLn_W5 (i : Nat) : Nat := 0x114014 + 32 * i
def DRC_DLn_W5_DLY1 (i : Nat) : Fld := ⟨(DRC_DLn_W5 i), 20, 0⟩
/-- DRC_DLn_W6 (spec/14_dram_controller.md, R540) -/
def DRC_DLn_W6 (i : Nat) : Nat := 0x114018 + 32 * i
def DRC_DLn_W6_ERR (i : Nat) : Fld := ⟨(DRC_DLn_W6 i), 31, 31⟩
def DRC_DLn_W6_CLAMP (i : Nat) : Fld := ⟨(DRC_DLn_W6 i), 30, 30⟩
def DRC_DLn_W6_DIN0 (i : Nat) : Fld := ⟨(DRC_DLn_W6 i), 20, 0⟩
/-- DRC_PLAYp_W0 (spec/14_dram_controller.md, R540) -/
def DRC_PLAYp_W0 (i : Nat) : Nat := 0x11C000 + 16 * i
def DRC_PLAYp_W0_EN (i : Nat) : Fld := ⟨(DRC_PLAYp_W0 i), 31, 31⟩
def DRC_PLAYp_W0_OSLOT (i : Nat) : Fld := ⟨(DRC_PLAYp_W0 i), 27, 14⟩
def DRC_PLAYp_W0_CSLOT (i : Nat) : Fld := ⟨(DRC_PLAYp_W0 i), 13, 0⟩
/-- DRC_PLAYp_W1 (spec/14_dram_controller.md, R540) -/
def DRC_PLAYp_W1 (i : Nat) : Nat := 0x11C004 + 16 * i
def DRC_PLAYp_W1_BASE (i : Nat) : Fld := ⟨(DRC_PLAYp_W1 i), 26, 0⟩
/-- DRC_PLAYp_W2 (spec/14_dram_controller.md, R540) -/
def DRC_PLAYp_W2 (i : Nat) : Nat := 0x11C008 + 16 * i
def DRC_PLAYp_W2_LEN (i : Nat) : Fld := ⟨(DRC_PLAYp_W2 i), 27, 0⟩
/-- DRC_PLAYp_W3 (spec/14_dram_controller.md, R540) -/
def DRC_PLAYp_W3 (i : Nat) : Nat := 0x11C00C + 16 * i
def DRC_PLAYp_W3_PLAY (i : Nat) : Fld := ⟨(DRC_PLAYp_W3 i), 31, 31⟩
def DRC_PLAYp_W3_POS (i : Nat) : Fld := ⟨(DRC_PLAYp_W3 i), 27, 0⟩
/-- DRC_CAPc_W0 (spec/14_dram_controller.md, R540) -/
def DRC_CAPc_W0 (i : Nat) : Nat := 0x11D000 + 16 * i
def DRC_CAPc_W0_EN (i : Nat) : Fld := ⟨(DRC_CAPc_W0 i), 31, 31⟩
def DRC_CAPc_W0_ISLOT (i : Nat) : Fld := ⟨(DRC_CAPc_W0 i), 13, 0⟩
/-- DRC_CAPc_W1 (spec/14_dram_controller.md, R540) -/
def DRC_CAPc_W1 (i : Nat) : Nat := 0x11D004 + 16 * i
def DRC_CAPc_W1_BASE (i : Nat) : Fld := ⟨(DRC_CAPc_W1 i), 26, 0⟩
/-- DRC_CAPc_W2 (spec/14_dram_controller.md, R540) -/
def DRC_CAPc_W2 (i : Nat) : Nat := 0x11D008 + 16 * i
def DRC_CAPc_W2_LEN (i : Nat) : Fld := ⟨(DRC_CAPc_W2 i), 27, 0⟩
/-- DRC_CAPc_W3 (spec/14_dram_controller.md, R540) -/
def DRC_CAPc_W3 (i : Nat) : Nat := 0x11D00C + 16 * i
def DRC_CAPc_W3_LAST (i : Nat) : Fld := ⟨(DRC_CAPc_W3 i), 31, 0⟩
/-- DPHY_STAT (spec/14_dram_controller.md, R540) -/
def DPHY_STAT : Nat := 0x120000
def DPHY_STAT_DONE : Fld := ⟨DPHY_STAT, 31, 31⟩
def DPHY_STAT_FAIL : Fld := ⟨DPHY_STAT, 30, 30⟩
def DPHY_STAT_STEP : Fld := ⟨DPHY_STAT, 29, 26⟩
def DPHY_STAT_LANE : Fld := ⟨DPHY_STAT, 25, 24⟩
def DPHY_STAT_CAUSE : Fld := ⟨DPHY_STAT, 23, 20⟩
/-- DPHY_LANEl (spec/14_dram_controller.md, R540) -/
def DPHY_LANEl (i : Nat) : Nat := 0x120010 + 4 * i
def DPHY_LANEl_RD (i : Nat) : Fld := ⟨(DPHY_LANEl i), 31, 24⟩
def DPHY_LANEl_WR (i : Nat) : Fld := ⟨(DPHY_LANEl i), 23, 16⟩
def DPHY_LANEl_RDW (i : Nat) : Fld := ⟨(DPHY_LANEl i), 15, 8⟩
def DPHY_LANEl_WRW (i : Nat) : Fld := ⟨(DPHY_LANEl i), 7, 0⟩
/-- DPHY_TRKl (spec/14_dram_controller.md, R540) -/
def DPHY_TRKl (i : Nat) : Nat := 0x120020 + 4 * i
def DPHY_TRKl_LOW (i : Nat) : Fld := ⟨(DPHY_TRKl i), 16, 16⟩
def DPHY_TRKl_RDRIFT (i : Nat) : Fld := ⟨(DPHY_TRKl i), 15, 8⟩
def DPHY_TRKl_WDRIFT (i : Nat) : Fld := ⟨(DPHY_TRKl i), 7, 0⟩
/-- SYS_READY (spec/15_power_reset_and_bringup.md, R566) -/
def SYS_READY : Nat := 0x0
def SYS_READY_PTPLOCK : Fld := ⟨SYS_READY, 26, 26⟩
def SYS_READY_MPLL : Fld := ⟨SYS_READY, 25, 25⟩
def SYS_READY_PLL0 : Fld := ⟨SYS_READY, 24, 24⟩
def SYS_READY_XO : Fld := ⟨SYS_READY, 23, 23⟩
def SYS_READY_MEMT : Fld := ⟨SYS_READY, 22, 22⟩
def SYS_READY_MTR : Fld := ⟨SYS_READY, 21, 21⟩
def SYS_READY_LIM : Fld := ⟨SYS_READY, 20, 20⟩
def SYS_READY_ASRC : Fld := ⟨SYS_READY, 19, 19⟩
def SYS_READY_AES : Fld := ⟨SYS_READY, 18, 18⟩
def SYS_READY_TDM : Fld := ⟨SYS_READY, 17, 17⟩
def SYS_READY_DRC : Fld := ⟨SYS_READY, 16, 16⟩
def SYS_READY_TIME : Fld := ⟨SYS_READY, 15, 15⟩
def SYS_READY_ZONE : Fld := ⟨SYS_READY, 14, 14⟩
def SYS_READY_STRM : Fld := ⟨SYS_READY, 13, 13⟩
def SYS_READY_NETB : Fld := ⟨SYS_READY, 12, 12⟩
def SYS_READY_NETA : Fld := ⟨SYS_READY, 11, 11⟩
def SYS_READY_SIGB : Fld := ⟨SYS_READY, 10, 10⟩
def SYS_READY_SIGA : Fld := ⟨SYS_READY, 9, 9⟩
def SYS_READY_PN : Fld := ⟨SYS_READY, 8, 8⟩
def SYS_READY_XM : Fld := ⟨SYS_READY, 7, 7⟩
def SYS_READY_TT : Fld := ⟨SYS_READY, 6, 6⟩
def SYS_READY_GW : Fld := ⟨SYS_READY, 5, 5⟩
def SYS_READY_QP1 : Fld := ⟨SYS_READY, 4, 4⟩
def SYS_READY_QP0 : Fld := ⟨SYS_READY, 3, 3⟩
def SYS_READY_PCIE : Fld := ⟨SYS_READY, 2, 2⟩
def SYS_READY_LQ : Fld := ⟨SYS_READY, 1, 1⟩
def SYS_READY_CTL : Fld := ⟨SYS_READY, 0, 0⟩
/-- SYS_ID (spec/15_power_reset_and_bringup.md, R566) -/
def SYS_ID : Nat := 0x4
def SYS_ID_DEVICE : Fld := ⟨SYS_ID, 31, 16⟩
def SYS_ID_GRADE : Fld := ⟨SYS_ID, 15, 8⟩
def SYS_ID_STEP : Fld := ⟨SYS_ID, 7, 0⟩
/-- SYS_BOOT (spec/15_power_reset_and_bringup.md, R566) -/
def SYS_BOOT : Nat := 0x8
def SYS_BOOT_GO : Fld := ⟨SYS_BOOT, 31, 31⟩
def SYS_BOOT_BOOTSEL : Fld := ⟨SYS_BOOT, 30, 28⟩
def SYS_BOOT_BADSEL : Fld := ⟨SYS_BOOT, 27, 27⟩
def SYS_BOOT_SOURCE : Fld := ⟨SYS_BOOT, 26, 25⟩
def SYS_BOOT_FAST : Fld := ⟨SYS_BOOT, 24, 24⟩
def SYS_BOOT_LEN : Fld := ⟨SYS_BOOT, 20, 0⟩
/-- PWR_STAT (spec/15_power_reset_and_bringup.md, R566) -/
def PWR_STAT : Nat := 0x90000
def PWR_STAT_THERMAL : Fld := ⟨PWR_STAT, 31, 31⟩
def PWR_STAT_GRAD : Fld := ⟨PWR_STAT, 30, 30⟩
def PWR_STAT_TSD : Fld := ⟨PWR_STAT, 29, 29⟩
def PWR_STAT_HOT : Fld := ⟨PWR_STAT, 19, 16⟩
def PWR_STAT_PSTATE : Fld := ⟨PWR_STAT, 15, 0⟩
/-- PWR_TEMPs (spec/15_power_reset_and_bringup.md, R566) -/
def PWR_TEMPs (i : Nat) : Nat := 0x90010 + 4 * i
def PWR_TEMPs_PEAK (i : Nat) : Fld := ⟨(PWR_TEMPs i), 31, 16⟩
def PWR_TEMPs_T (i : Nat) : Fld := ⟨(PWR_TEMPs i), 15, 0⟩
/-- RST_STAT (spec/15_power_reset_and_bringup.md, R566) -/
def RST_STAT : Nat := 0xA0000
def RST_STAT_LAST : Fld := ⟨RST_STAT, 31, 28⟩
def RST_STAT_TSDHR : Fld := ⟨RST_STAT, 23, 16⟩
def RST_STAT_DEVCNT : Fld := ⟨RST_STAT, 15, 8⟩
/-- RST_CNT (spec/15_power_reset_and_bringup.md, R566) -/
def RST_CNT : Nat := 0xA0004
def RST_CNT_CTLRST : Fld := ⟨RST_CNT, 31, 24⟩
def RST_CNT_CTLCAUSE : Fld := ⟨RST_CNT, 23, 20⟩
def RST_CNT_ENGRST : Fld := ⟨RST_CNT, 15, 0⟩
/-- RST_GWDT (spec/15_power_reset_and_bringup.md, R566) -/
def RST_GWDT : Nat := 0xA0008
def RST_GWDT_RUN : Fld := ⟨RST_GWDT, 31, 31⟩
def RST_GWDT_LIM : Fld := ⟨RST_GWDT, 23, 16⟩
def RST_GWDT_LEFT : Fld := ⟨RST_GWDT, 15, 8⟩
def RST_GWDT_KICK : Fld := ⟨RST_GWDT, 7, 0⟩

end F

/-- The registers of a block, by its number in the peripheral region (R476). -/
def rowsSys : List RegRow :=
  [ { base := 0x0 },
    { base := 0x4, reset := 0x14800000 },
    { base := 0x8, rw := 0x1FFFFF, wo := 0x80000000, reset := 0x6000000 } ]

def rowsFab : List RegRow :=
  [ { base := 0x10000, rw := 0x2, rwl := 0x1 },
    { base := 0x10004, rc := 0xFFFFFF00 },
    { base := 0x10100, n1 := 8, s1 := 4, rwl := 0x7FF, reset := 0x7FF } ]

def rowsCkg : List RegRow :=
  [ { base := 0x20000, n1 := 4, s1 := 4 },
    { base := 0x20010, w1c := 0x2 } ]

def rowsCkm : List RegRow :=
  [ { base := 0x30000, w1c := 0xFF00 },
    { base := 0x30004 },
    { base := 0x30008 },
    { base := 0x30020, n1 := 8, s1 := 4 } ]

def rowsPll0 : List RegRow :=
  [ { base := 0x40000 } ]

def rowsMpll : List RegRow :=
  [ { base := 0x50000, w1c := 0x10000000 },
    { base := 0x50010, n1 := 4, s1 := 4, reset := 0x1 },
    { base := 0x50100, n1 := 16, s1 := 4 } ]

def rowsRsel : List RegRow :=
  [ { base := 0x60000, reset := 0xFF00000 },
    { base := 0x60020, n1 := 6, s1 := 4 },
    { base := 0x60100, n1 := 12, s1 := 32, reset := 0x64 },
    { base := 0x60104, n1 := 12, s1 := 32 },
    { base := 0x60108, n1 := 12, s1 := 32, reset := 0x280000 },
    { base := 0x6010C, n1 := 12, s1 := 32 },
    { base := 0x60110, n1 := 12, s1 := 32 } ]

def rowsTime : List RegRow :=
  [ { base := 0x70000, w1c := 0x10000000, reset := 0x28000101 },
    { base := 0x70004 },
    { base := 0x70008 },
    { base := 0x7000C },
    { base := 0x70010 },
    { base := 0x70014 },
    { base := 0x70018 },
    { base := 0x7001C },
    { base := 0x70020 },
    { base := 0x70024 },
    { base := 0x70028 },
    { base := 0x7002C, reset := 0xC01 } ]

def rowsDco : List RegRow :=
  [ { base := 0x80000 },
    { base := 0x80004 },
    { base := 0x80008, w1c := 0x20000000 } ]

def rowsPwr : List RegRow :=
  [ { base := 0x90000, w1c := 0x20000000 },
    { base := 0x90010, n1 := 8, s1 := 4, rc := 0xFFFF0000 } ]

def rowsRst : List RegRow :=
  [ { base := 0xA0000 },
    { base := 0xA0004 },
    { base := 0xA0008, rw := 0xFF0000, wo := 0xFF, reset := 0x640000 } ]

def rowsBank : List RegRow :=
  [ { base := 0xB0100, n1 := 40, s1 := 16, w1c := 0x10000000 },
    { base := 0xB0104, n1 := 40, s1 := 16, rc := 0xFFFF },
    { base := 0xB0108, n1 := 40, s1 := 16 } ]

def rowsEcc : List RegRow :=
  [ { base := 0xC0000, rw := 0x8000003F, w1c := 0x40000000 },
    { base := 0xC0004, rw := 0xFF },
    { base := 0xC0010, rw := 0xFFFFFFFF },
    { base := 0xC0014, rw := 0xFFFFFFFF },
    { base := 0xC0018, rw := 0xFFFFFFFF },
    { base := 0xC001C, rw := 0x800000FF } ]

def rowsScrb : List RegRow :=
  [ { base := 0xD0000 },
    { base := 0xD0004 },
    { base := 0xD0008 },
    { base := 0xD0010 },
    { base := 0xD000C, w1c := 0x40000000 } ]

def rowsMarch : List RegRow :=
  [ { base := 0xE0000 },
    { base := 0xE0100, n1 := 40, s1 := 4 } ]

def rowsSec : List RegRow :=
  [ { base := 0xF0000, w1c := 0x400F0000 },
    { base := 0xF0004 } ]

def rowsLc : List RegRow :=
  [ { base := 0x100000 } ]

def rowsDrc : List RegRow :=
  [ { base := 0x110000, rw := 0x1, reset := 0x1 },
    { base := 0x110004, w1c := 0x180000, reset := 0xC00000 },
    { base := 0x110008 },
    { base := 0x11000C, rc := 0xFFFF },
    { base := 0x110018 },
    { base := 0x110010 },
    { base := 0x110014 },
    { base := 0x110100, n1 := 5, s1 := 4, rw := 0xFFFF, rc := 0xFFFF0000 },
    { base := 0x110200, n1 := 16, s1 := 4, rw := 0xFFFFFFFF },
    { base := 0x114000, n1 := 1024, s1 := 32, rw := 0xEFFFFFFF },
    { base := 0x114004, n1 := 1024, s1 := 32, rw := 0xFFFFFFF },
    { base := 0x114008, n1 := 1024, s1 := 32, rw := 0x7FFFFFF },
    { base := 0x11400C, n1 := 1024, s1 := 32, rw := 0x1FFFF },
    { base := 0x114010, n1 := 1024, s1 := 32, rw := 0x1FFFFF, reset := 0x20 },
    { base := 0x114014, n1 := 1024, s1 := 32, rw := 0x1FFFFF, reset := 0x20 },
    { base := 0x114018, n1 := 1024, s1 := 32, w1c := 0x40000000 },
    { base := 0x11C000, n1 := 64, s1 := 16, rw := 0x8FFFFFFF },
    { base := 0x11C004, n1 := 64, s1 := 16, rw := 0x7FFFFFF },
    { base := 0x11C008, n1 := 64, s1 := 16, rw := 0xFFFFFFF },
    { base := 0x11C00C, n1 := 64, s1 := 16 },
    { base := 0x11D000, n1 := 32, s1 := 16, rw := 0x80003FFF },
    { base := 0x11D004, n1 := 32, s1 := 16, rw := 0x7FFFFFF },
    { base := 0x11D008, n1 := 32, s1 := 16, rw := 0xFFFFFFF },
    { base := 0x11D00C, n1 := 32, s1 := 16 } ]

def rowsDphy : List RegRow :=
  [ { base := 0x120000 },
    { base := 0x120010, n1 := 4, s1 := 4 },
    { base := 0x120020, n1 := 4, s1 := 4, w1c := 0x10000 } ]

def rowsNeta : List RegRow :=
  [ { base := 0x130000, rw := 0xBFFFFFFF, reset := 0xAE400001 },
    { base := 0x130004, rc := 0xFFFF },
    { base := 0x13000C, rw := 0xFFFF },
    { base := 0x130008, rw := 0xFFFFFFFF },
    { base := 0x130010, rw := 0xFFFFFFFF },
    { base := 0x130014, rw := 0xFFFFFFFF },
    { base := 0x130018, rw := 0xFFFFFFFF },
    { base := 0x13001C, rw := 0xFFFFFFFF },
    { base := 0x130020, rw := 0xFFFFFFFF },
    { base := 0x130040, rw := 0xFFFCFFFF } ]

def rowsNetb : List RegRow :=
  [ { base := 0x140000, rw := 0xBFFFFFFF, reset := 0xAE400001 },
    { base := 0x140004, rc := 0xFFFF },
    { base := 0x14000C, rw := 0xFFFF },
    { base := 0x140008, rw := 0xFFFFFFFF },
    { base := 0x140010, rw := 0xFFFFFFFF },
    { base := 0x140014, rw := 0xFFFFFFFF },
    { base := 0x140018, rw := 0xFFFFFFFF },
    { base := 0x14001C, rw := 0xFFFFFFFF },
    { base := 0x140020, rw := 0xFFFFFFFF } ]

def rowsStrm : List RegRow :=
  [ { base := 0x150000 },
    { base := 0x150004, rc := 0xFFFFFF00 },
    { base := 0x151000, n1 := 512, s1 := 8, w1c := 0x4000000 },
    { base := 0x151004, n1 := 512, s1 := 8, rc := 0xFFFFFFFF } ]

def rowsZone : List RegRow :=
  [ { base := 0x160000 },
    { base := 0x160004, rw := 0xC0003FFF },
    { base := 0x160100, n1 := 16, s1 := 4, rw := 0x80003FFF } ]

def rowsLq : List RegRow :=
  [ { base := 0x170000, w1c := 0x30000, rc := 0xFF00 },
    { base := 0x170100, n1 := 8, s1 := 16, n2 := 4, s2 := 4, rwl := 0x3FFF1FFF },
    { base := 0x170200, n1 := 8, s1 := 16, n2 := 4, s2 := 4 },
    { base := 0x170300, n1 := 8, s1 := 8 },
    { base := 0x170304, n1 := 8, s1 := 8 } ]

def rowsMoor : List RegRow :=
  [ { base := 0x180000, rw := 0x1 },
    { base := 0x180100, n1 := 8, s1 := 4, rwl := 0xC0000007 },
    { base := 0x180200, n1 := 8, s1 := 4, rc := 0xFFFF },
    { base := 0x180300, n1 := 8, s1 := 4 } ]

def rowsPcie : List RegRow :=
  [ { base := 0x190000, rc := 0xFF },
    { base := 0x191000, n1 := 8, s1 := 64, wo := 0x37FFF },
    { base := 0x19100C, n1 := 8, s1 := 64, rw := 0xFFFFF000 },
    { base := 0x191010, n1 := 8, s1 := 64, rw := 0xFFFFFFFF },
    { base := 0x191014, n1 := 8, s1 := 64, rw := 0x87FF001F, reset := 0xC },
    { base := 0x191018, n1 := 8, s1 := 64, rw := 0x7FFFFF },
    { base := 0x19101C, n1 := 8, s1 := 64 } ]

def rowsQp : List RegRow :=
  [ { base := 0x1A0000, n1 := 2, s1 := 256, rw := 0x1, reset := 0x1 },
    { base := 0x1A0004, n1 := 2, s1 := 256, rc := 0xFFFF00 } ]

def rowsTdm : List RegRow :=
  [ { base := 0x1B0000, rw := 0x7F, reset := 0x14 },
    { base := 0x1B0100, n1 := 4, s1 := 16, reset := 0xAA8A0000 },
    { base := 0x1B0104, n1 := 4, s1 := 16, rc := 0xFFFF, reset := 0x40000000 },
    { base := 0x1B0200, n1 := 16, s1 := 8, reset := 0x80000000 },
    { base := 0x1B0204, n1 := 16, s1 := 8, reset := 0x80000000 },
    { base := 0x1B0400, n1 := 64, s1 := 4 },
    { base := 0x1B0500, n1 := 64, s1 := 4 } ]

def rowsAes : List RegRow :=
  [ { base := 0x1C0100, n1 := 8, s1 := 32, reset := 0x90000000 },
    { base := 0x1C0104, n1 := 8, s1 := 32, w1c := 0x6000000 },
    { base := 0x1C0108, n1 := 8, s1 := 32, rc := 0xFFFFFFFF },
    { base := 0x1C0400, n1 := 8, s1 := 64, reset := 0xC0000000 },
    { base := 0x1C0404, n1 := 8, s1 := 64, n2 := 12, s2 := 4 } ]

def rowsAsrc : List RegRow :=
  [ { base := 0x1D0100, n1 := 24, s1 := 8 },
    { base := 0x1D0104, n1 := 24, s1 := 8 } ]

def rowsXm : List RegRow :=
  [ { base := 0x1E0000 },
    { base := 0x1E0004, w1c := 0x1200000 },
    { base := 0x1E0008 },
    { base := 0x1E000C },
    { base := 0x1E0040, n1 := 8, s1 := 4, w1c := 0xFFFFFFFF },
    { base := 0x1E0080, n1 := 16, s1 := 4, w1c := 0xFFFFFFFF },
    { base := 0x1E1000, n1 := 1024, s1 := 4 },
    { base := 0x1E2000, n1 := 256, s1 := 4 },
    { base := 0x1E3000, n1 := 512, s1 := 4 } ]

def rowsPn : List RegRow :=
  [ { base := 0x1F0000, w1c := 0xD0000, reset := 0xFF00000 },
    { base := 0x1F0004, rc := 0xFFFF },
    { base := 0x1F0008 },
    { base := 0x1F000C, w1c := 0x80000000 },
    { base := 0x1F0100, n1 := 128, s1 := 4, w1c := 0xFFFFFFFF } ]

def rowsSc : List RegRow :=
  [ { base := 0x200000 },
    { base := 0x200004 },
    { base := 0x201000, n1 := 32, s1 := 64, w1c := 0x3800, reset := 0x10000000 },
    { base := 0x201004, n1 := 32, s1 := 64 },
    { base := 0x201008, n1 := 32, s1 := 64, w1c := 0x80000000 },
    { base := 0x20100C, n1 := 32, s1 := 64 },
    { base := 0x201010, n1 := 32, s1 := 64 },
    { base := 0x201014, n1 := 32, s1 := 64, rc := 0x7FFFF },
    { base := 0x201018, n1 := 32, s1 := 64 },
    { base := 0x20101C, n1 := 32, s1 := 64, rc := 0xFFFF },
    { base := 0x201020, n1 := 32, s1 := 64 },
    { base := 0x201024, n1 := 32, s1 := 64 },
    { base := 0x201028, n1 := 32, s1 := 64, n2 := 4, s2 := 4 },
    { base := 0x200008, reset := 0xC0000000 },
    { base := 0x20000C, reset := 0x32 },
    { base := 0x200010, w1c := 0x1C000, rc := 0xFF, reset := 0x40000 },
    { base := 0x200800, n1 := 32, s1 := 16 },
    { base := 0x200804, n1 := 32, s1 := 16 },
    { base := 0x201038, n1 := 32, s1 := 64 } ]

def rowsGw : List RegRow :=
  [ { base := 0x210000, rw := 0x100, rwl := 0x3 },
    { base := 0x210004, w1c := 0x4, rc := 0xFF00 },
    { base := 0x210008 },
    { base := 0x21000C },
    { base := 0x210010 },
    { base := 0x210100, n1 := 32, s1 := 8, rwl := 0xFFFF },
    { base := 0x210104, n1 := 32, s1 := 8, rwl := 0xFFFF03FF, reset := 0x1F4201F4 },
    { base := 0x210200, n1 := 64, s1 := 4, rwl := 0x3FFFF, reset := 0x10000 },
    { base := 0x211000, n1 := 32, s1 := 256, n2 := 64, s2 := 4, rwl := 0xFFFFFF },
    { base := 0x210014, w1c := 0x3, rc := 0xFFFF0000 } ]

def rowsLim : List RegRow :=
  [ { base := 0x220000 },
    { base := 0x221000, n1 := 1552, s1 := 4, rw := 0xFFFC01FF, reset := 0x80C80000 },
    { base := 0x224000, n1 := 1552, s1 := 4, w1c := 0x3 } ]

def rowsTt : List RegRow :=
  [ { base := 0x240004, w1c := 0x6, rc := 0xFF00 },
    { base := 0x240008 },
    { base := 0x24000C },
    { base := 0x240010 },
    { base := 0x240100, n1 := 16, s1 := 16 },
    { base := 0x240104, n1 := 16, s1 := 16 },
    { base := 0x240108, n1 := 16, s1 := 16 },
    { base := 0x240200 },
    { base := 0x240400, n1 := 16, s1 := 32 },
    { base := 0x240404, n1 := 16, s1 := 32 },
    { base := 0x240408, n1 := 16, s1 := 32 },
    { base := 0x24040C, n1 := 16, s1 := 32 },
    { base := 0x240410, n1 := 16, s1 := 32 } ]

/-- The registers of block b. -/
def regRows : Nat → List RegRow
  | 0 => rowsSys
  | 1 => rowsFab
  | 2 => rowsCkg
  | 3 => rowsCkm
  | 4 => rowsPll0
  | 5 => rowsMpll
  | 6 => rowsRsel
  | 7 => rowsTime
  | 8 => rowsDco
  | 9 => rowsPwr
  | 10 => rowsRst
  | 11 => rowsBank
  | 12 => rowsEcc
  | 13 => rowsScrb
  | 14 => rowsMarch
  | 15 => rowsSec
  | 16 => rowsLc
  | 17 => rowsDrc
  | 18 => rowsDphy
  | 19 => rowsNeta
  | 20 => rowsNetb
  | 21 => rowsStrm
  | 22 => rowsZone
  | 23 => rowsLq
  | 24 => rowsMoor
  | 25 => rowsPcie
  | 26 => rowsQp
  | 27 => rowsTdm
  | 28 => rowsAes
  | 29 => rowsAsrc
  | 30 => rowsXm
  | 31 => rowsPn
  | 32 => rowsSc
  | 33 => rowsGw
  | 34 => rowsLim
  | 36 => rowsTt
  | _ => []

/-- The indices at which an offset meets a row of the register tables. -/
def rowAt (r : RegRow) (a : Nat) : Option (Nat × Nat) :=
  if a < r.base then none
  else
    let d := a - r.base
    let i := if r.n1 = 1 then 0 else d / r.s1
    let e := if r.n1 = 1 then d else d % r.s1
    let j := if r.n2 = 1 then 0 else e / r.s2
    let f := if r.n2 = 1 then e else e % r.s2
    if f = 0 ∧ i < r.n1 ∧ j < r.n2 then some (i, j) else none

/-- The row and indices of an offset; none for a reserved offset. -/
def findRow (a : Nat) : Option (RegRow × Nat × Nat) :=
  (regRows (a / 0x10000)).findSome? (fun r => (rowAt r a).map (fun p => (r, p.1, p.2)))

/-- A register value as the tables give it for a row and indices: the common value, or the value of the rows whose
reset depends on the index. -/
def rowReset (r : RegRow) (i j : Nat) : Nat :=
  if r.base = F.GW_INn_SRC 0 then 0x01E0 + i
  else if r.base = F.GW_OUTn 0 then 0x10000 + 0x01C0 + i
  else if r.base = F.GW_GAINi_o 0 0 then (if i = j % 32 then 0x200000 else 0)
  else if r.base = F.MOOR_BINDm 0 then (if i = 0 then 0x80000000 else 0)
  else if r.base = F.LQ_CFGm_c 0 0 then
    (if i = 0 then [64 * 65536, 256 * 65536 + 64, 1024 * 65536 + 320, 64 * 65536 + 1344].getD j 0 else 0)
  else if r.base = F.TDMl_ICFG 0 ∨ r.base = F.TDMl_OCFG 0 then 0x80000000 + (i / 4) * 2 ^ 29
  else if r.base = F.TDM_RUNIn 0 ∨ r.base = F.TDM_RUNOn 0 then (if 32 ≤ i then 0xFFFFFFFF else 0)
  else if r.base = F.AESTXt_CSk 0 0 then
    (if j % 6 = 0 then 1 else if j % 6 = 5 then 0x32000000 else 0)
  else if r.base = F.CKG_ENn 0 then [0xFFFFFFFF, 0x007FFFFF, 0xFFFFFFFF, 0x0000FFFF].getD i 0
  else if r.base = F.RSEL_INn_CFG 0 then (if i = 0 then 0x80000064 else 0x64)
  else if r.base = F.RSEL_INn_BW 0 then (if i = 0 then 100 else if i = 10 then 500 else if i = 11 then 20 else 5000)
  else if r.base = F.RSEL_INn_TOL 0 then
    0x280000 + (if i = 0 then 1000 else if i = 10 then 50 else if i = 11 then 10 else 500)
  else if r.base = F.RSEL_INn_STAT 0 then (if i = 0 then 0x30000000 else 0)
  else if r.base = F.SCRB_EN0 then 0xFFFFFFFB
  else if r.base = F.SCRB_EN1 then 0x000000FF
  else if r.base = F.DRC_QOSp 0 then [2000, 4000, 20000, 1000, 50000].getD i 0
  else r.reset

/-- The value of a register after POR (R14); 0 for a reserved offset. -/
def regReset (a : Nat) : W32 :=
  match findRow a with
  | some (r, i, j) => BitVec.ofNat 32 (rowReset r i j)
  | none => 0

end Sys2Proof.Machine
end

