-- ==== Sys2Proof/Machine/State.lean ====
section
/-! DEFINITION. Machine/State.lean: everything the spec gives the block, as plain data: the queue of waiting commands,
the registers of the peripheral region, the memories, and the state of each unit. Reset values: State.reset. -/

namespace Sys2Proof.Machine

/-- The machine stops with a fault. No meaning of this model raises one: what the spec calls a fault of the part (a
core fault, an ECC error, a clock failure) is an effect on the state. -/
inductive Fault
  /-- An address outside the block. Raised by nothing: every access the spec refuses answers with a status (safe). -/
  | noSuchAddress
  deriving DecidableEq, Repr

/-- No meaning. -/
inductive Refusal
  /-- The row has no meaning yet. Raised by an arm of exec only (safe). -/
  | notModelled (mnemonic : String)
  deriving DecidableEq, Repr

/-! ## Error marks, rate change -/

/-- What is wrong with a stored code word (R486, R487): a single-bit error, or an uncorrectable error or poison. -/
inductive Mark
  | single
  | bad
  deriving DecidableEq, Repr

/-- The steps of a rate change (R331): accepted; the playout fade of edge e runs; everything has stopped but the words queued
at the outputs, which leave; stopped at the new rate; restarted. -/
inductive RateStep
  | accepted
  | fading
  | draining
  | stopped
  | restarted
  deriving DecidableEq, Repr

/-- A rate change in progress: the target rate code, the step, the old code, and once it has stopped the
counter (R391) at which it did, then the first frame of the new rate; the periods in which queued words still leave; and the
target of a RATE accepted while it is stopped. -/
structure RateChange where
  target : Nat
  step : RateStep
  old : Nat
  at_ : Nat
  left : Nat
  next : Option Nat
  deriving DecidableEq, Repr

/-! ## Deck, timetable, scenes (spec/01, spec/04) -/

/-- The kind of a deck slot (R27). -/
inductive SlotKind
  | free
  | inp
  | work
  | out
  deriving DecidableEq, Repr

/-- The deck (R26 to R36). An unlisted slot is FREE; a listed word is a valid word, under the key
slot x 32 + buffer x 16 + position; bindings go from a channel identifier (R32) to its slot. held: the IN words whose
validity has gone at the stage edge that SAMPLE_PERIOD has reached, for the compute stage that ends there (R27). -/
structure Deck where
  kinds : SMap SlotKind
  words : SMap W32
  inBind : SMap Nat
  outBind : SMap Nat
  held : Option (SMap W32)
  deriving DecidableEq, Repr

/-- The unit of a phase (R37). -/
inductive PhUnit
  | pn
  | xm1
  | xm2
  | sc
  deriving DecidableEq, Repr

/-- A phase of a timetable: unit, barrier, argument and allowance (R37). -/
structure Phase where
  unit : PhUnit
  barrier : Nat
  arg : W32
  allow : Nat
  deriving DecidableEq, Repr

/-- A timetable that waits for its start frame, with the packet that loaded it (R49). -/
structure PendTt where
  start : Nat
  phases : List Phase
  pid : Nat
  deriving DecidableEq, Repr

/-- The timetable (R37 to R50): the active and pending lists, the DUR of the active phases (R124, R87), the frame in
compute F, whether a compute stage runs, the index of the last period whose stage edge has passed, and of that stage: the D1 cycle at which each barrier opened and each PN or XM
phase started, the phases done, and for each berth the barrier below which it has completed its phases (R41). -/
structure Tt where
  active : List Phase
  pend : Option PendTt
  durs : List Nat
  frame : Nat
  staged : Bool
  edge : Option Nat
  openAt : SMap Nat
  startAt : SMap Nat
  done : List Nat
  coreDone : SMap Nat
  deriving DecidableEq, Repr

/-- An armed TURN (R149). -/
structure Armed where
  t : Nat
  issuer : Fin 8
  deriving DecidableEq, Repr

/-- A commit whose TURNDONE has not been sent (R154, R156): its start sample, issuer, counts, D, and the compute stages
left; rate marks a commit that a rate change met (R157), late one that a time step passed. -/
structure Commit where
  start : Nat
  issuer : Fin 8
  xpts : Nat
  sections : Nat
  pages : Nat
  len : Nat
  left : Nat
  rate : Bool
  late : Bool
  deriving DecidableEq, Repr

/-- A scene group (R149 to R164). dropping holds TURNs that a completed DROP cancels at the next stage edge while the group
is armed again (R153, R316). -/
structure Scene where
  armed : Option Armed
  dropping : List Armed
  running : List Commit
  lastT : Nat
  result : Option Nat
  issuer : Fin 8
  len : Nat
  deriving DecidableEq, Repr

/-! ## Crossing matrix and pontoon array (spec/02, spec/03) -/

/-- A crosspoint entry (R74). -/
structure XmEntry where
  active : W24
  target : W24
  pending : W24
  step : W24
  rsh : BitVec 4
  prsh : BitVec 4
  cnt : BitVec 12
  group : BitVec 4
  pv : Bool
  run : Bool
  df : Bool
  deriving DecidableEq, Repr

/-- An XM phase in progress (R91): the stage and the 16 words of each source as sampled at its start. -/
structure XmJob where
  phase : Nat
  stage2 : Bool
  src : List (List W32)
  deriving DecidableEq, Repr

/-- The crossing matrix: entries by byte offset / 16 (R73; an unlisted entry is all zero), the phase in progress, and
whether the destinations stay unwritten in this frame (R101). -/
structure Xm where
  entries : SMap XmEntry
  job : Option XmJob
  mute : Bool
  deriving DecidableEq, Repr

/-- Five lattice values K1, K2, V0, V1, V2 (R131). -/
structure Five where
  k1 : W32
  k2 : W32
  v0 : W32
  v1 : W32
  v2 : W32
  deriving DecidableEq, Repr

/-- A biquad as written, Q4.28 (R109). -/
structure Biquad where
  b0 : W32
  b1 : W32
  b2 : W32
  a1 : W32
  a2 : W32
  deriving DecidableEq, Repr

/-- A section record (R131). -/
structure Section where
  act : Five
  tgt : Five
  pnd : Five
  stp : Five
  s0 : BitVec 48
  s1 : BitVec 48
  group : BitVec 4
  pv : Bool
  run : Bool
  sat : Bool
  g : BitVec 4
  pg : BitVec 4
  cnt : BitVec 15
  vep : BitVec 3
  vet : BitVec 3
  vea : BitVec 3
  bq : Biquad
  kind : BitVec 2
  deriving DecidableEq, Repr

/-- A valid span descriptor (R132). -/
structure Span where
  first : Nat
  count : Nat
  ilag : Bool
  oslot : Nat
  islot : Nat
  deriving DecidableEq, Repr

/-- The pontoon array: whether an unlisted section is all zero, as after a fast start (R501), or the identity record of
R128; sections, valid spans, the sections that pass
their input unchanged until the next edge (R128), the spans that lost their descriptor in this frame, the lanes to be
fenced at the next edge, and the sections that a PN phase of this frame has run (R122). -/
structure Pn where
  fast : Bool
  sections : SMap Section
  spans : SMap Span
  lost : List Nat
  noRun : List Nat
  fence : List Nat
  ran : List Nat
  deriving DecidableEq, Repr

/-! ## Signal cores (spec/05, spec/06) -/

/-- Berth states (R166). -/
inductive Berth
  | off
  | idle
  | loading
  | armed
  | active
  | standby
  | testing
  | retired
  | halted
  deriving DecidableEq, Repr

/-- An active LOOP (R230). -/
structure LoopRec where
  first : Nat
  last : Nat
  left : Nat
  idx : Nat
  deriving DecidableEq, Repr

/-- The registers of a core (R171, R172). The SCSR fields LSP and RSP are the depths of the stacks; rate is SCSR.RATE. -/
structure CoreRegs where
  d : Vector W32 16
  a : Vector W80 4
  p : Vector W16 8
  m : Vector W16 8
  l : Vector W16 8
  dp : Vector W32 4
  ix : Vector W16 2
  rate : Nat
  pgflip : Bool
  ferried : Bool
  sv : Bool
  n : Bool
  z : Bool
  v : Bool
  c : Bool
  loops : List LoopRec
  rets : List Nat
  pc : Nat
  deriving DecidableEq, Repr

/-- The memories of a berth (R168): program, X, Y, the two physical page copies, the pending marks of the inactive
copy with their group (R143), and PSEL. -/
structure Mems where
  prog : SMap W64
  x : SMap W32
  y : SMap W32
  page0 : SMap W32
  page1 : SMap W32
  marks : List Nat
  group : Nat
  psel : Bool
  deriving DecidableEq, Repr

/-- The header fields of the image a berth holds (R186). -/
structure Image where
  prot : Bool
  ferryok : Bool
  signed : Bool
  keyslot : Nat
  plen : Nat
  xlen : Nat
  ylen : Nat
  pglen : Nat
  entry : Nat
  xsbase : Nat
  xslen : Nat
  ysbase : Nat
  yslen : Nat
  layout : W32
  wdlim : Nat
  deriving DecidableEq, Repr

/-- A load in progress (R189): LENGTH of OPEN and the image words received, the newest first. -/
structure Load where
  length : Nat
  words : List W32
  deriving DecidableEq, Repr

/-- An outstanding deck read: where its word goes, the deck pointer (R177) and the core frame (R178) it was issued with, how many
posted writes of the core it was issued behind, and its word where a later write to the same word has had to wait for it (R218). -/
structure DeckRd where
  dst : Nat
  ptr : W32
  frame : Nat
  after : Nat
  got : Option W32
  deriving DecidableEq, Repr

/-- A posted deck write (R177, R180), with the core frame it was issued in. -/
structure DeckWr where
  ptr : W32
  data : W32
  frame : Nat
  deriving DecidableEq, Repr

/-- What a core waits for: a SYNC or FRAME to return (R232), or the end of the copy that brings its task (R246). -/
inductive CoreWait
  | sync (b : Nat)
  | frame
  | copy
  deriving DecidableEq, Repr

/-- A berth: its state, its task, image, memories and registers; the deck queues of R180; its wait; its core frame
(R178); the D0 cycles that the current frame of the task had used before the compute stage in progress began (R183);
the D0 cycle of the stage at which its next word may issue at the earliest and the stall cycles of the frame (R176,
R182); the slots written in the current and in the last complete compute stage (R199); its slot ranges; its load; the
program words corrected since the last taken branch (R170); the start frame of an armed START; the slots whose words merge
in the resume frame (R249); the cycles from which results still in the pipeline can be used, by register (R175). -/
structure Core where
  state : Berth
  task : Nat
  image : Image
  mems : Mems
  regs : CoreRegs
  reads : List DeckRd
  writes : List DeckWr
  wait : Option CoreWait
  frame : Nat
  ran : Nat
  next : Nat
  stall : Nat
  wset : List Nat
  wsetPrev : List Nat
  ranges : List (Nat × Nat)
  load : Option Load
  fixes : List Nat
  start : Nat
  merge : List Nat
  ready : SMap Nat
  deriving DecidableEq, Repr

/-! ## Ferry engine (spec/07) -/

/-- Shadow states (R240). -/
inductive ShState
  | none
  | filling
  | ready
  | stale
  | noroom
  deriving DecidableEq, Repr

/-- A journal entry (R239). -/
structure JEnt where
  y : Bool
  addr : Nat
  data : W32
  deriving DecidableEq, Repr

/-- The kinds of a mirrored move (R252, R257, R258, R259). -/
inductive MoveKind
  | home
  | drill
  | update
  | join
  deriving DecidableEq, Repr

/-- A planned move of a task (R253 to R255): the outgoing and incoming berths, whether the mirror has ended, the context
captured at the FRAME issue after it, the earliest frame, and after the handover edge: the frame h, the D0 cycle of
the incoming core's first deck write and the deck words it has written. rejoin marks a follower that comes back (R262). -/
structure Move where
  kind : MoveKind
  src : Nat
  dst : Nat
  mirrored : Bool
  ctx : Option CoreRegs
  notBefore : Nat
  handed : Option Nat
  firstWrite : Option Nat
  wrote : List Nat
  rejoin : Bool
  deriving DecidableEq, Repr

/-- The ferry record of a task. berth: the berth that runs it, or its home berth (SC_TFt). Shadow: state, berth, the
places of its X and Y extents, its copy of the state regions by task address, the journal of the frame in progress, the
entries being applied, the context block, whether a fill copy runs and whether it has ended, and whether the entries
being applied make it READY. Pair: follower, solo, the berth of a member that may rejoin. Update: UPD and its target.
Return: whether a hold runs and what is left. faults: the core frames of its WATCHDOG and OVERRUN faults (R196). -/
structure TaskRec where
  berth : Nat
  sh : ShState
  shBerth : Nat
  xAt : Nat
  yAt : Nat
  shX : SMap W32
  shY : SMap W32
  journal : List JEnt
  applying : List JEnt
  ctx : Option CoreRegs
  fillOn : Bool
  filled : Bool
  toReady : Bool
  partner : Option Nat
  solo : Bool
  rejoin : Option Nat
  upd : Nat
  updBerth : Nat
  rvwait : Bool
  holdLeft : Nat
  move : Option Move
  faults : List Nat
  deriving DecidableEq, Repr

/-- A fault ferry, waiting or in progress (R242 to R248): task, faulted berth, core frame k, the slots of the task's write set,
whether a stage edge has come since the fault, whether its copy has ended, whether its task has resumed at the edge of the stage
in which the copy ends, and whether it has met the end of its first missed frame. -/
structure FerryJob where
  task : Nat
  src : Nat
  frame : Nat
  slots : List Nat
  edge : Bool
  copied : Bool
  resumed : Bool
  faded : Bool
  deriving DecidableEq, Repr

/-- A repeat or fade that the deck owes a stopped task for its frame k (R243, R244). -/
structure Patch where
  task : Nat
  berth : Nat
  frame : Nat
  fade : Bool
  slots : List Nat
  deriving DecidableEq, Repr

/-- The ferry engine: the tasks, the ferry in progress, the queue, the patches owed, the fades due at the edge that starts
the compute stage of a frame (R199, R246, R247), the mask of a SPARE SET in progress, the berths being filled, the TSTOPs
that wait for an edge with their CUT (R198), the pairs that TANDEM OFF ends at the next edge (R262), and the berths whose bit
another takes in the masks at the next edge (R261). -/
structure Ferry where
  tasks : Vector TaskRec 32
  cur : Option FerryJob
  queue : List FerryJob
  patches : List Patch
  fades : List (Nat × List Nat)
  spareSet : Option W32
  fills : List Nat
  stops : List (Nat × Bool)
  unpair : List Nat
  maskMoves : List (Nat × Nat)
  deriving DecidableEq, Repr

/-! ## Moorings, landing queues, controller (spec/08, spec/09) -/

/-- A packet in its landing queue (R284, R285): its first unit pointer, its units, its order of landing among all
packets, and the FLUSHes that marked it (R294). -/
structure Landed where
  start : Nat
  units : Nat
  stamp : Nat
  flush : List Nat
  deriving DecidableEq, Repr

/-- A packet that is landing (R285): the words received, which of them arrived poisoned (R289), and the faults met. -/
structure Landing where
  words : List W32
  tags : List Nat
  perr : Bool
  ovr : Bool
  checked : Bool
  dropped : Bool
  viol : Bool
  flush : List Nat
  deriving DecidableEq, Repr

/-- A landing queue (R284, R287). -/
structure LandQ where
  wr : Nat
  rd : Nat
  limit : Nat
  landed : List Landed
  landing : Option Landing
  deriving DecidableEq, Repr

/-- A reply or notice packet that waits to be sent, with its order among all of them (R281, R303). -/
structure OutPkt where
  words : List W32
  notice : Bool
  stamp : Nat
  deriving DecidableEq, Repr

/-- The session of a mooring: fence, subscriptions, the last accepted SEQ of each class (R280), the notice count and
LOST mark (R281, R309), packets to send, and the R349 notification range (first point, count - 1, interval). -/
structure Moor where
  fenced : Bool
  subs : W16
  last : List (Option W16)
  nseq : W16
  lost : Bool
  out : List OutPkt
  notify : Option (Nat × Nat × Nat)
  deriving DecidableEq, Repr

/-- The PCIe endpoint (R272, R300): Bus Master Enable, the words the engine has written to host memory by address, the
moorings whose message spacing runs, and those with an update to signal at its end; msgs are the messages sent (function,
vector), newest first; msix are the words of the MSI-X tables, word i of function f at 32 f + i (R298). -/
structure Pcie where
  bme : List Bool
  host : SMap W32
  spacing : List Nat
  owed : List Nat
  msgs : List (Nat × Nat)
  msix : SMap W32
  deriving DecidableEq, Repr

/-- An instruction of a packet (R311). -/
structure Insn where
  op : Nat
  mod : W16
  ops : List W32
  deriving DecidableEq, Repr

/-- A reply record (R282). -/
structure Rec where
  op : Nat
  status : Nat
  payload : List W32
  deriving DecidableEq, Repr

/-- A packet that has started (R290 to R293). -/
structure Pkt where
  id : Nat
  m : Fin 8
  cls : Fin 4
  auth : Bool
  seq : W16
  tag : W32
  noreply : Bool
  units : Nat
  stamp : Nat
  insns : List Insn
  recs : List Rec
  status : Nat
  deriving DecidableEq, Repr

/-- What the reply of a packet still waits for (R318). -/
inductive Wait
  | edge
  | turn
  | frame (k : Nat)
  | newRate
  | rateNext
  | timetable
  | domain (d : Nat)
  | engineReset
  | taskStart (t : Nat)
  | taskStop (t : Nat)
  | ferry (t : Nat)
  | tandem (t : Nat)
  | spares
  | fill (b : Nat)
  | block (tx : Nat)
  | channel (out : Bool) (chan : Nat)
  | limiter (n : Nat)
  | gangway
  | realign (n : Nat)
  | gate (reg b : Nat)
  | fuses
  | flush
  | zoneReady
  | mclk
  deriving DecidableEq, Repr

/-- An effect of a completed instruction that waits for its stage edge (R316); later marks a direct or glide write of a section
that a staged one has followed (R131). -/
inductive Eff
  | slotKind (first count : Nat) (k : SlotKind)
  | bindIn (slot chan : Nat)
  | bindOut (slot chan : Nat)
  | unbind (out : Bool) (chan : Nat)
  | xpt (key : Nat) (gain : W24) (r : Nat)
  | xblk (stage2 : Bool) (src dst nsrc ndst r : Nat) (gains : List W24)
  | xmode (cfg : W32)
  | xin (n : Nat) (w : W32)
  | xbus (n : Nat) (w : W32)
  | xout (n : Nat) (w : W32)
  | sos (sec : Nat) (glide clr : Bool) (g : Nat) (bq : Biquad) (later : Bool)
  | span (n : Nat) (d : Option Span)
  | heal (sec : Nat)
  | drop (g : Nat) (hit : Option Armed)
  | tparam (t w : Nat) (ws : List W32)
  | claim (m : Fin 8) (first last prio : Nat)
  | release (m : Fin 8) (first last : Nat)
  | alarm (m : Fin 8) (first last : Nat) (on : Bool)
  | chan (out : Bool) (chan : Nat)
  | unclaim (m : Fin 8)
  deriving DecidableEq, Repr

/-- What the controllers run (R559, R562, R554): nothing, the boot ROM reading flash, the loader, the firmware, or a restart. -/
inductive CtlRun
  | off
  | booting
  | loader
  | firmware
  | restarting
  deriving DecidableEq, Repr

/-- The controllers: what runs, the packets in execution with the running one first (R292), the packets whose reply
has not fallen due, what each waits for, the deferred effects in completion order, the round-robin position of each
class (R291), the next packet number and landing stamp, the firmware's version word, the changes of M0's own key that
wait for a reply (R352), the keys that LIFECYCLE replies use by packet (R354), and whether a firmware has applied its binding
block since the last POR or DEVICE reset (R563). -/
structure Ctl where
  run : CtlRun
  stack : List Pkt
  replies : List Pkt
  waits : List (Nat × Wait)
  deferred : List (Nat × Eff)
  rr : List Nat
  nextId : Nat
  stamp : Nat
  version : W32
  keyOps : List (Nat × Option (List Byte))
  oldKey : SMap (Option (List Byte))
  bound : Bool
  deriving DecidableEq, Repr

/-- A PACKET transfer in progress on a quay port (R301): its words, and whether the rest of it is discarded. -/
structure QuayIn where
  words : List W32
  lost : Bool
  deriving DecidableEq, Repr

/-- MGMT's index and ALERT word (R305 to R307); the transfers in progress on the quay ports by port; and the words that the
last read over MGMT, a quay port, BAR0, the fabric or the debug port returned (the model's own field: it shows what a read
brings out); whether a debug access over JTAG is open (R448). -/
structure Side where
  mgmtIndex : Byte
  alert : W32
  quay : SMap QuayIn
  data : List W32
  debug : Bool
  deriving DecidableEq, Repr

/-! ## Network, streams, zones, time (spec/10) -/

/-- What instructions completed after a STOP make of a context once it has stopped (R316, log 129): its record, none where it is
deleted, and the frame with which it starts again. -/
structure CtxNext where
  record : Option (List W32)
  start : Option Nat
  deriving DecidableEq, Repr

/-- A stream context (R370 to R385): its record; whether it runs; the first index it presents or sends; the index from
which it stops, with CUT, or a STOP that waits for its edge; what comes after that STOP; the highest sequence number accepted and those recorded
(R379), and the first accepted while numbers below it stand in the record; LOST and UNDERRUN of R337; the index at which each path last delivered; the IGMP reports still to send (R369); the
next packet's first index, and on which ports (true for NETB) that packet has begun to leave already (R364). -/
structure Ctx where
  record : List W32
  run : Bool
  first : Nat
  stopReq : Option Bool
  stop : Option (Nat × Bool)
  follow : Option CtxNext
  high : Option W16
  seen : List W16
  floor : Option W16
  lost : Nat
  under : Bool
  pathA : Option Nat
  pathB : Option Nat
  reports : Nat
  next : Nat
  gone : List Bool
  deriving DecidableEq, Repr

/-- What a transmit channel of the zone table takes (R388). -/
inductive Feed
  | own
  | slot (n : Nat)
  | gangway (o : Nat)
  deriving DecidableEq, Repr

/-- A zone entry (R386): its binding, the claims CM0 and CMO, and its alarm with the mooring of the last RAISE. -/
structure Zone where
  valid : Bool
  owner : Nat
  chan : Nat
  cm0 : Nat
  cmo : Nat
  alarm : Bool
  raiser : Nat
  deriving DecidableEq, Repr

/-- An ALARM recorded before the zone table is ready (R390): mooring, range, RAISE. -/
structure PendAlarm where
  m : Fin 8
  first : Nat
  last : Nat
  on : Bool
  deriving DecidableEq, Repr

/-- The header fields of a frame that are not its message (R368, R370, R382): source and destination MAC address, the tag
as PCP and VID, IPv4 addresses, DSCP and TTL, UDP ports. -/
structure RtpHdr where
  macSrc : BitVec 48
  macDst : BitVec 48
  tag : Option (BitVec 3 × BitVec 12)
  src : W32
  dst : W32
  dscp : BitVec 6
  ttl : Byte
  sport : W16
  dport : W16
  deriving DecidableEq, Repr

/-- Where a PTP message goes (R395): an IPv4 address and UDP port with its DSCP, or a MAC address and EtherType. -/
inductive PtpDst
  | udp (ip : W32) (port : W16) (dscp : Nat)
  | ethernet (mac : BitVec 48) (etherType : W16)
  deriving DecidableEq, Repr

/-- What the firmware sends (R367, R369, R395): ARP, the answer to an echo request, an IGMP report or leave in a version, a PTP
message: its type, domain, destination, time-stamp, correction, and for a response the port and sequence number it answers. -/
inductive OwnMsg
  | arp (ip : W32)
  | arpReply (ip : W32)
  | icmpReply (ip : W32) (data : List Byte)
  | igmp (version : IgmpVersion) (group source : W32) (leave : Bool)
  | ptp (kind domain : Nat) (dst : PtpDst) (stamp corr : Int) (answers : Option (BitVec 80 × W16))
  deriving DecidableEq, Repr

/-- A frame that a port has sent: a stream packet (context, payload type, sequence number, timestamp, SSRC, payload), a frame of
the firmware with its tag, a frame of NTAP. -/
inductive TxFrame
  | rtp (ctx : Nat) (hdr : RtpHdr) (pt : BitVec 7) (seq : W16) (ts ssrc : W32) (payload : List Byte)
  | own (tag : Option (BitVec 3 × BitVec 12)) (msg : OwnMsg)
  | tap (bytes : List Byte)
  deriving DecidableEq, Repr

/-- The network: contexts; the stream bank (R376) by address, each word with the index it carries; the words at each
packetiser input in the last 400 periods by transmit channel, newest first; the frames each port has sent, newest first, and
those of the lowest precedence that wait for a stream packet, oldest first (R364); the counter at which an IGMPv1 or IGMPv2 querier
(1, 2; 5, 6 on NETB) is no longer taken as present (R368); the zone table, the feed of each transmit channel, and alarms recorded
early; the tap filters, queue and drop count (R339). -/
structure Net where
  ctxs : SMap Ctx
  bank : SMap (Nat × W24)
  txWords : SMap (List W24)
  sentA : List TxFrame
  sentB : List TxFrame
  waitA : List TxFrame
  waitB : List TxFrame
  queriers : SMap Nat
  zones : SMap Zone
  feeds : SMap Feed
  pendAlarms : List PendAlarm
  filters : SMap W32
  tapQ : List (Bool × List Byte)
  tapDrop : Nat
  deriving DecidableEq, Repr

/-- The PTP exchanges of a port under way (R393, R395), in 2^-16 ns: the best Announce heard on it; a two-step Sync that waits for
its Follow_Up, by sequence number, with its ingress and correction; ingress less origin of the last Sync, corrections off;
the egress of the last Delay_Req; that of the last Pdelay_Req; the ingress and the peer's receive time, corrections off, of a
two-step Pdelay_Resp; the mean path or link delay. -/
structure PtpPort where
  heard : Option Announce
  open_ : Option (W16 × Int × Int)
  down : Option Int
  req : Option Int
  preq : Option Int
  presp : Option (Int × Int)
  delay : Int
  deriving DecidableEq, Repr

/-- The time counter and the servo (R391 to R401): the counter in 2^-48 ns since the PTP epoch; operands 2 and 3 of PTPCFG; the
exchanges of NETA and NETB; the grandmaster of the selected master, none without one;
consecutive Sync messages below 1 us and above 10 us; whether the first offset since STEPOK was set is still to come; the
counter and the offset, in 2^-16 ns, at the last Sync (R397). -/
structure Time where
  t48 : Nat
  prio : W32
  ivals : W32
  portA : PtpPort
  portB : PtpPort
  gm : Option W64
  below : Nat
  above : Nat
  first : Bool
  steered : Nat
  err : Int
  deriving DecidableEq, Repr

/-! ## Audio ports, final limiters, gangway (spec/01, spec/11) -/

/-- The fade of an input channel (R409): weight a, last word h, whether an episode runs. -/
structure InFade where
  a : Nat
  h : W24
  dry : Bool
  deriving DecidableEq, Repr

/-- The words of a frame that a channel plays out (R51, R388, R389): the frame, its feed and, where the feed has changed,
the one before; words of a slot are as the OUT slot held them. -/
structure PlayFrame where
  frame : Nat
  feed : Feed
  words : List W32
  oldFeed : Option Feed
  oldWords : List W32
  deriving DecidableEq, Repr

/-- An output channel: the frames it plays out, its limiter's gain in 2^-32 (R54), the settings in force, those that wait for
a playout-stage edge and the changes under way with their periods P, the oldest first (R55), the weight of its run and dry fade
(R409), the frame of a rate-change fade (R331), the last frame before an ENGINE reset, whose words still in the lookahead
delay line are cleared (R69), the limiter's last output word. -/
structure OutCh where
  frames : List PlayFrame
  g : Nat
  eff : W32
  newCfg : Option W32
  change : List (Nat × W32)
  a : Nat
  dry : Bool
  rateFade : Option Nat
  cleared : Option Nat
  last : W32
  deriving DecidableEq, Repr

/-- A CHAN that waits (R407): channel, the state it sets, NOW, the index at which its wait starts (none before its edge),
and the words tested. -/
structure ChanWait where
  out : Bool
  chan : Nat
  run : Bool
  now : Bool
  from_ : Option Nat
  tested : Nat
  deriving DecidableEq, Repr

/-- A TDM clock group (R418, R419): consecutive good and bad frames, the counter at the last active edge and the periods of the
last frames, in 2^-48 ns, the phase of its first
lock, the indices of the last frames (twice the index, and one more for a bad frame), the index of the last slip and the dry
periods left of it at the outputs, the input words of the last frames with their times for an instance that serves it (R434), whether
the instances that served it are released and it has not entered RUN since (R436), a configuration that waits for its edge. -/
structure TdmGrp where
  good : Nat
  bad : Nat
  at_ : Option Nat
  periods : List Nat
  phi : Option Nat
  got : List Nat
  slip : Option Nat
  dryLeft : Nat
  past : List (Nat × SMap W24)
  released : Bool
  newCfg : Option W32
  deriving DecidableEq, Repr

/-- An AES3 receiver (R423 to R427): consecutive good frames, consecutive subframes with biphase violations, the last
words, the C bits of the block in reception (none before a Z preamble) for each subframe, the stored blocks, the counter at the
last 65 frame starts, in 2^-48 ns, the MEAS updates that lay near one nominal rate, whether each subframe's last word counts as
dry, and the words of the last frames with their times for an instance that serves it (R434). -/
structure AesRx where
  good : Nat
  viol : Nat
  words : List W24
  bits : Option (List Bool × List Bool)
  blocks : List (List W32)
  starts : List Nat
  near : Nat
  nearNom : Nat
  dry : List Bool
  past : List (Nat × SMap W24)
  newCfg : Option W32
  deriving DecidableEq, Repr

/-- The override of a destination channel (R60 to R62): its weight, whether it is active, its gangway word in the
period, and its gangway sources with the steps of their crossfades, newest first: each fades from the word of those after it. -/
structure Override where
  weight : Nat
  active : Bool
  chain : List (Nat × Nat)
  last : W24
  deriving DecidableEq, Repr

/-- The DPLL of an ASRC instance (R432, R433), in 2^-48 ns: the last frame start, the predicted next one, the input frame period (0
before two frames), the frames since ACQUIRE was entered, the ratios after the last 1,025 of them, newest first, and the consecutive
starts off the prediction. -/
structure Dpll where
  last : Option Nat
  pred : Nat
  per : Nat
  frames : Nat
  hist : List Nat
  off : Nat
  deriving DecidableEq, Repr

/-- The ports: the words caught at input points in the current and the last two periods, newest first; the input words of
indices msi - 2 to msi - 6, newest first; input fades; the last word of each input channel; output channels; CHAN waits;
the TDM groups; lane configurations that wait for their edge; AES3 receivers; transmit blocks and transmitter
configurations that wait; ASRC changes that wait for their edge; the DPLL of each instance, and what each converted channel had as the period before ended: its instance, and 0 for a word or
the KIND of its dryness (R410); the bits on the wire in this period by output channel, an AES3 subframe's with its slots 4 to 31 in
[31:4] (R423), whether this AES3 frame starts a block; the gangway registers in force, the words of
each gangway input that its hold may need, as ages and magnitudes, the overrides by destination, and the copies that have sent a FAULT in this frame. -/
structure Ports where
  caught : List (SMap W24)
  ins : List (SMap W24)
  fades : SMap InFade
  outs : SMap OutCh
  waits : List ChanWait
  groups : List TdmGrp
  newLanes : List (Bool × Nat × W32)
  aes : List AesRx
  newTx : SMap (List W32)
  newTxCfg : SMap W32
  newAsrc : List (Nat × Option W32)
  dplls : SMap Dpll
  asrcSeen : SMap (Nat × Nat)
  wires : SMap W32
  zTx : Bool
  gwRegs : SMap W32
  past : List (List (Nat × Nat))
  ovr : SMap Override
  gwFault : List Nat
  deriving DecidableEq, Repr

/-- A meter point that belongs to a mooring (R348): the mooring that enabled it, whether it is enabled, its slot, its peak. -/
structure Meter where
  m : Fin 8
  en : Bool
  slot : Nat
  peak : W32
  deriving DecidableEq, Repr

/-! ## Clocks and references (spec/12) -/

/-- The clocks: the domains that the lock sequence still moves onto the root, the one that switches first (R440); those that
move to SRC after a failure (R450); consecutive bad windows of D0 to D7, the XO and PLL0 (R449); the gates that wait to
close, by register and bit (R447); the MPLL's band entry, whether MOUT runs, the multiples that wait for a frame boundary
(R454 to R456); whether the outputs are muted (R451). -/
structure Clk where
  moves : List Nat
  toSrc : List Nat
  bad : List Nat
  closing : List (Nat × Nat)
  band : Option Nat
  mout : Bool
  newMclk : SMap Nat
  mute : Bool
  deriving DecidableEq, Repr

/-- A REALIGN that waits for its frame boundary (R469): its packet, the frame, the outputs it names. -/
structure Realign where
  pid : Nat
  frame : Nat
  outs : W32
  deriving DecidableEq, Repr

/-- The reference selector: the selected input (15 for none), whether one has ever been selected, consecutive samples
within and beyond the limits (R464), the milliseconds left of each input's WAIT or DRIFT (R462), the rate last measured on
WCLK_IN (R460), the register writes of commands that wait for a switch, whether a rate change has yet to be judged
(R472), the REALIGNs that wait, whether the inputs have changed since the last decision (R473), and the phase error, in 2^-16 ns,
and the counter at the loop's last sample (R466). -/
structure Rsel where
  sel : Nat
  ever : Bool
  good : Nat
  bad : Nat
  left : List Nat
  wclk : Nat
  newRegs : SMap W32
  rateDue : Bool
  realigns : List Realign
  due : Bool
  err : Int
  at_ : Nat
  deriving DecidableEq, Repr

/-! ## Secure bank (spec/13) -/

/-- The secure bank (R503): mooring keys and program-signing key hashes, by number; absent ones are not listed; and of a wipe
in progress its CAUSE bits and the frame in compute at its detection (R505, R506), and the life-cycle states that LIFECYCLE is
programming, with the packets that asked (R354), and the slots that SIGNKEY has filled since the last of them was asked. -/
structure SecState where
  keys : SMap (List Byte)
  slots : SMap (List Byte)
  wipe : Option (Nat × Nat)
  fusing : List (Nat × Nat)
  later : List Nat
  deriving DecidableEq, Repr

/-- The fuses: life-cycle state (R507), grade and stepping (R12), MAC addresses, the SRC trim, the hash of the
firmware key (R508), and the spare rows and columns that production has used, by 64 KiB sub-array (R496). -/
structure Fuses where
  lc : Nat
  grade : Byte
  step : Byte
  macA : BitVec 48
  macB : BitVec 48
  trim : Byte
  fwkey : List Byte
  fused : SMap (Nat × Nat)
  deriving DecidableEq, Repr

/-! ## DRAM (spec/14) -/

/-- A line of a recorder on its way to the DRC (R535): recorder, first index, words, ring. -/
structure RecLine where
  c : Nat
  index : Nat
  words : List W32
  base : Nat
  len : Nat
  deriving DecidableEq, Repr

/-- The DRAM controller: whether a step has failed once (R521), whether the steps end a self-refresh (R538), the refreshes
of each channel (R523), the oscillator count of each channel that training has kept as the baseline, with its scale (R521), whether
the contents are lost, so that training runs in full (R538), the patrol's line (R520); the descriptors sampled at the last compute-stage edge, the frame of the
pass in progress, the start index E of each running line (R529, R532); and the recorder lines to be written. -/
structure Dram where
  retried : Bool
  short : Bool
  refreshes : List Nat
  osc : List (Nat × Int)
  lost : Bool
  patrol : Nat
  snap : SMap W32
  pass : Option Nat
  starts : SMap Nat
  recs : List RecLine
  deriving DecidableEq, Repr

/-! ## Power, reset, boot (spec/15) -/

/-- What POWER asks of a domain in transition: the state it leaves and the state it reaches (0 ON, 1 RET, 2 OFF). -/
structure PdMove where
  old : Nat
  target : Nat
  deriving DecidableEq, Repr

/-- Power and reset: POR, the level of PWRGOOD, a DEVICE reset held, a failed SRC that holds it, a thermal shutdown in
force (R541, R542, R450, R550); the milliseconds since each shutdown of the last hour (R551); domain transitions; what is
left of the guard watchdog in milliseconds (R557); the strap sampled (R558); whether banks start fast (R501); the
stage of an ENGINE reset: 1 asked by a packet, 2 its outputs fade, 3 its banks are refilled (R552); those banks; and the
sensors read since their PEAK was; the consecutive reads at 125 degC or more of each sensor and those with GRAD above 30 degC, to 3
(R550); the milliseconds for which TS0 has read below 95 degC, to 1,000, and whether a shutdown in force was the third of an hour
(R551). -/
structure Pwr where
  por : Bool
  good : Bool
  held : Bool
  srcBad : Bool
  tsd : Bool
  tsdAges : List Nat
  moving : SMap PdMove
  guard : Nat
  fast : Bool
  engine : Option Nat
  refill : List Nat
  seen : List Nat
  hot : List Nat
  grad : Nat
  cool : Nat
  stay : Bool
  deriving DecidableEq, Repr

/-- The instructions of the TAP (R565). -/
inductive Tap
  | bypass
  | idcode
  | sample
  | extest
  | clamp
  | highz
  deriving DecidableEq, Repr

/-- Integrity: what is stored inverted under an error mark, data and check bits, by code word (R492, R493); the
uncorrectable words that the scrubber has reported (R490); whether the lap in progress skipped a bank (R491); in fast start
the 64-byte lines whose valid bit is set, by address / 64, and the banks in which every one is (R501); the spare rows and
columns that soft repairs use, by 64 KiB sub-array, address / 65536 (R496); the words of the stream bank as a debug port has
stored them, by address (R492); whether the march of the secure bank after POR is due (R499). -/
structure Integrity where
  flips : SMap (W64 × Byte)
  known : List Nat
  lapSkip : Bool
  lines : List Nat
  full : List Nat
  soft : SMap (Nat × Nat)
  held : SMap W32
  march1 : Bool
  deriving DecidableEq, Repr

/-! ## The whole -/

/-- The state of the block. pending is the queue of waiting commands, first in, first out; free counts the free values
drawn (the model's own field); msi is the media sample index of the sample period in progress (R22); rate the engine
rate code (R330). -/
structure State where
  pending : List Instr
  free : Nat
  regs : SMap W32
  own : SMap W32
  mem : List Host.Cell
  marks : SMap Mark
  msi : Nat
  rate : Nat
  rateChange : Option RateChange
  deck : Deck
  tt : Tt
  scenes : SMap Scene
  xm : Xm
  pn : Pn
  cores : Vector Core 32
  ferry : Ferry
  queues : SMap LandQ
  moors : Vector Moor 8
  pcie : Pcie
  side : Side
  ctl : Ctl
  sec : SecState
  otp : Fuses
  net : Net
  time : Time
  ports : Ports
  meters : SMap Meter
  clk : Clk
  rsel : Rsel
  dram : Dram
  pwr : Pwr
  tap : Tap
  ecc : Integrity
  deriving DecidableEq, Repr

/-! ## Reset values -/

/-- The identity record of a section (R128). -/
def idSection : Section :=
  let z : Five := ⟨0, 0, 0, 0, 0⟩
  let one : Five := ⟨0, 0, 0x20000000, 0, 0⟩
  { act := one, tgt := one, pnd := z, stp := z, s0 := 0, s1 := 0, group := 0, pv := false, run := false, sat := false,
    g := 0, pg := 0, cnt := 0, vep := 0, vet := 1, vea := 1, bq := ⟨0x10000000, 0, 0, 0, 0⟩, kind := 0 }

/-- The all-zero crosspoint entry (R105). -/
def zeroEntry : XmEntry :=
  { active := 0, target := 0, pending := 0, step := 0, rsh := 0, prsh := 0, cnt := 0, group := 0, pv := false,
    run := false, df := false }

/-- A scene group with nothing armed or running (R164). -/
def idleScene : Scene := { armed := none, dropping := [], running := [], lastT := 0, result := none, issuer := 0, len := 0 }

/-- Cleared registers of a core (Loading and starting, step 4). -/
def clearRegs : CoreRegs :=
  { d := Vector.replicate 16 0, a := Vector.replicate 4 0, p := Vector.replicate 8 0, m := Vector.replicate 8 0,
    l := Vector.replicate 8 0, dp := Vector.replicate 4 0, ix := Vector.replicate 2 0, rate := 0, pgflip := false,
    ferried := false, sv := false, n := false, z := false, v := false, c := false, loops := [], rets := [], pc := 0 }

/-- Memories filled with zero (R168). -/
def zeroMems : Mems := { prog := [], x := [], y := [], page0 := [], page1 := [], marks := [], group := 0, psel := false }

/-- No image. -/
def noImage : Image :=
  { prot := false, ferryok := false, signed := false, keyslot := 0, plen := 0, xlen := 0, ylen := 0, pglen := 0,
    entry := 0, xsbase := 0, xslen := 0, ysbase := 0, yslen := 0, layout := 0, wdlim := 0 }

/-- The deck with every slot FREE and unbound (R68). -/
def emptyDeck : Deck := { kinds := [], words := [], inBind := [], outBind := [], held := none }

/-- A berth without a task, in a given state. -/
def emptyCore (st : Berth) : Core :=
  { state := st, task := 0, image := noImage, mems := zeroMems, regs := clearRegs, reads := [], writes := [],
    wait := none, frame := 0, ran := 0, next := 0, stall := 0, wset := [], wsetPrev := [], ranges := [], load := none,
    fixes := [], start := 0, merge := [], ready := [] }

/-- A task at home without shadow, pair or move (R271). -/
def homeTask (t : Nat) : TaskRec :=
  { berth := t, sh := .none, shBerth := 0, xAt := 0, yAt := 0, shX := [], shY := [], journal := [], applying := [],
    ctx := none, fillOn := false, filled := false, toReady := false, partner := none, solo := false, rejoin := none,
    upd := 0, updBerth := 0, rvwait := false, holdLeft := 0, move := none, faults := [] }

/-- A mooring after a MOORING reset (R295). -/
def freshMoor : Moor :=
  { fenced := false, subs := 0, last := [none, none, none, none], nseq := 0, lost := false, out := [], notify := none }

/-- An empty landing queue of a SIZE (R287). -/
def freshQueue (size : Nat) : LandQ := { wr := 0, rd := 0, limit := size, landed := [], landing := none }


/-- A context as STREAM DEFINE leaves it. -/
def newCtx (record : List W32) : Ctx :=
  { record := record, run := false, first := 0, stopReq := none, stop := none, follow := none, high := none, seen := [],
    floor := none, lost := 0, under := false,
    pathA := none, pathB := none, reports := 0, next := 0, gone := [] }

/-- An unbound zone entry. -/
def noZone : Zone := { valid := false, owner := 0, chan := 0, cm0 := 0, cmo := 0, alarm := false, raiser := 0 }

/-- The network after its resets (R404). -/
def idleNet : Net :=
  { ctxs := [], bank := [], txWords := [], sentA := [], sentB := [], waitA := [], waitB := [], queriers := [],
    zones := [], feeds := [], pendAlarms := [],
    filters := [], tapQ := [], tapDrop := 0 }

/-- A port with no PTP exchange under way. -/
def idlePtp : PtpPort :=
  { heard := none, open_ := none, down := none, req := none, preq := none, presp := none, delay := 0 }

/-- The time counter and servo after their resets (R391, R394, R404). Operands 2 and 3 of PTPCFG hold the AES67 profile's
defaults (log 20). -/
def idleTime : Time :=
  { t48 := 0, prio := 0x00008080, ivals := 0x030001FD, portA := idlePtp, portB := idlePtp, gm := none, below := 0, above := 0, first := true,
    steered := 0, err := 0 }

/-- An input channel that has run no dry episode, with a fade of 64 samples (R409). -/
def fullFade (len : Nat) : InFade := { a := len, h := 0, dry := false }

/-- An output channel after reset (R54, R69): its weight is at least every fade length (R409). -/
def idleOut : OutCh :=
  { frames := [], g := 0x100000000, eff := 0x80C80000, newCfg := none, change := [], a := 256, dry := false,
    rateFade := none, cleared := none, last := 0 }

def idleGrp : TdmGrp :=
  { good := 0, bad := 0, at_ := none, periods := [], phi := none, got := [], slip := none, dryLeft := 0, past := [],
    released := false, newCfg := none }

def idleAes : AesRx :=
  { good := 0, viol := 0, words := [0, 0], bits := none, blocks := [List.replicate 6 0, List.replicate 6 0],
    starts := [], near := 0, nearNom := 0, dry := [false, false], past := [], newCfg := none }

def idleDpll : Dpll := { last := none, pred := 0, per := 0, frames := 0, hist := [], off := 0 }

/-- The ports after their resets (R64, R69, R405, R438). -/
def idlePorts : Ports :=
  { caught := [], ins := [], fades := [], outs := [], waits := [], groups := List.replicate 4 idleGrp, newLanes := [],
    aes := List.replicate 8 idleAes, newTx := [], newTxCfg := [], newAsrc := [], dplls := [], asrcSeen := [], wires := [], zTx := false,
    gwRegs := [], past := [], ovr := [], gwFault := [] }

/-- The matrix and the array with nothing written (R105, R130). -/
def idleXm : Xm := { entries := [], job := none, mute := false }
def idlePn (fast : Bool) : Pn :=
  { fast := fast, sections := [], spans := [], lost := [], noRun := [], fence := [], ran := [] }

/-- The timetable after the resets of R68. -/
def idleTt (frame : Nat) (staged : Bool) : Tt :=
  { active := [], pend := none, durs := [], frame := frame, staged := staged, openAt := [], startAt := [], done := [],
    coreDone := [], edge := none }

/-- The ferry engine with every task at home (R271). -/
def idleFerry : Ferry :=
  { tasks := Vector.ofFn (fun i => homeTask i.val), cur := none, queue := [], patches := [], fades := [], spareSet := none,
    fills := [], stops := [], unpair := [], maskMoves := [] }

/-- The controllers in reset; M0 counts as served last in each class (log 167). -/
def idleCtl : Ctl :=
  { run := .off, stack := [], replies := [], waits := [], deferred := [], rr := [0, 0, 0, 0], nextId := 0, stamp := 0,
    version := 0, keyOps := [], oldKey := [], bound := false }

def idlePcie : Pcie := { bme := [false, false, false, false], host := [], spacing := [], owed := [], msgs := [], msix := [] }

def idleClk : Clk :=
  { moves := [], toSrc := [], bad := List.replicate 10 0, closing := [], band := none, mout := false, newMclk := [],
    mute := false }

def idleRsel : Rsel :=
  { sel := 15, ever := false, good := 0, bad := 0, left := List.replicate 12 0, wclk := 0, newRegs := [], rateDue := false,
    realigns := [], due := false, err := 0, at_ := 0 }

def idleDram : Dram :=
  { retried := false, short := false, refreshes := [0, 0], osc := [(0, 0), (0, 0)], lost := true, patrol := 0, snap := [], pass := none, starts := [], recs := [] }

/-- Power before VDD_AO has risen: POR holds everything (R542). -/
def idlePwr : Pwr :=
  { por := true, good := false, held := true, srcBad := false, tsd := false, tsdAges := [], moving := [], guard := 0,
    fast := false, engine := none, refill := [], seen := [], hot := List.replicate 8 0, grad := 0, cool := 0, stay := false }

/-- Nothing inverted, reported or repaired. -/
def idleEcc : Integrity :=
  { flips := [], known := [], lapSkip := false, lines := [], full := [], soft := [], held := [], march1 := true }

/-- The block while POR holds it (log 12): every register at its reset value, the designated berths 30 and 31 in STANDBY (R167), memories filled with zeros, fuses that read
0 (log 3), 48 kHz (R2). -/
def State.reset : State :=
  { pending := [], free := 0, regs := [], own := [], mem := [], marks := [], msi := 0, rate := 1, rateChange := none,
    deck := emptyDeck, tt := idleTt 0 false, scenes := [], xm := idleXm,
    pn := idlePn false, cores := Vector.ofFn (fun i => emptyCore (if 30 ≤ i.val then .standby else .idle)), ferry := idleFerry, queues := [],
    moors := Vector.replicate 8 freshMoor, pcie := idlePcie, side := { mgmtIndex := 0, alert := 0, quay := [], data := [], debug := false }, ctl := idleCtl,
    sec := { keys := [], slots := [], wipe := none, fusing := [], later := [] },
    otp := { lc := 0, grade := 0, step := 0, macA := 0, macB := 0, trim := 0, fwkey := List.replicate 32 0, fused := [] },
    net := idleNet, time := idleTime, ports := idlePorts, meters := [], clk := idleClk, rsel := idleRsel,
    dram := idleDram, pwr := idlePwr, tap := .idcode,
    ecc := idleEcc }

end Sys2Proof.Machine
end

