-- ==== Sys2Proof/Machine/Ops.lean ====
section
/-! DEFINITION. Machine/Ops.lean: the shared operations: the outcome of a command, registers and their fields, byte
memory, ownership, packets sent to hosts, notices, waiting replies and deferred effects, and the frame that every
instruction of a packet runs in. -/

namespace Sys2Proof.Machine

/-! ## Outcomes -/

abbrev Out := Host.Outcome State Fault Refusal

/-- The outcome of a command: the state it leaves, with the queue of waiting commands, the fuses and the bytes of
memory as they were. A command acts on everything but the queue; only the commands that store to byte memory or
program fuses end otherwise. -/
def done (s t : State) : Out := .next { t with pending := s.pending, otp := s.otp, mem := s.mem }

/-- The outcome of a command that may store to byte memory (CTL SRAM, landing RAM, stream bank, DRAM). -/
def doneMem (s t : State) : Out := .next { t with pending := s.pending, otp := s.otp }

/-- The outcome of a command that may program fuses or a reset, which may do both. -/
def doneAll (s t : State) : Out := .next { t with pending := s.pending }

/-! ## Registers (R13 to R18) -/

/-- The value of a register of the peripheral region by its offset. -/
def State.reg (s : State) (a : Nat) : W32 := lookD s.regs (regReset a) a

/-- A register set by hardware. -/
def State.setReg (s : State) (a : Nat) (v : W32) : State := { s with regs := insD s.regs (regReset a) a v }

/-- The value of a field. -/
def State.fld (s : State) (f : Fld) : Nat := bf (s.reg f.reg) f.hi f.lo

/-- A field set by hardware. -/
def State.setFld (s : State) (f : Fld) (v : Nat) : State := s.setReg f.reg (setBf (s.reg f.reg) f.hi f.lo v)

/-- A one-bit field is 1. -/
def State.on (s : State) (f : Fld) : Bool := s.fld f != 0

/-- A counter field incremented, saturating at its largest value (R15). -/
def State.bump (s : State) (f : Fld) : State := s.setFld f (incSat (2 ^ (f.hi + 1 - f.lo) - 1) (s.fld f))

/-- A counter field incremented n times. -/
def State.bumpBy (s : State) (f : Fld) (n : Nat) : State :=
  s.setFld f (min (2 ^ (f.hi + 1 - f.lo) - 1) (s.fld f + n))

/-- A field set where a condition holds. -/
def State.mark (s : State) (f : Fld) (b : Bool) : State := if b then s.setFld f 1 else s

/-- The registers whose offset lies in [a, a + n) back at their reset values (R14). -/
def State.resetRegs (s : State) (a n : Nat) : State := { s with regs := delRange s.regs a n }

/-! ## Byte memory -/

/-- A byte of the memories that hold bytes; an unlisted byte reads 0 (R500, R521; log 9). -/
def State.byte (s : State) (a : Nat) : Byte := lookD s.mem 0 a

/-- A byte stored, in the canonical form. -/
def State.setByte (s : State) (a : Nat) (b : Byte) : State := { s with mem := insD s.mem 0 a b }

/-- A little-endian word of byte memory. -/
def State.word (s : State) (a : Nat) : W32 := le32 (s.byte a) (s.byte (a + 1)) (s.byte (a + 2)) (s.byte (a + 3))

/-- A little-endian word stored. -/
def State.setWord (s : State) (a : Nat) (w : W32) : State :=
  (((s.setByte a (byteOf w 0)).setByte (a + 1) (byteOf w 1)).setByte (a + 2) (byteOf w 2)).setByte (a + 3) (byteOf w 3)

/-- Consecutive words stored from an address. -/
def State.setWords (s : State) (a : Nat) : List W32 → State
  | [] => s
  | w :: r => (s.setWord a w).setWords (a + 4) r

/-- n consecutive words from an address. -/
def State.words (s : State) (a : Nat) : Nat → List W32
  | 0 => []
  | n + 1 => s.word a :: s.words (a + 4) n

/-- The canonical form of byte memory: addresses strictly rise and no entry equals what an unlisted byte reads as. -/
def memWf (m : List Host.Cell) : Bool := rising m && m.all (fun e => e.2 != 0)

/-! ## Banks and error marks (R475, R486, R487) -/

/-- The bank of an address; none where the map has no SRAM bank. -/
def bankOf (a : Nat) : Option Nat :=
  if 0x20000000 ≤ a ∧ a < 0x20200000 then some 0
  else if 0x30000000 ≤ a ∧ a < 0x30040000 then some 1
  else if 0x40000000 ≤ a ∧ a < 0x40080000 then some 2
  else if 0x50000000 ≤ a ∧ a < 0x50800000 then some 3
  else if 0x58000000 ≤ a ∧ a < 0x58400000 then some 4
  else if 0x5C000000 ≤ a ∧ a < 0x5C010000 then some 5
  else if 0x60000000 ≤ a ∧ a < 0x60400000 then some 6
  else if 0x90000000 ≤ a ∧ a < 0x90200000 then some 7
  else if 0x70000000 ≤ a ∧ a < 0x72000000 then some (8 + (a - 0x70000000) / 0x100000)
  else none

/-- Where a bank begins, and its bytes (R475). -/
def bankBase (b : Nat) : Nat :=
  if 8 ≤ b then 0x70000000 + (b - 8) * 0x100000
  else [0x20000000, 0x30000000, 0x40000000, 0x50000000, 0x58000000, 0x5C000000, 0x60000000, 0x90000000].getD b 0
def bankSize (b : Nat) : Nat :=
  if 8 ≤ b then 0x100000
  else [0x200000, 0x40000, 0x80000, 0x800000, 0x400000, 0x10000, 0x400000, 0x200000].getD b 0

/-- The bytes of a code word at an address: 8 under SECDED (72,64), 4 under (39,32) and parity (R475); DRAM code words
are 8 bytes (R516). -/
def codeBytes (a : Nat) : Nat :=
  match bankOf a with
  | some b =>
    if b = 0 ∨ b = 3 ∨ b = 4 ∨ b = 5 then 8
    else if 8 ≤ b then (if a % 0x100000 < 0x40000 then 8 else 4) else 4
  | none => 8

/-- The address of the code word that holds an address. -/
def codeWord (a : Nat) : Nat := a / codeBytes a * codeBytes a

/-- The error mark of the code word that holds an address. -/
def State.markAt (s : State) (a : Nat) : Option Mark := look s.marks (codeWord a)

/-- An error mark set or cleared. -/
def State.setMark (s : State) (a : Nat) (m : Option Mark) : State :=
  let t := { s with ecc := { s.ecc with flips := del s.ecc.flips (codeWord a),
                                        known := if m == some Mark.bad then s.ecc.known else s.ecc.known.erase (codeWord a) } }
  match m with
  | some k => { t with marks := ins t.marks (codeWord a) k }
  | none => { t with marks := del t.marks (codeWord a) }

/-- The first code word in [a, a + n) with an uncorrectable error. -/
def State.badIn (s : State) (a n : Nat) : Option Nat :=
  (s.marks.find? (fun e => codeWord a ≤ e.1 && e.1 < a + n && e.2 == .bad)).map (·.1)

/-- An uncorrectable error lies in [a, a + n). -/
def State.bad (s : State) (a n : Nat) : Bool := (s.badIn a n).isSome

/-- The error marks of [a, a + n) cleared, as a write of whole code words does (R488). -/
def State.clearMarks (s : State) (a n : Nat) : State :=
  { s with marks := delRange s.marks (codeWord a) (a + n - codeWord a),
           ecc := { s.ecc with flips := delRange s.ecc.flips (codeWord a) (a + n - codeWord a),
                               known := s.ecc.known.filter (fun x => x < codeWord a || a + n ≤ x) } }

/-- How many bits of a word are set. -/
def ones {n : Nat} (w : BitVec n) : Nat := (bitsOf w n).length

/-- An armed flip falls on a write of [a, a + n) (R493). -/
def State.flipHit (s : State) (a n : Nat) : Bool :=
  s.on F.ECC_FLIP_CTL_ARM && (let f := codeWord (s.reg F.ECC_FLIP_ADDR).toNat
    codeWord a ≤ f && f < a + n && (bankOf f).isSome)

/-- The inverted bits of R493 that count: all, or under parity those of the word and the parity bit. -/
def State.flipCount (s : State) : Nat :=
  let f := codeWord (s.reg F.ECC_FLIP_ADDR).toNat
  let wide := codeBytes f = 8
  let d : W64 := (if wide then s.reg F.ECC_FLIP_HI else 0) ++ s.reg F.ECC_FLIP_LO
  let c : Byte := BitVec.ofNat 8 (if wide then s.fld F.ECC_FLIP_CTL_CHK else s.fld F.ECC_FLIP_CTL_CHK % 128)
  ones d + (if bankOf f == some 2 then c.toNat % 2 else ones c)

/-- The flip of R493: bits inverted in the stored word make it a single-bit or an uncorrectable error; under parity, an odd
number makes a fault and an even number passes unseen. -/
def State.flip (s : State) : State :=
  let f := codeWord (s.reg F.ECC_FLIP_ADDR).toNat
  let wide := codeBytes f = 8
  let d : W64 := (if wide then s.reg F.ECC_FLIP_HI else 0) ++ s.reg F.ECC_FLIP_LO
  let c : Byte := BitVec.ofNat 8 (if wide then s.fld F.ECC_FLIP_CTL_CHK else s.fld F.ECC_FLIP_CTL_CHK % 128)
  let k := s.flipCount
  let t := s.setFld F.ECC_FLIP_CTL_ARM 0
  if k = 0 then t
  else if bankOf f == some 2 then (if k % 2 = 1 then t.setMark f (some .bad) else t)
  else
    let u := t.setMark f (some (if k = 1 then .single else .bad))
    { u with ecc := { u.ecc with flips := ins u.ecc.flips f (d, c) } }

/-- An uncorrectable error recorded: BANK_UEb, BANK_STATb.UE and ALERT bit 5 (R487). -/
def State.ueRecord (s : State) (a : Nat) : State :=
  let t := { s with side := { s.side with alert := s.side.alert ||| flag true 5 } }
  match bankOf a with
  | some b => (t.setReg (F.BANK_UEb b) (lo32 (codeWord a))).setFld (F.BANK_STATb_UE b) 1
  | none => t

/-- A corrected error counted in BANK_CEb (R486). -/
def State.ceRecord (s : State) (a : Nat) : State :=
  match bankOf a with
  | some b => s.bump (F.BANK_CEb_CE b)
  | none => s

/-- A write of part of a code word reads it first: a single-bit error is corrected and counted; an uncorrectable one stays, and
the writer meets an error response (R488, R517). -/
def State.merge (s : State) (a : Nat) : State :=
  match s.markAt a, bankOf a with
  | some .single, some _ => (s.setMark a none).ceRecord a
  | some .single, none => (s.setMark a none).bump F.DRC_CE_CE
  | some .bad, some _ => s.ueRecord a
  | _, _ => s

/-- In fast start the lines of [a, a + n) that a write reaches become valid (R501). -/
def State.validate (s : State) (a n : Nat) : State :=
  match bankOf a with
  | some b =>
    if !s.pwr.fast || b == 1 || s.ecc.full.contains b then s
    else if bankSize b ≤ n then { s with ecc := { s.ecc with full := b :: s.ecc.full } }
    else
      let new := ((List.range ((a + n - 1) / 64 + 1 - a / 64)).map (· + a / 64)).filter (fun l => !s.ecc.lines.contains l)
      { s with ecc := { s.ecc with lines := new ++ s.ecc.lines } }
  | none => s

/-- The valid bits of the lines of [a, a + n), a part of a bank, are cleared (R501, R555). -/
def State.invalidate (s : State) (a n : Nat) : State :=
  match bankOf a with
  | some b =>
    let all := if s.ecc.full.contains b then (List.range (bankSize b / 64)).map (· + bankBase b / 64) ++ s.ecc.lines else s.ecc.lines
    if !s.pwr.fast then s
    else { s with ecc := { s.ecc with full := s.ecc.full.erase b, lines := all.filter (fun l => 64 * l < a || a + n ≤ 64 * l) } }
  | none => s

/-- A master writes [a, a + n): whole code words lose their error, a part of one merges (R488), a line becomes valid (R501), and
an armed flip acts (R493). -/
def State.wrote (s : State) (a n : Nat) : State :=
  if s.marks.isEmpty && !s.on F.ECC_FLIP_CTL_ARM && !s.pwr.fast then s
  else
    let t := s.validate a n
    let t := if codeBytes a ≤ n then t.clearMarks a n else t.merge a
    if t.flipHit a n then t.flip else t

/-- Writes of several ranges: addresses and bytes. -/
def State.wroteAll (s : State) (l : List (Nat × Nat)) : State := l.foldl (fun t e => if e.2 = 0 then t else t.wrote e.1 e.2) s

/-- As wrote, for a word that parity protects: an even number of inverted bits stays in the word (R493). -/
def State.wroteParity (s : State) (a n : Nat) : State :=
  let f := codeWord (s.reg F.ECC_FLIP_ADDR).toNat
  let t := s.wrote a n
  if s.flipHit a n && bankOf f == some 2 && s.flipCount % 2 == 0 then t.setWord f (s.word f ^^^ s.reg F.ECC_FLIP_LO) else t

/-- A read of [a, a + n) corrects its single-bit errors (R486). -/
def State.fixSingles (s : State) (a n : Nat) : State :=
  if s.marks.isEmpty then s
  else (s.marks.filter (fun e => codeWord a ≤ e.1 && e.1 < a + n && e.2 == .single)).foldl
    (fun t e => (t.setMark e.1 none).ceRecord e.1) s

/-! ## Balls under boundary scan and without their rails (R565, R572) -/

/-- The TAP is in an instruction that takes control of the balls. -/
def State.tapHolds (s : State) : Bool := s.tap == .extest || s.tap == .clamp || s.tap == .highz

/-- The rails of the L18 and SD balls and of TDO are present: with PWRGOOD high, and with it low where the board keeps them, which is
free (log 153). -/
def State.ioPowered (s : State) : Bool := s.pwr.good || Config.ioRails s.free

/-! ## Gates and readiness (R322, R446) -/

/-- A gate's block takes accesses: its gate is open and not asked to close (R446, R447). -/
def State.gateOpen (s : State) (n b : Nat) : Bool :=
  (s.reg (F.CKG_ENn n)).getLsbD b && !s.clk.closing.contains (n, b)

/-- A unit is ready: its SYS_READY bit is 1 and its gate is open. -/
def State.unit (s : State) (f : Fld) (gate : Nat × Nat) : Bool := s.on f && s.gateOpen gate.1 gate.2

/-! ## Banks and their power domains (R475, R502) -/

/-- PSTATE of a power domain: 0 ON, 1 RET, 2 OFF, 3 in transition. -/
def pdFld (p : Nat) : Fld := ⟨F.PWR_STAT, 2 * p + 1, 2 * p⟩
def State.pd (s : State) (p : Nat) : Nat := s.fld (pdFld p)

/-- The power domain of a bank. -/
def bankPd (b : Nat) : Nat :=
  if b = 0 then 1 else if b = 1 then 0 else if b = 2 then 7 else if b = 6 then 5 else if b < 8 then 4
  else if b < 24 then 2 else 3

def State.bankOn (s : State) (b : Nat) : Bool := s.pd (bankPd b) == 0

/-- A requested destructive march runs on a bank. -/
def State.marching (s : State) (b : Nat) : Bool :=
  s.on F.MARCH_STAT_RUN && !s.on F.MARCH_STAT_PRES && s.fld F.MARCH_STAT_BANK == b

/-- A bank is in raw mode (R492). -/
def State.rawBank (s : State) (b : Nat) : Bool := s.on F.ECC_TEST_CTRL_RAW && s.fld F.ECC_TEST_CTRL_BANK == b

/-- The access of a master meets an error response from a bank: it is in raw mode, marches, or is not ON (R492, R494, R502). -/
def State.bankShut (s : State) (b : Nat) : Bool := s.rawBank b || s.marching b || !s.bankOn b

/-- A bank in RET or OFF counts the accesses that it refuses (R502). -/
def State.pdErr (s : State) (b : Nat) : State := if s.bankOn b then s else s.bump F.FAB_STAT_PDERR

/-- Where the secure bank holds a mooring's key, a slot's hash and the valid bits (R503). -/
def keyAddr (m : Nat) : Nat := 0x30000000 + 32 * m
def slotAddr (k : Nat) : Nat := 0x30000100 + 32 * k
def validAddr : Nat := 0x30000180

/-! ## Free values -/

/-- The number of the next free value, and the state that has drawn it (log 7). -/
def State.draw (s : State) : Nat × State := (s.free, { s with free := s.free + 1 })

/-! ## Ownership (R276, R277) -/

/-- Offsets of entry 0 of each kind of the owner table. -/
def ownSections : Nat := 0x8000
def ownSlots : Nat := 0xC000
def ownSpans : Nat := 0xE000
def ownInputs : Nat := 0xE800
def ownOutputs : Nat := 0xEC00
def ownXmIn : Nat := 0xF000
def ownXmOut : Nat := 0xF200
def ownStreams : Nat := 0xF300
def ownBuses : Nat := 0xF400
def ownTasks : Nat := 0xF480
def ownScenes : Nat := 0xF490
def ownAsrc : Nat := 0xF4A0
def ownGangway : Nat := 0xF4B0

/-- The entry of a resource: 0 for M0 alone, else the mooring that owns it with M0. -/
def State.owner (s : State) (kind n : Nat) : Nat :=
  bf (lookD s.own 0 (kind + 4 * (n / 8))) (4 * (n % 8) + 3) (4 * (n % 8))

/-- A mooring owns a resource. M0 owns everything. -/
def State.owns (s : State) (m : Fin 8) (kind n : Nat) : Bool := m == 0 || s.owner kind n == m.val

/-- The owner-table index of a port channel identifier (R276, R32). -/
def chanOwnIdx (ch : Nat) : Nat :=
  let i := ch % 4096
  match ch / 4096 with
  | 0 => i
  | 1 => 512 + i
  | _ => 1024 + i

/-- A mooring owns a port channel. -/
def State.ownsChan (s : State) (m : Fin 8) (out : Bool) (ch : Nat) : Bool :=
  s.owns m (if out then ownOutputs else ownInputs) (chanOwnIdx ch)

/-! ## Status codes (R356) -/

def stOk : Nat := 0x00
def stPending : Nat := 0x01
def ebadpkt : Nat := 0x10
def epoison : Nat := 0x11
def eauth : Nat := 0x12
def eopcode : Nat := 0x20
def erange : Nat := 0x21
def ebusy : Nat := 0x22
def estate : Nat := 0x23
def eperm : Nat := 0x24
def eunstable : Nat := 0x25
def etime : Nat := 0x26
def eproto : Nat := 0x27
def eflushed : Nat := 0x30
def enotready : Nat := 0x31
def efault : Nat := 0x40

/-! ## Packets to hosts (R281, R282) -/

/-- The landing queue of a mooring and class. -/
def State.queue (s : State) (m c : Nat) : LandQ :=
  lookD s.queues (freshQueue (s.fld (F.LQ_CFGm_c_SIZE m c))) (m * 4 + c)

def State.setQueue (s : State) (m c : Nat) (q : LandQ) : State := { s with queues := ins s.queues (m * 4 + c) q }

/-- LQ_LIMAm and LQ_LIMBm: the credit limits of classes 1, 0 and of classes 3, 2 (R281, R287). -/
def State.limA (s : State) (m : Nat) : W32 := at32 ((s.queue m 1).limit % 65536) 16 ||| at32 ((s.queue m 0).limit % 65536) 0
def State.limB (s : State) (m : Nat) : W32 := at32 ((s.queue m 3).limit % 65536) 16 ||| at32 ((s.queue m 2).limit % 65536) 0

/-- The words of a record: opcode, status and payload count, then the payload (R282). -/
def recWords (r : Rec) : List W32 :=
  (at32 r.op 24 ||| at32 r.status 16 ||| at32 r.payload.length 0) :: r.payload

/-- The key of a mooring in the secure bank. -/
def State.key (s : State) (m : Nat) : Option (List Byte) := look s.sec.keys m

/-- The words of a reply or notice packet (R281), tagged when AUTHREQ is 1 and a key is held. -/
def packetWords (s : State) (m : Fin 8) (key : Option (List Byte)) (cls : Nat) (seq : W16) (tag : W32)
    (status nrec : Nat) (lost notice : Bool) (body : List W32) : List W32 :=
  let key := if s.on (F.MOOR_BINDm_AUTHREQ m.val) then key else none
  let n := 6 + body.length + 1 + (if key.isSome then 4 else 0)
  let w0 := at32 0xA71 20 ||| at32 cls 16 ||| seq.setWidth 32
  let w1 := at32 n 16 ||| at32 m.val 8 ||| flag lost 4 ||| flag notice 3 ||| flag key.isSome 0
  let head := [w0, w1, tag, at32 status 24 ||| at32 nrec 0, s.limA m.val, s.limB m.val] ++ body
  let tagged := match key with
    | some k => head ++ wordsLE ((hmac k (bytesLE head)).take 16)
    | none => head
  tagged ++ [crc32c (bytesLE tagged)]

/-- A packet put at the end of what a mooring's link has to send. -/
def State.post (s : State) (m : Fin 8) (ws : List W32) (notice : Bool) : State :=
  let mo := s.moors[m]
  let p : OutPkt := { words := ws, notice := notice, stamp := s.ctl.stamp }
  { s with moors := s.moors.set m { mo with out := mo.out ++ [p] }, ctl := { s.ctl with stamp := s.ctl.stamp + 1 } }

/-- A reply to a packet, by what the controller knows of it (R281, R293). -/
def State.reply (s : State) (p : Pkt) : State :=
  let quiet := p.noreply && p.status == stOk && p.recs.all (fun r => r.status == stOk)
  let key := lookD s.ctl.oldKey (s.key p.m.val) p.id
  let s1 := if quiet then s else
    s.post p.m (packetWords s p.m key p.cls.val p.seq p.tag p.status
      (if p.status = stOk then p.recs.length else 0) false false
      (if p.status = stOk then p.recs.flatMap recWords else [])) false
  s1

/-! ## Notices (R308, R309) -/

/-- A notice put into the queue of one mooring: dropped and counted where the queue holds 64, and told of by LOST in the next one
(R309, log 166); a fenced mooring gets none (R288). -/
def State.noticeTo (s : State) (m : Fin 8) (code : Nat) (payload : List W32) : State :=
  let mo := s.moors[m]
  if mo.fenced then s
  else if 64 ≤ (mo.out.filter (·.notice)).length then
    { s.bump (F.MOOR_STATm_NLOST m.val) with moors := s.moors.set m { mo with lost := true } }
  else
    let body := (at32 0xFF 24 ||| at32 code 16 ||| at32 payload.length 0) :: payload
    let ws := packetWords s m (s.key m.val) 0 mo.nseq 0 0 1 mo.lost true body
    { s with moors := s.moors.set m { mo with nseq := mo.nseq + 1, lost := false } }.post m ws true

/-- The moorings in ascending order. -/
def allMoors : List (Fin 8) := [0, 1, 2, 3, 4, 5, 6, 7]

/-- A notice to the subscribed moorings that a test admits. -/
def State.noticeIf (s : State) (code : Nat) (payload : List W32) (sel : Fin 8 → Bool) : State :=
  (allMoors.filter (fun m => (s.moors[m]).subs.getLsbD code && sel m)).foldl (fun t m => t.noticeTo m code payload) s

/-- A notice to every mooring subscribed to its code (R308). -/
def State.notice (s : State) (code : Nat) (payload : List W32) : State := s.noticeIf code payload (fun _ => true)

/-- A bit of the ALERT word, MGMT index 0x05 (R307). -/
def State.alertBit (s : State) (i : Nat) : State :=
  { s with side := { s.side with alert := s.side.alert ||| flag true i } }

def nREADY : Nat := 1
def nFERRY : Nat := 2
def nFAULT : Nat := 3
def nREFSEL : Nat := 4
def nRATECHG : Nat := 5
def nUNDERRUN : Nat := 6
def nZCTIMEOUT : Nat := 7
def nTURNDONE : Nat := 8
def nMETER : Nat := 9
def nLINK : Nat := 10
def nECCERR : Nat := 11
def nTHERMAL : Nat := 12
def nTAMPER : Nat := 13
def nCLKFAIL : Nat := 14
def nPTPSTATE : Nat := 15

/-- The FAULT notice and its ALERT bit (R266, R307). -/
def State.faultNotice (s : State) (source cause cls unit task code pc action : Nat) : State :=
  (s.alertBit 1).notice nFAULT
    [at32 source 28 ||| at32 cause 24 ||| at32 cls 23 ||| at32 unit 16 ||| at32 task 8 ||| at32 code 0,
     at32 pc 0, lo32 s.tt.frame, at32 action 0]

/-- The ECCERR notice (R489). -/
def State.eccNotice (s : State) (bank kind master addr index : Nat) : State :=
  s.notice nECCERR [at32 bank 24 ||| at32 kind 20 ||| at32 master 16, lo32 addr, hi32 addr, lo32 index, lo32 s.tt.frame]

/-- A bit of a field of CKM_STAT. -/
def ckmBit (f : Fld) (d : Nat) : Fld := ⟨f.reg, f.lo + d, f.lo + d⟩

/-- The units whose SYS_READY bits a mute clears: every one but the controllers, the landing queues, the host links and the
gangway (R451). -/
def muteFlds : List Fld :=
  [F.SYS_READY_PTPLOCK, F.SYS_READY_MPLL, F.SYS_READY_PLL0, F.SYS_READY_XO, F.SYS_READY_MEMT, F.SYS_READY_MTR,
   F.SYS_READY_LIM, F.SYS_READY_ASRC, F.SYS_READY_AES, F.SYS_READY_TDM, F.SYS_READY_DRC, F.SYS_READY_TIME,
   F.SYS_READY_ZONE, F.SYS_READY_STRM, F.SYS_READY_NETB, F.SYS_READY_NETA, F.SYS_READY_SIGB, F.SYS_READY_SIGA,
   F.SYS_READY_PN, F.SYS_READY_XM, F.SYS_READY_TT]

/-- The units that a failed domain D0 to D6 makes unready (R450, chapter 0). -/
def domainFlds (d : Nat) : List Fld :=
  match d with
  | 0 => [F.SYS_READY_SIGA, F.SYS_READY_SIGB]
  | 1 => [F.SYS_READY_XM, F.SYS_READY_PN]
  | 2 => [F.SYS_READY_TT]
  | 4 => [F.SYS_READY_NETA, F.SYS_READY_NETB, F.SYS_READY_STRM, F.SYS_READY_ZONE, F.SYS_READY_TIME, F.SYS_READY_PTPLOCK]
  | 5 => [F.SYS_READY_DRC]
  | 6 => [F.SYS_READY_TDM, F.SYS_READY_AES, F.SYS_READY_ASRC, F.SYS_READY_LIM, F.SYS_READY_LQ, F.SYS_READY_PCIE,
          F.SYS_READY_QP0, F.SYS_READY_QP1, F.SYS_READY_GW]
  | _ => []

/-- A clock domain has not failed (R450). -/
def State.domOk (s : State) (d : Nat) : Bool := !s.on (ckmBit F.CKM_STAT_DFAIL d)

/-- A mute or the failure of its clock domain holds a unit's SYS_READY bit at 0 (R450, R451). -/
def State.readyBarred (s : State) (f : Fld) : Bool :=
  s.clk.mute && muteFlds.contains f || (List.range 8).any (fun d => !s.domOk d && (domainFlds d).contains f)

/-- SYS_READY bits that become 1, with the READY notice (R358). -/
def State.setReady (s : State) (fs : List Fld) : State :=
  let fs := fs.filter (fun f => !s.readyBarred f)
  let old := s.reg F.SYS_READY
  let t := fs.foldl (fun t f => t.setFld f 1) s
  let new := t.reg F.SYS_READY
  if new = old then t else t.notice nREADY [new, new &&& ~~~old]

/-- SYS_READY bits that become 0. -/
def State.clearReady (s : State) (fs : List Fld) : State := fs.foldl (fun t f => t.setFld f 0) s

/-! ## Waiting replies (R318) -/

/-- A packet's reply waits for one more thing. -/
def State.addWait (s : State) (pid : Nat) (w : Wait) : State :=
  { s with ctl := { s.ctl with waits := s.ctl.waits ++ [(pid, w)] } }

/-- The packet's units freed: RD advances and LIMIT rises (R292). -/
def State.freeUnits (s : State) (m c units : Nat) : State :=
  let q := s.queue m c
  let size := s.fld (F.LQ_CFGm_c_SIZE m c)
  s.setQueue m c { q with rd := if size = 0 then 0 else (q.rd + units) % (2 * size), limit := (q.limit + units) % 65536 }

/-- The replies that have fallen due, in the order in which their packets completed: each is sent and what its packet
held back (a change of M0's own key, with the restart of its R280 state) happens. -/
def State.sendDue : List Pkt → State → State
  | [], s => s
  | p :: r, s =>
    if s.ctl.waits.any (fun w => w.1 == p.id) then State.sendDue r s
    else
      let t := s.reply p
      let t := if p.units = 0 then t else t.freeUnits p.m.val p.cls.val p.units
      let keys := (s.ctl.keyOps.filter (fun k => k.1 == p.id)).foldl (fun ks k =>
        match k.2 with
        | some v => ins ks 0 v
        | none => del ks 0) t.sec.keys
      let mine := s.ctl.keyOps.any (fun k => k.1 == p.id)
      let m0 := t.moors[0]
      let moors := if mine then t.moors.set 0 { m0 with last := [none, none, none, none] } else t.moors
      State.sendDue r
        { t with sec := { t.sec with keys := keys }, moors := moors,
                 ctl := { t.ctl with replies := t.ctl.replies.filter (fun x => x.id != p.id), oldKey := del t.ctl.oldKey p.id,
                                     keyOps := t.ctl.keyOps.filter (fun k => k.1 != p.id) } }

/-- What has fallen due is put into the output queues (R362); during a controller restart nothing leaves them (R297). -/
def State.flushDue (s : State) : State := if s.ctl.run == .restarting then s else State.sendDue s.ctl.replies s

/-- The waits that a test names have ended. -/
def State.release (s : State) (p : Wait → Bool) : State :=
  State.flushDue { s with ctl := { s.ctl with waits := s.ctl.waits.filter (fun w => !p w.2) } }

/-! ## Deferred effects (R316) -/

/-- An effect deferred to the next stage edge by a packet's instruction; the reply waits for that edge. -/
def State.defer (s : State) (pid : Nat) (e : Eff) : State :=
  { s with ctl := { s.ctl with deferred := s.ctl.deferred ++ [(pid, e)] } }

/-! ## The frame of an instruction -/

/-- What an instruction leaves: its status, its payload and the state. -/
structure Res where
  status : Nat
  payload : List W32
  st : State

def Res.ok (s : State) : Res := ⟨stOk, [], s⟩
def Res.okP (s : State) (p : List W32) : Res := ⟨stOk, p, s⟩
def Res.err (s : State) (e : Nat) : Res := ⟨e, [], s⟩

/-- The status of the first condition that holds, in the order of an instruction's error table (R321). -/
def firstErr : List (Bool × Nat) → Option Nat
  | [] => none
  | (b, e) :: r => if b then some e else firstErr r

/-- An instruction fails with the first error whose condition holds, else it acts. -/
def checked (s : State) (cs : List (Bool × Nat)) (act : Unit → Res) : Res :=
  match firstErr cs with
  | some e => Res.err s e
  | none => act ()

/-- The longest reply of a mooring in words (R320). -/
def State.replyMax (s : State) (m : Fin 8) : Nat :=
  let space := if s.fld (F.MOOR_BINDm_LINK m.val) < 4 then 2 ^ (s.fld (F.PCIE_RCFGm_LOG2 m.val) - 1) / 4 else 8192
  min 16400 space

/-- The length in words of the reply of a packet with one more record of n payload words, and with the record that follows
where the packet has a further instruction (log 127). -/
def replyLen (s : State) (p : Pkt) (n : Nat) : Nat :=
  7 + (p.recs.flatMap recWords).length + 1 + n + (if p.insns.tail.isEmpty then 0 else 1) + (if s.on (F.MOOR_BINDm_AUTHREQ p.m.val) then 4 else 0)

/-- The running packet completes: its units are freed and its reply waits until it falls due (R318). -/
def State.completePacket (s : State) : State :=
  match s.ctl.stack with
  | [] => s
  | p :: r =>
    let t := if p.units = 0 then s else s.freeUnits p.m.val p.cls.val p.units
    State.flushDue { t with ctl := { t.ctl with stack := r, replies := t.ctl.replies ++ [{ p with units := 0 }] } }

/-- An opcode of R314. -/
def opListed (op : Nat) : Bool :=
  [0x00, 0x01, 0x02, 0x08, 0x09, 0x0A, 0x10, 0x11, 0x12, 0x18, 0x19, 0x1A, 0x20, 0x21, 0x22, 0x29, 0x2A, 0x30, 0x31, 0x32,
   0x33, 0x34, 0x35, 0x40, 0x41, 0x42, 0x44, 0x48, 0x49, 0x4A, 0x4B, 0x50, 0x51, 0x52, 0x58, 0x59, 0x60, 0x68, 0x69, 0x70,
   0x71, 0x72, 0x78, 0x79, 0x7E, 0x7F].contains op

/-- A running packet whose next instruction has a reserved opcode fails there (R315, R317; log 2). -/
def State.closeReserved (s : State) : State :=
  match s.ctl.stack with
  | [] => s
  | p :: rest =>
    match p.insns with
    | [] => s
    | i :: more =>
      if opListed i.op then s
      else
        let p1 := { p with recs := p.recs ++ [{ op := i.op, status := eopcode, payload := [] }], insns := more }
        { s with ctl := { s.ctl with stack := p1 :: rest } }.completePacket

/-- An instruction row is the next instruction of the running packet. -/
def State.isNext (s : State) (op : Nat) (q : Req) : Bool :=
  match s.ctl.stack with
  | p :: _ => p.m == q.m && p.cls == q.cls && p.auth == q.auth && p.insns.head? == some { op := op, mod := q.mod, ops := q.ops }
  | [] => false

/-- The packet in which an instruction row acts: the running packet when the row is its next instruction; otherwise a
packet of this one instruction, without landing units (log 2). -/
def State.enter (s : State) (op : Nat) (q : Req) : State :=
  let i : Insn := { op := op, mod := q.mod, ops := q.ops }
  let fresh : Pkt := { id := s.ctl.nextId, m := q.m, cls := q.cls, auth := q.auth, seq := 0, tag := 0, noreply := false, units := 0,
                       stamp := 0, insns := [i], recs := [], status := stOk }
  let push := { s with ctl := { s.ctl with stack := fresh :: s.ctl.stack, nextId := s.ctl.nextId + 1 } }
  if s.isNext op q then s else push

/-- The operation that a modifier selects, by opcode; none for a reserved modifier. Opcodes of one operation answer 0 for
modifier 0. -/
def modSel (op : Nat) (mod : W16) : Option Nat :=
  let m := mod.toNat
  let upTo (n : Nat) : Option Nat := if m ≤ n then some m else none
  match op with
  | 0x02 => upTo 2
  | 0x11 => upTo 3
  | 0x18 => if m % 4 = 0 ∧ m % 32768 < 4 then some 0 else if m % 4 = 1 ∧ m % 32768 < 4 then some 1 else none
  | 0x19 => if m % 32768 < 2 then some 0 else none
  | 0x1A => upTo 3
  | 0x20 => if m % 4 = 0 ∧ m % 32768 < 8 then some 0 else if m % 4 = 1 ∧ m % 32768 < 8 then some 1 else none
  | 0x21 => upTo 1
  | 0x22 => if m ≤ 2 then some 0 else none
  | 0x29 => upTo 1
  | 0x30 => upTo 3
  | 0x31 => upTo 1
  | 0x32 => if m % 32768 ≤ 2 then some (m % 4) else none
  | 0x33 => upTo 6
  | 0x34 => upTo 2
  | 0x35 => upTo 2
  | 0x40 => upTo 2
  | 0x41 => upTo 2
  | 0x42 => upTo 3
  | 0x44 => upTo 2
  | 0x48 => upTo 2
  | 0x4A => upTo 2
  | 0x50 => upTo 5
  | 0x51 => upTo 2
  | 0x52 => upTo 1
  | 0x58 => upTo 3
  | 0x59 => upTo 2
  | 0x60 => upTo 2
  | 0x68 => upTo 1
  | 0x69 => upTo 1
  | 0x71 => upTo 2
  | 0x72 => upTo 1
  | 0x78 => upTo 2
  | _ => if m = 0 then some 0 else none

/-- The controllers execute an opcode: the firmware every one, the boot loader NOP, ECHO, QUERY and MWRITE (R562). -/
def State.executes (s : State) (op : Nat) : Bool :=
  match s.ctl.run with
  | .firmware => true
  | .loader => op == 0x00 || op == 0x01 || op == 0x02 || op == 0x09
  | _ => false

/-- The controllers take instructions: the firmware or the boot loader runs. -/
def State.commands (s : State) : Bool :=
  match s.ctl.run with
  | .firmware => true
  | .loader => true
  | _ => false

/-- The class of a request is one that a row of R314 admits. -/
def clsIn (q : Req) (l : List Nat) : Bool := l.contains q.cls.val

end Sys2Proof.Machine
end

