-- ==== Sys2Proof/Machine/Deck.lean ====
section
/-! DEFINITION. Machine/Deck.lean: the deck: words and valid bits, reads and writes of each kind of unit, kinds and
bindings (R26 to R36). -/

namespace Sys2Proof.Machine

/-- The kind of a slot (R27). -/
def State.kind (s : State) (slot : Nat) : SlotKind := lookD s.deck.kinds .free slot

/-- The key of a deck word: slot, buffer by frame parity (R26) and position. -/
def deckKey (slot frame w : Nat) : Nat := slot * 32 + (frame % 2) * 16 + w

/-- The word of a buffer; a word whose valid bit is clear reads 0 (R28), and so does every word while the bank refuses the
access (R492, R494, R502). -/
def State.deckGet (s : State) (slot frame w : Nat) : W32 :=
  if s.bankShut 7 then 0 else lookD s.deck.words 0 (deckKey slot frame w)

/-- The word is valid (R28). -/
def State.deckValid (s : State) (slot frame w : Nat) : Bool :=
  !s.bankShut 7 && (look s.deck.words (deckKey slot frame w)).isSome

/-- The address of a deck word by its key (R26). -/
def deckAddr (key : Nat) : Nat := 0x90000000 + 4 * key

/-- A word written, which sets its valid bit (R28); a bank that refuses the access drops it (R492, R494, R502). -/
def State.deckPut (s : State) (slot frame w : Nat) (v : W32) : State :=
  if s.bankShut 7 then s
  else { s with deck := { s.deck with words := ins s.deck.words (deckKey slot frame w) v } }.wrote
    (deckAddr (deckKey slot frame w)) 4

/-- What a read of one deck word meets (R486, R487): a single-bit error is corrected; a word with an uncorrectable error is
rewritten as 0 and not valid. The sample port has no master number: it is free (log 7). -/
def State.deckScanOne (s : State) (key : Nat) (master : Option Nat) : State :=
  let a := deckAddr key
  match s.markAt a with
  | none => s
  | some .single => (s.setMark a none).ceRecord a
  | some .bad =>
    let d := s.draw
    let m := match master with
      | some m => m
      | none => (Config.freeWord d.1).toNat % 16
    let t := if master.isSome then s else d.2
    let t := { t.setMark a none with deck := { t.deck with words := del t.deck.words key } }
    (t.ueRecord a).eccNotice 7 0 m a 0

/-- The words of a buffer as a master reads them. A bank in RET or OFF counts the access of a master; the sample port is not
one (R481, R502). -/
def State.deckScan (s : State) (slot frame : Nat) (master : Option Nat) : State :=
  if s.bankShut 7 then (if master.isSome then s.pdErr 7 else s)
  else if s.marks.isEmpty then s
  else (List.range 16).foldl (fun t w => t.deckScanOne (deckKey slot frame w) master) s

/-- Words written from position j on. -/
def State.deckPuts (s : State) (slot frame j : Nat) : List W32 → State
  | [] => s
  | v :: r => (s.deckPut slot frame j v).deckPuts slot frame (j + 1) r

/-- The 16 words of a buffer as a reader sees them. -/
def State.deckWords (s : State) (slot frame : Nat) : List W32 := (List.range 16).map (s.deckGet slot frame)

/-- A refused deck access (R29, R30). -/
def State.kerr (s : State) : State := s.setFld F.TT_STAT_KERR 1

/-- What a compute unit reads: with lag the buffer of the previous frame, allowed on WORK and OUT only (R29); a FREE slot
reads 0 (R27). The stage that ends at an edge still reads the IN words that go there. The flag says that the access is
refused with KERR. A bank that answers with an error gives 0 (R492, R494, R502). -/
def State.deckRead (s : State) (slot frame w : Nat) (lag : Bool) : W32 × Bool :=
  if s.bankShut 7 then (0, false)
  else match s.kind slot, lag with
  | .free, _ => (0, false)
  | .inp, true => (0, true)
  | .inp, false => (lookD ((s.deck.held).getD s.deck.words) 0 (deckKey slot frame w), false)
  | _, true => (s.deckGet slot (frame + 1) w, false)
  | _, false => (s.deckGet slot frame w, false)

/-- The 16 words that a compute unit reads from a slot, and whether an access was refused. -/
def State.deckRead16 (s : State) (slot frame : Nat) (lag : Bool) : List W32 × Bool :=
  ((List.range 16).map (fun w => (s.deckRead slot frame w lag).1), (s.deckRead slot frame 0 lag).2)

/-- A compute unit may write a word of a frame: the slot is WORK or OUT and the frame is the one in compute (R30). -/
def State.deckWritable (s : State) (slot frame : Nat) (lag : Bool) : Bool :=
  (s.kind slot == .work || s.kind slot == .out) && !lag && frame == s.tt.frame && s.tt.staged

/-- A write of a compute unit; a write that R30 drops sets KERR. -/
def State.deckWrite (s : State) (slot frame w : Nat) (lag : Bool) (v : W32) : State :=
  if s.bankShut 7 then s.pdErr 7 else if s.deckWritable slot frame lag then s.deckPut slot frame w v else s.kerr

/-- A list of slots whose 16 words of a frame a compute unit writes. -/
def State.deckWrite16 (s : State) (slot frame : Nat) (ws : List W32) : State :=
  if s.bankShut 7 then s.pdErr 7 else if s.deckWritable slot frame false then s.deckPuts slot frame 0 ws else s.kerr

/-- The valid bits of the buffers of one parity cleared for the slots of some kinds. -/
def State.deckClear (s : State) (parity : Nat) (p : SlotKind → Bool) : State :=
  let keep := s.deck.words.filter (fun e => !(e.1 / 16 % 2 == parity % 2 && p (s.kind (e.1 / 32))))
  { s with deck := { s.deck with words := keep } }

/-- Both buffers of one slot cleared (R36). -/
def State.deckClearSlot (s : State) (slot : Nat) : State :=
  { s with deck := { s.deck with words := delRange s.deck.words (slot * 32) 32 } }

/-- A kind change of one slot (R36). -/
def State.setKind (s : State) (slot : Nat) (k : SlotKind) : State :=
  if s.kind slot = k then s
  else
    let t := s.deckClearSlot slot
    { t with deck := { t.deck with kinds := insD t.deck.kinds .free slot k } }

/-- Kinds of count slots from a first one. -/
def State.setKinds (s : State) (first : Nat) : Nat → SlotKind → State
  | 0, _ => s
  | n + 1, k => (s.setKind first k).setKinds (first + 1) n k

/-- The deck word of a 24-bit port word (R20). -/
def deckOfPort (w : W24) : W32 := (w.signExtend 32) <<< 8

/-- The port word of a deck word, and whether the saturation of R21 altered it. -/
def portOfDeck (x : W32) : W24 × Bool :=
  let r := asrI (x.toInt + 0x80) 8
  let c := satS 24 r
  (BitVec.ofInt 24 c, c != r)

/-- A deck word scaled by n sixteenths: (w x n) >> 4 (R55, R199, R331). -/
def fade16 (w : W32) (n : Nat) : W32 := BitVec.ofInt 32 (asrI (w.toInt * n) 4)

/-- The channel identifiers that a rate admits (R32): type and index. -/
def chanOk (rate ch : Nat) : Bool :=
  let i := ch % 4096
  match ch / 4096 with
  | 0 => i < 512 && i % 32 < capLane rate
  | 1 => i < 16
  | 2 => i < capNet rate
  | _ => false

/-- The limiter instance of an output channel (R32). -/
def limOf (ch : Nat) : Nat :=
  match ch / 4096 with
  | 0 => ch % 4096
  | 1 => 1536 + ch % 4096
  | _ => 512 + ch % 4096

/-- The output channel of a limiter instance. -/
def chanOfLim (n : Nat) : Nat := if n < 512 then n else if n < 1536 then 8192 + (n - 512) else 4096 + (n - 1536)

/-- A slot is bound to a port channel (R34). -/
def State.slotBound (s : State) (slot : Nat) : Bool :=
  s.deck.inBind.any (fun e => e.2 == slot) || s.deck.outBind.any (fun e => e.2 == slot)

/-- A slot is named by a valid span (R132). -/
def State.slotInSpan (s : State) (slot : Nat) : Bool :=
  s.pn.spans.any (fun e => e.2.islot == slot || e.2.oslot == slot)

/-- A slot is named by a valid binding of the crossing matrix (R89). -/
def State.slotInXm (s : State) (slot : Nat) : Bool :=
  (sub s.regs (F.XM_INn 0) 4096).any (fun e => bit e.2 31 && bf e.2 13 0 == slot)
  || (sub s.regs (F.XM_BUSn 0) 1024).any (fun e =>
        (bit e.2 31 && bf e.2 13 0 == slot) || (bit e.2 30 && bf e.2 27 14 == slot))
  || (sub s.regs (F.XM_OUTn 0) 2048).any (fun e => bit e.2 31 && bf e.2 13 0 == slot)

/-- The SlotKind of a KIND code (R27). -/
def kindOf : Nat → SlotKind
  | 0 => .free
  | 1 => .inp
  | 2 => .work
  | _ => .out

end Sys2Proof.Machine
end

