-- ==== Sys2Proof/Machine/Flags.lean ====
section
/-! DEFINITION. Machine/Flags.lean: the flags of SCSR and how each compute instruction sets them (R172, R221 to R225,
R228). -/

namespace Sys2Proof.Machine

/-- The flags that programs read and write (R172). -/
structure Flg where
  sv : Bool
  n : Bool
  z : Bool
  v : Bool
  c : Bool
  deriving DecidableEq, Repr

def CoreRegs.flg (r : CoreRegs) : Flg := ⟨r.sv, r.n, r.z, r.v, r.c⟩
def CoreRegs.setFlg (r : CoreRegs) (f : Flg) : CoreRegs := { r with sv := f.sv, n := f.n, z := f.z, v := f.v, c := f.c }

/-- N and Z of a result (R223). -/
def Flg.nz (f : Flg) (r : W32) : Flg := { f with n := r.msb, z := r == 0 }

/-- A result with its flags. -/
abbrev Alu := W32 × Flg

/-- ADD (R223). -/
def aluAdd (f : Flg) (a b : W32) : Alu :=
  let r := a + b
  (r, { f.nz r with v := satS 32 (a.toInt + b.toInt) != a.toInt + b.toInt, c := decide (2 ^ 32 ≤ a.toNat + b.toNat) })

/-- SUB, and CMP's difference (R223). -/
def aluSub (f : Flg) (a b : W32) : Alu :=
  let r := a - b
  (r, { f.nz r with v := satS 32 (a.toInt - b.toInt) != a.toInt - b.toInt, c := decide (b.toNat ≤ a.toNat) })

/-- A saturated result: V when it saturated, SV set with V, C unchanged (R223, R224). -/
def aluSat (f : Flg) (w : Nat) (x : Int) : Alu :=
  let y := satS w x
  let r := BitVec.ofInt 32 y
  (r, { f.nz r with v := y != x, sv := f.sv || y != x })

/-- AND, OR, XOR: V 0, C unchanged (R223). -/
def aluLogic (f : Flg) (r : W32) : Alu := (r, { f.nz r with v := false })

/-- MIN, MAX: only N and Z (R223). -/
def aluPick (f : Flg) (r : W32) : Alu := (r, f.nz r)

/-- ASR, LSR, LSL by s: C is the last bit shifted out, unchanged where s = 0; V 0 (R223). -/
def aluAsr (f : Flg) (a : W32) (s : Nat) : Alu :=
  let r := a.sshiftRight s
  (r, { f.nz r with v := false, c := if s = 0 then f.c else (a.sshiftRight (s - 1)).getLsbD 0 })
def aluLsr (f : Flg) (a : W32) (s : Nat) : Alu :=
  let r := a >>> s
  (r, { f.nz r with v := false, c := if s = 0 then f.c else (a >>> (s - 1)).getLsbD 0 })
def aluLsl (f : Flg) (a : W32) (s : Nat) : Alu :=
  let r := a <<< s
  (r, { f.nz r with v := false, c := if s = 0 then f.c else (a <<< (s - 1)).getLsbD 31 })

/-- A condition code (R228); none for the reserved code 15. -/
def condTrue (f : Flg) (cc : Nat) : Option Bool :=
  match cc with
  | 0 => some true
  | 1 => some f.z
  | 2 => some (!f.z)
  | 3 => some (f.n != f.v)
  | 4 => some (f.n == f.v)
  | 5 => some (!f.z && f.n == f.v)
  | 6 => some (f.z || f.n != f.v)
  | 7 => some f.n
  | 8 => some (!f.n)
  | 9 => some f.v
  | 10 => some (!f.v)
  | 11 => some f.c
  | 12 => some (!f.c)
  | 13 => some f.sv
  | 14 => some (!f.sv)
  | _ => none

end Sys2Proof.Machine
end

