-- ==== Sys2Proof/Machine/Operands.lean ====
section
/-! DEFINITION. Machine/Operands.lean: the operands of a core word: register codes (R212), the move slot and its
addressing (R214, R216), deck pointers (R177), and the writes of a bundle as a list by register. -/

namespace Sys2Proof.Machine

/-! A register that a bundle can write, as a number: the codes of R212, and 0x40 + a for accumulator Aa whole. -/

def regD (n : Nat) : Nat := n
def regP (n : Nat) : Nat := 0x10 + n
def regM (n : Nat) : Nat := 0x18 + n
def regL (n : Nat) : Nat := 0x20 + n
def regDP (n : Nat) : Nat := 0x28 + n
def regIX (n : Nat) : Nat := 0x2C + n
def regA (n : Nat) : Nat := 0x40 + n

/-- Element i of a register file. -/
def at_ {α : Type} {n : Nat} (v : Vector α n) (d : α) (i : Nat) : α := v[i]?.getD d

/-- The register file with element i set. -/
def set_ {α : Type} {n : Nat} (v : Vector α n) (i : Nat) (x : α) : Vector α n := v.setIfInBounds i x

def CoreRegs.dr (r : CoreRegs) (i : Nat) : W32 := at_ r.d 0 i
def CoreRegs.ar (r : CoreRegs) (i : Nat) : W80 := at_ r.a 0 i
def CoreRegs.pr (r : CoreRegs) (i : Nat) : W16 := at_ r.p 0 i
def CoreRegs.mr (r : CoreRegs) (i : Nat) : W16 := at_ r.m 0 i
def CoreRegs.lr (r : CoreRegs) (i : Nat) : W16 := at_ r.l 0 i
def CoreRegs.dpr (r : CoreRegs) (i : Nat) : W32 := at_ r.dp 0 i

/-- LIDX: the iteration index of the innermost loop, 0 without one (R230). -/
def CoreRegs.lidx (r : CoreRegs) : Nat :=
  match r.loops with
  | e :: _ => e.idx
  | [] => 0

/-- SCSR (R172). -/
def CoreRegs.scsr (r : CoreRegs) : W32 :=
  at32 r.rate 29 ||| flag r.pgflip 28 ||| flag r.ferried 27 ||| at32 r.loops.length 21 ||| at32 r.rets.length 17
    ||| flag r.sv 4 ||| flag r.n 3 ||| flag r.z 2 ||| flag r.v 1 ||| flag r.c 0

/-- The reserved bits of a deck pointer forced to 0 (R177, R212). -/
def dpMask (v : W32) : W32 := v &&& 0xBFFF000F

/-- What MOVR reads (R212); none for a reserved code. -/
def readCode (r : CoreRegs) (code : Nat) : Option W32 :=
  if code < 0x10 then some (r.dr code)
  else if code < 0x18 then some ((r.pr (code - 0x10)).setWidth 32)
  else if code < 0x20 then some ((r.mr (code - 0x18)).signExtend 32)
  else if code < 0x28 then some ((r.lr (code - 0x20)).setWidth 32)
  else if code < 0x2C then some (r.dpr (code - 0x28))
  else if code < 0x2E then some ((at_ r.ix 0 (code - 0x2C)).setWidth 32)
  else if code = 0x2E then some r.scsr
  else if code = 0x2F then some (BitVec.ofNat 32 (r.lidx % 65536))
  else if code < 0x3C then
    let a := r.ar ((code - 0x30) / 3)
    match (code - 0x30) % 3 with
    | 0 => some (BitVec.ofNat 32 (bf a 31 0))
    | 1 => some (BitVec.ofNat 32 (bf a 63 32))
    | _ => some ((BitVec.ofNat 16 (bf a 79 64)).signExtend 32)
  else none

/-- A code that MOVR may write (R212). -/
def codeWritable (code : Nat) : Bool := code < 0x3C && code != 0x2F

/-- The register named by a code, as conflicts between slots see it (R209). -/
def codeReg (code : Nat) : Nat := if 0x30 ≤ code then regA ((code - 0x30) / 3) else code

/-- MOVR's write of a 32-bit value by code (R212). -/
def writeCode (r : CoreRegs) (code : Nat) (v : W32) : CoreRegs :=
  let h := v.setWidth 16
  if code < 0x10 then { r with d := set_ r.d code v }
  else if code < 0x18 then { r with p := set_ r.p (code - 0x10) h }
  else if code < 0x20 then { r with m := set_ r.m (code - 0x18) h }
  else if code < 0x28 then { r with l := set_ r.l (code - 0x20) h }
  else if code < 0x2C then { r with dp := set_ r.dp (code - 0x28) (dpMask v) }
  else if code < 0x2E then { r with ix := set_ r.ix (code - 0x2C) h }
  else if code = 0x2E then r.setFlg ⟨bit v 4, bit v 3, bit v 2, bit v 1, bit v 0⟩
  else if 0x30 ≤ code ∧ code < 0x3C then
    let i := (code - 0x30) / 3
    let a := r.ar i
    let b := match (code - 0x30) % 3 with
      | 0 => setBf a 31 0 v.toNat
      | 1 => setBf a 63 32 v.toNat
      | _ => setBf a 79 64 h.toNat
    { r with a := set_ r.a i b }
  else r

/-! ## Move slots (R214 to R218) -/

/-- A move slot: op, REG, PN, AM, MOD of the memory form and DP, INC of the deck form, from its 17 bits. -/
structure Mv where
  op : Nat
  reg : Nat
  pn : Nat
  am : Nat
  mod : Nat
  dp : Nat
  inc : Bool
  raw : Nat
  deriving DecidableEq, Repr

/-- The move slot in bits [lo + 16 : lo] of a word. -/
def mvOf (w : W64) (lo : Nat) : Mv :=
  let b := fun h l => bf w (lo + h) (lo + l)
  { op := b 16 14, reg := b 13 10, pn := b 9 7, am := b 6 5, mod := b 4 0, dp := b 9 8, inc := b 7 7 == 1, raw := b 13 0 }

/-- The slot is a reserved encoding or holds a reserved field that is not 0 (R207, R210, R214 to R216). -/
def Mv.illegal (m : Mv) : Bool :=
  if m.op = 0 then m.raw != 0
  else if m.op = 7 then true
  else if m.op ≤ 4 then
    m.am == 3 || (m.am == 0 && m.mod != 0) || (m.am == 1 && m.mod % 4 != 0)
  else m.am != 0 || m.mod != 0

/-- The memory form. -/
def Mv.isMem (m : Mv) : Bool := 1 ≤ m.op && m.op ≤ 4

/-- The offset of the post-modification (R216). -/
def mvOff (r : CoreRegs) (m : Mv) : Int :=
  match m.am with
  | 1 => (r.mr (m.mod / 4)).toInt
  | 2 => (BitVec.ofNat 5 m.mod).toInt
  | _ => 0

/-- The smallest k with 2 ^ k at or above n, searched from k over fuel exponents. -/
def log2Up (n : Nat) : Nat → Nat → Nat
  | 0, k => k
  | f + 1, k => if n ≤ 2 ^ k then k else log2Up n f (k + 1)

/-- Pn after the post-modification (R216). -/
def postMod (p l : W16) (off : Int) : W16 :=
  if l = 0 then BitVec.ofInt 16 (p.toInt + off)
  else
    let k := log2Up l.toNat 16 0
    let b := p.toNat / 2 ^ k * 2 ^ k
    BitVec.ofInt 16 ((b : Int) + ((p.toNat : Int) - b + off) % (l.toNat : Int))

/-- The registers a move slot writes (R209). -/
def mvWrites (m : Mv) : List Nat :=
  let pm := if m.isMem && m.am != 0 then [regP m.pn] else if !m.isMem && m.op != 0 && m.inc then [regDP m.dp] else []
  let ld := match m.op with
    | 1 => [regD m.reg]
    | 3 => [if m.reg < 8 then regP m.reg else regM (m.reg - 8)]
    | 5 => [regD m.reg]
    | _ => []
  ld ++ pm

/-- The data registers a move slot reads. -/
def mvReadsD (m : Mv) : List Nat := if m.op = 2 ∨ m.op = 6 then [m.reg] else []

/-- A deck pointer after its post-increment (R177). -/
def dpNext (v : W32) : W32 :=
  let w := bf v 3 0
  let slot := bf v 29 16
  if w < 15 then setBf v 3 0 (w + 1) else setBf (setBf v 3 0 0) 29 16 ((slot + 1) % 16384)

/-- The registers after a move slot's post-modification or post-increment. -/
def mvPost (old r : CoreRegs) (m : Mv) : CoreRegs :=
  if m.isMem && m.am != 0 then { r with p := set_ r.p m.pn (postMod (old.pr m.pn) (old.lr m.pn) (mvOff old m)) }
  else if (m.op == 5 || m.op == 6) && m.inc then { r with dp := set_ r.dp m.dp (dpNext (old.dpr m.dp)) }
  else r

/-- What ST and STA store (R215). -/
def mvStored (r : CoreRegs) (m : Mv) : W32 :=
  if m.op = 2 then r.dr m.reg
  else if m.reg < 8 then (r.pr m.reg).setWidth 32 else (r.mr (m.reg - 8)).signExtend 32

/-- What LD and LDA load (R215). -/
def mvLoaded (r : CoreRegs) (m : Mv) (v : W32) : CoreRegs :=
  if m.op = 1 then { r with d := set_ r.d m.reg v }
  else if m.reg < 8 then { r with p := set_ r.p m.reg (v.setWidth 16) }
  else { r with m := set_ r.m (m.reg - 8) (v.setWidth 16) }

end Sys2Proof.Machine
end

