-- ==== Sys2Proof/Machine/Isa.lean ====
section
/-! DEFINITION. Machine/Isa.lean: the words of a signal core: legality, the compute slot, a whole bundle, and the
control words (R206 to R233). -/

namespace Sys2Proof.Machine

/-! ## Compute slot (R219 to R226) -/

def cop (w : W64) : Nat := bf w 63 58

/-- A control word (R206). -/
def isControl (w : W64) : Bool := cop w == 0x3F

/-- The compute slot is a reserved code, holds a reserved field that is not 0, or a value out of range (R210). -/
def cmpIllegal (w : W64) : Bool :=
  let z := fun h l => bf w h l != 0
  let sh := bf w 51 45
  match cop w with
  | 0x00 => z 57 34
  | 0x01 => z 47 40 || z 37 34
  | 0x02 => z 37 34
  | 0x03 => 63 < sh || z 44 34
  | 0x04 => 63 < sh || z 44 34
  | 0x05 => 48 < sh || z 44 34
  | 0x06 => z 55 52 || z 44 34
  | 0x07 => z 55 45 || z 44 34
  | 0x0F => z 57 54 || z 45 34
  | 0x15 => z 49 34
  | 0x16 => z 49 34
  | 0x18 => false
  | 0x19 => z 57 54
  | 0x1A => z 43 34
  | 0x1B => z 43 34
  | 0x1C => z 43 34
  | 0x1D => z 43 34 || bf w 49 44 == 0 || 31 < bf w 49 44
  | 0x1E => false
  | 0x1F => z 53 50
  | 0x20 => z 36 34
  | 0x21 => z 36 34
  | 0x22 => z 45 34 || !codeWritable (bf w 57 52) || 0x3C ≤ bf w 51 46
  | 0x23 =>
    let rd := bf w 57 52
    z 35 34 || !((0x10 ≤ rd && rd ≤ 0x27) || rd == 0x2C || rd == 0x2D)
  | 0x24 => z 36 34
  | c => if 0x08 ≤ c ∧ c ≤ 0x14 then z 45 34 else true

/-- The registers the compute slot writes (R209). -/
def cmpWrites (w : W64) : List Nat :=
  let a := bf w 57 56
  match cop w with
  | 0x00 => []
  | 0x01 => [regA a]
  | 0x02 => [regA a, regA (a ^^^ 1)]
  | 0x03 => [regD (bf w 55 52)]
  | 0x04 => [regD (bf w 55 52)]
  | 0x05 => [regA a]
  | 0x06 => [regA a]
  | 0x07 => [regA a]
  | 0x0F => []
  | 0x19 => []
  | 0x20 => [regD (bf w 57 54), regIX (bf w 49 49)]
  | 0x21 => [regD (bf w 57 54), regIX (bf w 49 49)]
  | 0x22 => [codeReg (bf w 57 52)]
  | 0x23 => [bf w 57 52]
  | 0x24 => [regDP (bf w 57 56)]
  | _ => [regD (bf w 57 54)]

/-- The data registers the compute slot reads. -/
def cmpReadsD (w : W64) : List Nat :=
  match cop w with
  | 0x01 => [bf w 55 52, bf w 51 48]
  | 0x02 => [bf w 55 52, bf w 51 48, bf w 47 44, bf w 43 40]
  | 0x05 => [bf w 55 52]
  | 0x15 => [bf w 53 50]
  | 0x16 => [bf w 53 50]
  | 0x18 => [bf w 53 50]
  | 0x19 => [bf w 53 50]
  | 0x1A => [bf w 53 50]
  | 0x1B => [bf w 53 50]
  | 0x1C => [bf w 53 50]
  | 0x1D => [bf w 53 50]
  | 0x1F => [bf w 57 54]
  | 0x20 => [bf w 53 50, bf w 57 54]
  | 0x21 => [bf w 53 50, bf w 57 54]
  | 0x22 => if bf w 51 46 < 16 then [bf w 51 46] else []
  | c => if 0x08 ≤ c ∧ c ≤ 0x14 then [bf w 53 50, bf w 49 46] else []

/-- A multiply-accumulate into Aa (R221). -/
def macInto (old r : CoreRegs) (a s1 s2 : Nat) (z n : Bool) : CoreRegs :=
  let p := (old.dr s1).toInt * (old.dr s2).toInt
  let x := (if z then 0 else (old.ar a).toInt) + (if n then -p else p)
  let y := satS 80 x
  { r with a := set_ r.a a (BitVec.ofInt 80 y), sv := r.sv || y != x }

/-- A data register written with an ALU result and its flags. -/
def putAlu (r : CoreRegs) (d : Nat) (x : Alu) : CoreRegs := { r.setFlg x.2 with d := set_ r.d d x.1 }

/-- A running extreme (R225). -/
def extreme (r : CoreRegs) (w : W64) (isMax : Bool) : CoreRegs :=
  let d := bf w 57 54
  let x := r.dr (bf w 53 50)
  let mag := bf w 48 48 == 1
  let u := bf w 47 45
  let k := bf w 44 37
  let v := if mag then satS 32 (x.toInt.natAbs : Int) else x.toInt
  let pos := if u = 7 then k else ((r.lidx <<< u) + k) % 65536
  let upd := if isMax then decide ((r.dr d).toInt < v) else decide (v < (r.dr d).toInt)
  let r1 := if upd then { r with d := set_ r.d d (BitVec.ofInt 32 v), ix := set_ r.ix (bf w 49 49) (BitVec.ofNat 16 pos) }
    else r
  { r1 with c := upd, sv := r1.sv || (mag && x == 0x80000000) }

/-- The compute slot on the registers (R221 to R226). -/
def cmpExec (r : CoreRegs) (w : W64) : CoreRegs :=
  let f := r.flg
  let a := bf w 57 56
  let d := bf w 57 54
  let x := r.dr (bf w 53 50)
  let y := r.dr (bf w 49 46)
  let imm : W32 := (BitVec.ofNat 16 (bf w 49 34)).signExtend 32
  let sh6 := bf w 49 44
  let z := bf w 39 39 == 1
  let n := bf w 38 38 == 1
  let sh := bf w 51 45
  let acc := (r.ar a).toInt
  match cop w with
  | 0x01 => macInto r r a (bf w 55 52) (bf w 51 48) z n
  | 0x02 => macInto r (macInto r r a (bf w 55 52) (bf w 51 48) z n) (a ^^^ 1) (bf w 47 44) (bf w 43 40) z n
  | 0x03 => putAlu r (bf w 55 52) (aluSat f 32 (if sh = 0 then acc else asrI (acc + 2 ^ (sh - 1)) sh))
  | 0x04 => putAlu r (bf w 55 52) (aluSat f 32 (asrI acc sh))
  | 0x05 => { r with a := set_ r.a a (((r.dr (bf w 55 52)).signExtend 80) <<< sh) }
  | 0x06 =>
    let k := (BitVec.ofNat 7 sh).toInt
    let v := if 0 ≤ k then acc * 2 ^ k.toNat else asrI acc (-k).toNat
    let s := satS 80 v
    { r with a := set_ r.a a (BitVec.ofInt 80 s), sv := r.sv || s != v }
  | 0x07 => { r with a := set_ r.a a 0 }
  | 0x08 => putAlu r d (aluAdd f x y)
  | 0x09 => putAlu r d (aluSub f x y)
  | 0x0A => putAlu r d (aluSat f 32 (x.toInt + y.toInt))
  | 0x0B => putAlu r d (aluSat f 32 (x.toInt - y.toInt))
  | 0x0C => putAlu r d (aluLogic f (x &&& y))
  | 0x0D => putAlu r d (aluLogic f (x ||| y))
  | 0x0E => putAlu r d (aluLogic f (x ^^^ y))
  | 0x0F => r.setFlg (aluSub f x y).2
  | 0x10 => putAlu r d (aluPick f (if x.toInt ≤ y.toInt then x else y))
  | 0x11 => putAlu r d (aluPick f (if x.toInt ≤ y.toInt then y else x))
  | 0x12 => putAlu r d (aluAsr f x (bf y 5 0))
  | 0x13 => putAlu r d (aluLsr f x (bf y 5 0))
  | 0x14 => putAlu r d (aluLsl f x (bf y 5 0))
  | 0x15 => putAlu r d (aluSub f 0 x)
  | 0x16 => putAlu r d (aluSat f 32 (x.toInt.natAbs : Int))
  | 0x18 => putAlu r d (aluAdd f x imm)
  | 0x19 => r.setFlg (aluSub f x imm).2
  | 0x1A => putAlu r d (aluAsr f x sh6)
  | 0x1B => putAlu r d (aluLsr f x sh6)
  | 0x1C => putAlu r d (aluLsl f x sh6)
  | 0x1D => putAlu r d (aluSat f (sh6 + 1) x.toInt)
  | 0x1E => { r with d := set_ r.d d ((BitVec.ofNat 20 (bf w 53 34)).signExtend 32) }
  | 0x1F => { r with d := set_ r.d d (setBf (r.dr d) 31 16 (bf w 49 34)) }
  | 0x20 => extreme r w true
  | 0x21 => extreme r w false
  | 0x22 => writeCode r (bf w 57 52) ((readCode r (bf w 51 46)).getD 0)
  | 0x23 => writeCode r (bf w 57 52) (BitVec.ofNat 32 (bf w 51 36))
  | 0x24 =>
    { r with dp := set_ r.dp (bf w 57 56) (at32 (bf w 55 55) 31 ||| at32 (bf w 54 41) 16 ||| at32 (bf w 40 37) 0) }
  | _ => r

/-! ## Bundles -/

/-- The X slot and the Y slot of a bundle (R206). -/
def xSlot (w : W64) : Mv := mvOf w 17
def ySlot (w : W64) : Mv := mvOf w 0

/-- Two lists of registers meet. -/
def meets (a b : List Nat) : Bool := a.any (b.contains ·)

/-- A bundle is illegal (R209, R210). -/
def bundleIllegal (w : W64) (addr plen : Nat) : Bool :=
  let x := xSlot w
  let y := ySlot w
  let lda := fun (m : Mv) => m.op == 3 && m.am != 0 && m.reg == m.pn
  plen ≤ addr || cmpIllegal w || x.illegal || y.illegal || lda x || lda y
    || meets (cmpWrites w) (mvWrites x) || meets (cmpWrites w) (mvWrites y) || meets (mvWrites x) (mvWrites y)

/-- The data registers a bundle reads or writes: it waits for a deck read outstanding into one of them (R175). -/
def bundleD (w : W64) : List Nat :=
  (cmpReadsD w ++ mvReadsD (xSlot w) ++ mvReadsD (ySlot w)
    ++ (cmpWrites w ++ mvWrites (xSlot w) ++ mvWrites (ySlot w)).filter (· < 16))

/-! ## Latencies (R175, R213) -/

/-- The key of a register's use in address generation. -/
def forAddr (r : Nat) : Nat := 128 + r

/-- The registers that a move slot uses: in address generation, and as data. -/
def mvUses (m : Mv) : List Nat :=
  if m.isMem then
    [forAddr (regP m.pn)] ++ (if m.am = 1 then [forAddr (regM (m.mod / 4))] else [])
      ++ (if m.am = 0 then [] else [forAddr (regL m.pn)])
      ++ (if m.op = 2 then [regD m.reg] else if m.op = 4 then [if m.reg < 8 then regP m.reg else regM (m.reg - 8)] else [])
  else if m.op = 0 then []
  else [forAddr (regDP m.dp)] ++ mvReadsD m

/-- The registers that the compute slot uses, but for the accumulator that a MAC accumulates into. -/
def cmpUses (w : W64) : List Nat :=
  cmpReadsD w ++ (match cop w with
    | 0x03 => [regA (bf w 57 56)]
    | 0x04 => [regA (bf w 57 56)]
    | 0x06 => [regA (bf w 57 56)]
    | 0x22 => [codeReg (bf w 51 46)]
    | _ => [])

/-- What a bundle needs before it issues. -/
def bundleUses (w : W64) : List Nat := cmpUses w ++ mvUses (xSlot w) ++ mvUses (ySlot w)

/-- A result that the compute slot leaves in a register: what its uses wait for, and how many cycles. -/
def cmpMakes (w : W64) : List (Nat × Nat) :=
  let mac := cop w == 0x01 || cop w == 0x02
  (cmpWrites w).flatMap (fun r =>
    if mac then [(r, 3)]
    else if regP 0 ≤ r ∧ r < regIX 0 then [(r, 1), (forAddr r, 3)]
    else [(r, 1)]) ++ (if mac then [(0x2E, 3)] else [])

/-- The results of a move slot. -/
def mvMakes (m : Mv) : List (Nat × Nat) :=
  (mvWrites m).flatMap (fun r =>
    if m.op = 1 then (if r < 16 then [(r, 2)] else [(r, 1), (forAddr r, 1)])
    else if m.op = 3 then
      (if r = (if m.reg < 8 then regP m.reg else regM (m.reg - 8)) then [(r, 2), (forAddr r, 3)] else [(r, 1), (forAddr r, 1)])
    else [(r, 1), (forAddr r, 1)])

/-- The results of a bundle. -/
def bundleMakes (w : W64) : List (Nat × Nat) := cmpMakes w ++ mvMakes (xSlot w) ++ mvMakes (ySlot w)

/-- The cycles from which results can be used, after a bundle issues at a cycle: a MAC's SV and the other parts of an accumulator
stand beside what MOVR writes; every other new result replaces the old one. -/
def readyAfter (ready : SMap Nat) (w : W64) (cycle : Nat) : SMap Nat :=
  let part := cop w == 0x22 && 0x30 ≤ bf w 57 52
  let put := fun (m : SMap Nat) (e : Nat × Nat) =>
    if e.2 = 1 then (if part && regA 0 ≤ e.1 && e.1 ≤ regA 3 then m else del m e.1) else ins m e.1 (cycle + e.2)
  ((bundleMakes w).foldl put ready).filter (fun e => cycle + 1 < e.2)

/-- Every result that is needed can be used at a cycle. -/
def allReady (ready : SMap Nat) (uses : List Nat) (cycle : Nat) : Bool := uses.all (fun r => lookD ready 0 r ≤ cycle)

/-- What a control word needs: the count of a LOOP, the SV flag of a condition. -/
def ctlUses (w : W64) : List Nat :=
  if bf w 57 52 = 3 then (if bf w 51 51 = 1 then [bf w 50 47] else [])
  else if bf w 57 52 ≤ 2 ∧ (bf w 51 48 = 13 ∨ bf w 51 48 = 14) then [0x2E] else []

/-- What an address of a data memory is (R168, R169). -/
inductive Place
  | mem (a : Nat)
  | page (a : Nat)
  | outside
  deriving DecidableEq, Repr

/-- The place an effective address reaches in X (y false) or Y (R169). -/
def placeOf (y : Bool) (pglen : Nat) (ea : Nat) : Place :=
  if ea < 0x8000 then .mem ea
  else if !y && ea < 0x8000 + pglen then .page (ea - 0x8000)
  else .outside

/-- What a bundle does when it issues: a fault before completion (cause and CODE, R195), the registers after it, its
stores to X and Y memory, whether a store to the page window was dropped, the places it loaded from, and its deck reads and
writes in issue order. -/
structure Issue where
  fault : Option (Nat × Nat)
  regs : CoreRegs
  stores : List (Bool × Nat × W32)
  pgw : Bool
  loads : List (Bool × Place)
  reads : List (Nat × W32)
  writes : List (W32 × W32)
  deriving DecidableEq, Repr

/-- The active copy of the page. -/
def Mems.active (m : Mems) : SMap W32 := if m.psel then m.page1 else m.page0
def Mems.inactive (m : Mems) : SMap W32 := if m.psel then m.page0 else m.page1

/-- The word at a place. -/
def Mems.load (m : Mems) (y : Bool) : Place → W32
  | .mem a => lookD (if y then m.y else m.x) 0 a
  | .page a => lookD m.active 0 a
  | .outside => 0

/-- One move slot on what the bundle has done so far; it reads registers as earlier bundles left them (R208). -/
def moveStep (old : CoreRegs) (mems : Mems) (pglen : Nat) (y : Bool) (m : Mv) (i : Issue) : Issue :=
  if m.op = 0 then i
  else if m.isMem then
    let p := placeOf y pglen (old.pr m.pn).toNat
    let regs := mvPost old i.regs m
    if p = .outside then { i with fault := i.fault <|> some (7, if y then 2 else 1) }
    else if m.op = 1 ∨ m.op = 3 then
      { i with regs := mvLoaded regs m (mems.load y p), loads := i.loads ++ [(y, p)] }
    else
      match p with
      | .mem a => { i with regs := regs, stores := i.stores ++ [(y, a, mvStored old m)] }
      | _ => { i with regs := regs, pgw := true }
  else
    let regs := mvPost old i.regs m
    let dp := old.dpr m.dp
    if m.op = 5 then { i with regs := regs, reads := i.reads ++ [(m.reg, dp)] }
    else { i with regs := regs, writes := i.writes ++ [(dp, old.dr m.reg)] }

/-- The loop test after a non-control word at address a (R230): the loop stack and the next address. -/
def loopEnd (a : Nat) : List LoopRec → List LoopRec × Nat
  | [] => ([], a + 1)
  | e :: r =>
    if a = e.last then
      if e.left - 1 ≠ 0 then ({ e with left := e.left - 1, idx := e.idx + 1 } :: r, e.first)
      else loopEnd a r
    else (e :: r, a + 1)

/-- A bundle issues at its address (R206 to R218, R230). -/
def issueBundle (r : CoreRegs) (mems : Mems) (plen pglen : Nat) (w : W64) : Issue :=
  let i0 : Issue := ⟨none, r, [], false, [], [], []⟩
  if bundleIllegal w r.pc plen then { i0 with fault := some (6, 0) }
  else
    let i1 := { i0 with regs := cmpExec r w }
    let i2 := moveStep r mems pglen false (xSlot w) i1
    let i3 := moveStep r mems pglen true (ySlot w) i2
    let l := loopEnd r.pc r.loops
    { i3 with regs := { i3.regs with loops := l.1, pc := l.2 } }

/-! ## Control words (R227 to R233) -/

def ctlOp (w : W64) : Nat := bf w 57 52
def ctlTarget (w : W64) : Nat := bf w 12 0

/-- A control word is a reserved code or holds a reserved field that is not 0 (R210, R227, R228). -/
def ctlIllegal (w : W64) : Bool :=
  let z := fun h l => bf w h l != 0
  match ctlOp w with
  | 0 => bf w 51 48 == 15 || z 46 13
  | 1 => bf w 51 48 == 15 || z 47 13
  | 2 => bf w 51 48 == 15 || z 47 0
  | 3 => z 30 13 || (if bf w 51 51 = 1 then z 46 31 else z 50 47)
  | 4 => z 51 0
  | 5 => z 47 0
  | 6 => z 51 8
  | _ => true

/-- A control word cannot issue where it stands: reserved, at or above PLEN, or at the end address of an active loop
(R210, R231). -/
def ctlBad (r : CoreRegs) (plen : Nat) (w : W64) : Bool :=
  plen ≤ r.pc || ctlIllegal w || r.loops.any (fun e => e.last == r.pc)

/-- What a branch, CALL, RET or LOOP does: a fault, or the registers after it and whether it took its branch (R229,
R230). -/
inductive Flow
  | fault (cause code : Nat)
  | go (r : CoreRegs) (taken : Bool)
  deriving DecidableEq, Repr

/-- The condition of a control word holds. -/
def ctlCond (r : CoreRegs) (w : W64) : Bool := (condTrue r.flg (bf w 51 48)).getD false

/-- BRA (R229). -/
def flowBra (r : CoreRegs) (plen : Nat) (w : W64) : Flow :=
  if ctlBad r plen w then .fault 6 0
  else if !ctlCond r w then .go { r with pc := r.pc + 1 } false
  else if bf w 47 47 = 1 then
    match r.loops with
    | [] => .fault 8 0
    | _ :: l => .go { r with loops := l, pc := ctlTarget w } true
  else .go { r with pc := ctlTarget w } true

/-- CALL (R229). -/
def flowCall (r : CoreRegs) (plen : Nat) (w : W64) : Flow :=
  if ctlBad r plen w then .fault 6 0
  else if !ctlCond r w then .go { r with pc := r.pc + 1 } false
  else if 8 ≤ r.rets.length then .fault 8 1
  else .go { r with rets := ((r.pc + 1) % 8192) :: r.rets, pc := ctlTarget w } true

/-- RET (R229). -/
def flowRet (r : CoreRegs) (plen : Nat) (w : W64) : Flow :=
  if ctlBad r plen w then .fault 6 0
  else if !ctlCond r w then .go { r with pc := r.pc + 1 } false
  else match r.rets with
    | [] => .fault 8 1
    | a :: l => .go { r with rets := l, pc := a } true

/-- LOOP (R230, R231); the loop on top of the stack encloses it (log 163). -/
def flowLoop (r : CoreRegs) (plen : Nat) (w : W64) : Flow :=
  let e := ctlTarget w
  let beyond := match r.loops with
    | o :: _ => o.last < e
    | [] => false
  if ctlBad r plen w || e ≤ r.pc || plen ≤ e || beyond then .fault 6 0
  else
    let n := if bf w 51 51 = 1 then bf (r.dr (bf w 50 47)) 15 0 else bf w 46 31
    if n = 0 then .go { r with pc := e + 1 } true
    else if 4 ≤ r.loops.length then .fault 8 0
    else .go { r with loops := { first := r.pc + 1, last := e, left := n, idx := 0 } :: r.loops, pc := r.pc + 1 } false

end Sys2Proof.Machine
end

