-- ==== Sys2Proof/Machine/Cores.lean ====
section
/-! DEFINITION. Machine/Cores.lean: berths and tasks as the rest of the block sees them: memories and parameter pages,
stores with their mirror and journal, shadows, posted deck writes, and the limits of a task (R165 to R192, R237 to R240,
R249, R255, R261). -/

namespace Sys2Proof.Machine

/-! ## Access -/

def State.core (s : State) (c : Nat) : Core := at_ s.cores (emptyCore .off) c
def State.setCore (s : State) (c : Nat) (k : Core) : State := { s with cores := set_ s.cores c k }
def State.modCore (s : State) (c : Nat) (f : Core → Core) : State := s.setCore c (f (s.core c))

def State.task (s : State) (t : Nat) : TaskRec := at_ s.ferry.tasks (homeTask t) t
def State.setTask (s : State) (t : Nat) (r : TaskRec) : State :=
  { s with ferry := { s.ferry with tasks := set_ s.ferry.tasks t r } }
def State.modTask (s : State) (t : Nat) (f : TaskRec → TaskRec) : State := s.setTask t (f (s.task t))

/-- The numbers of berths and of tasks. -/
def all32 : List Nat := List.range 32

/-- The code of a berth state (R166). -/
def Berth.code : Berth → Nat
  | .off => 0 | .idle => 1 | .loading => 2 | .armed => 3 | .active => 4 | .standby => 5 | .testing => 6
  | .retired => 7 | .halted => 8

/-- A berth is designated a spare (R235). -/
def State.designated (s : State) (c : Nat) : Bool := (s.reg F.SC_SPARE).getLsbD c

/-- The SYS_READY bit of a berth (SIGA for 0 to 15, SIGB for 16 to 31). -/
def sigReady (c : Nat) : Fld := if c < 16 then F.SYS_READY_SIGA else F.SYS_READY_SIGB

/-- A berth is the home of an away task, for which it is reserved (R251). -/
def State.reserved (s : State) (c : Nat) : Bool := (s.task c).berth != c

/-- A berth that a ferry in progress or a planned move is bringing a task to. -/
def State.incoming (s : State) (c : Nat) : Bool :=
  (match s.ferry.cur with
    | some j => (s.task j.task).shBerth == c && (s.task j.task).sh == .ready
    | none => false)
  || all32.any (fun t => match (s.task t).move with
    | some m => m.dst == c && m.handed.isNone
    | none => false)

/-- A completed SPARE SET will release a berth at the next stage edge, or designate it (R236). -/
def State.spareLeaves (s : State) (c : Nat) : Bool := s.ferry.spareSet.any (fun m => !m.getLsbD c) && s.designated c
def State.spareJoins (s : State) (c : Nat) : Bool := s.ferry.spareSet.any (fun m => m.getLsbD c) && !s.designated c

/-- An available spare (R235): designated, STANDBY, not about to receive a task, not being filled. -/
def State.available (s : State) (c : Nat) : Bool :=
  s.designated c && (s.core c).state == .standby && !s.incoming c && !s.ferry.fills.contains c

/-- SC_FSTAT.AVAIL. -/
def State.availCount (s : State) : Nat := (all32.filter s.available).length

/-- The watchdog limit in force (R184). -/
def wdLimit (rate wdlim : Nat) : Nat :=
  if wdlim = 0 ∨ frameCycles rate - 256 < wdlim then frameCycles rate - 256 else wdlim

/-! ## Parameter pages (R143 to R145, R191, R192) -/

def Mems.setActive (m : Mems) (p : SMap W32) : Mems := if m.psel then { m with page1 := p } else { m with page0 := p }
def Mems.setInactive (m : Mems) (p : SMap W32) : Mems := if m.psel then { m with page0 := p } else { m with page1 := p }

/-- Words from index i on, written into a copy. -/
def pageIns (p : SMap W32) (i : Nat) : List W32 → SMap W32
  | [] => p
  | w :: r => pageIns (insD p 0 i w) (i + 1) r

/-- A direct TPARAM: the active copy, and the inactive one where no mark stands (R145). -/
def Mems.direct (m : Mems) (i : Nat) : List W32 → Mems
  | [] => m
  | w :: r =>
    let a := m.setActive (insD m.active 0 i w)
    let b := if m.marks.contains i then a else a.setInactive (insD a.inactive 0 i w)
    b.direct (i + 1) r

/-- A staged TPARAM: the inactive copy, with a mark on each word and the group (R141, R143). -/
def Mems.stage (m : Mems) (g i : Nat) (ws : List W32) : Mems :=
  { m.setInactive (pageIns m.inactive i ws) with
    marks := uniq (m.marks ++ (List.range ws.length).map (· + i)), group := g }

/-- The flip of a page, and the refresh of the former active copy (R144). -/
def Mems.flip (m : Mems) : Mems :=
  let n := { m with psel := !m.psel, marks := [] }
  n.setInactive n.active

/-- The pending words dropped, and the inactive copy refreshed (R152). -/
def Mems.dropPage (m : Mems) : Mems := { m with marks := [] }.setInactive m.active

/-- A page holds pending words of a group. -/
def Mems.pendingIn (m : Mems) (p : Nat → Bool) : Bool := !m.marks.isEmpty && p m.group

/-- The address of a berth's window. -/
def windowAddr (c : Nat) : Nat := 0x70000000 + c * 0x100000

/-- A change of the pages of a berth that stores words: those of its window at each offset, so many bytes (R493). -/
def State.putPages (s : State) (f : Mems → Mems) (l : List (Nat × Nat)) (c : Nat) : State :=
  (s.modCore c (fun k => { k with mems := f k.mems })).wroteAll (l.map (fun e => (windowAddr c + e.1, e.2)))

/-- A ferry has copied a task into its shadow berth, where it has yet to resume (R245, R246). -/
def State.ferryCopied (s : State) (t : Nat) : Bool := s.ferry.cur.any (fun j => j.task == t && j.copied)

/-- The berths that hold the pages of a task: its own, the one that a ferry has copied it into or a mirror runs into, and its
follower's (R245, R253, R260). -/
def State.pageBerths (s : State) (t : Nat) : List Nat :=
  let r := s.task t
  r.berth :: (if s.ferryCopied t then [r.shBerth] else [])
    ++ (match r.move with
      | some m => if m.handed.isNone then [m.dst] else []
      | none => [])
    ++ (match r.partner with
      | some p => if r.solo then [] else [p]
      | none => [])

/-- A change of the pages of a task, which stores words of each window that holds them. -/
def State.onPages (s : State) (t : Nat) (f : Mems → Mems) (l : List (Nat × Nat)) : State :=
  (s.pageBerths t).foldl (fun u c => u.putPages f l c) s

/-- The errors of a page's two copies after a flip: they stay with the copies, and the former active one has been rewritten. -/
def State.flipErrors (s : State) (c : Nat) : State :=
  let a := windowAddr c + 0xC0000
  let moved := (sub s.marks (a + 0x1000) 0x1000).map (fun (e : Nat × Mark) => (e.1 - 0x1000, e.2))
  let t := s.clearMarks a 0x2000
  { t with marks := moved.foldl (fun (m : SMap Mark) (e : Nat × Mark) => ins m e.1 e.2) t.marks }.wrote (a + 0x1000) 0x1000

/-- The page of a berth flips (R144), or its pending words are dropped (R152). -/
def State.flipBerth (s : State) (c : Nat) : State := (s.putPages Mems.flip [] c).flipErrors c
def State.dropBerth (s : State) (c : Nat) : State := s.putPages Mems.dropPage [(0xC1000, 0x1000)] c

/-- The page that counts for a task: of the berth that holds it, or of the one that a ferry has copied it into (R152, R158). -/
def State.taskPages (s : State) (t : Nat) : Mems :=
  (s.core (if s.ferryCopied t then (s.task t).shBerth else (s.task t).berth)).mems

/-- A task whose berth holds it ACTIVE or ARMED. -/
def State.taskLive (s : State) (t : Nat) : Bool :=
  let k := s.core (s.task t).berth
  (k.state == .active || k.state == .armed) && k.task == t

/-- A task whose berth holds it ACTIVE. -/
def State.taskRuns (s : State) (t : Nat) : Bool :=
  let k := s.core (s.task t).berth
  k.state == .active && k.task == t

/-- A fault ferry of a task is in progress or queued (R242). -/
def State.ferrying (s : State) (t : Nat) : Bool :=
  (match s.ferry.cur with
    | some j => j.task == t
    | none => false) || s.ferry.queue.any (fun j => j.task == t)

/-- A task is paired, with completed OFFs counted. -/
def State.paired (s : State) (t : Nat) : Bool := (s.task t).partner.isSome && !s.ferry.unpair.contains t

/-! ## Shadows (R237 to R240) -/

/-- An address lies in a state region of base b and n units of 16 words (R186). -/
def inRegion (b n a : Nat) : Bool := b ≤ a && a < b + 16 * n

/-- The extents [start, length] that shadows take in a spare, in X (y false) or Y. -/
def State.extents (s : State) (spare : Nat) (y : Bool) : List (Nat × Nat) :=
  (all32.filter (fun t => (s.task t).shBerth == spare
      && ((s.task t).sh == .filling || (s.task t).sh == .ready || (s.task t).sh == .stale))).map (fun t =>
    let im := (s.core (s.task t).berth).image
    if y then ((s.task t).yAt, 16 * im.yslen) else ((s.task t).xAt, 16 * im.xslen))

/-- The lowest place at which an extent of n words fits beside others in a memory of 32,768 words. -/
def firstFit (used : List (Nat × Nat)) (n : Nat) : Option Nat :=
  let starts := 0 :: used.map (fun e => e.1 + e.2)
  let ok := starts.filter (fun a => a + n ≤ 32768 && used.all (fun e => a + n ≤ e.1 || e.1 + e.2 ≤ a))
  ok.foldl (fun b a => match b with
    | none => some a
    | some x => some (min x a)) none

/-- A shadow berth assigned to a protected task, or NOROOM (R237). -/
def State.assignShadow (s : State) (t : Nat) : State :=
  let r := s.task t
  let k := s.core r.berth
  if !(k.state == .active && k.task == t && k.image.prot) then s.setTask t { r with sh := .none }
  else if r.sh == .filling || r.sh == .ready || r.sh == .stale then s
  else
    let fit := (all32.filter s.available).findSome? (fun b =>
      match firstFit (s.extents b false) (16 * k.image.xslen), firstFit (s.extents b true) (16 * k.image.yslen) with
      | some x, some y => some (b, x, y)
      | _, _ => none)
    match fit with
    | none => s.setTask t { r with sh := .noroom }
    | some (b, x, y) =>
      s.setTask t { r with sh := .filling, shBerth := b, xAt := x, yAt := y, shX := [], shY := [], journal := [],
                           applying := [], ctx := none, fillOn := false, filled := false, toReady := false }

/-- Every protected task without a shadow berth tried again (R237). -/
def State.assignAll (s : State) : State :=
  all32.foldl (fun s t => if (s.task t).sh == .noroom || (s.task t).sh == .none then s.assignShadow t else s) s

/-- A shadow berth that is no longer available: its tasks, but one, are assigned again (R237). -/
def State.loseSpare (s : State) (b keep : Nat) : State :=
  all32.foldl (fun s t =>
    let r := s.task t
    if r.shBerth == b && t != keep && (r.sh == .filling || r.sh == .ready || r.sh == .stale) then
      (s.setTask t { r with sh := .noroom, ctx := none }).assignShadow t
    else s) s

/-- The journal entries that a spare's program memory holds (R239). -/
def State.journalUse (s : State) (b : Nat) : Nat :=
  all32.foldl (fun n t =>
    let r := s.task t
    if r.shBerth == b && (r.sh == .filling || r.sh == .ready || r.sh == .stale)
    then n + r.journal.length + r.applying.length else n) 0

/-- Entries applied to a shadow in store order. -/
def applyEntries (r : TaskRec) : List JEnt → TaskRec
  | [] => r
  | e :: l =>
    applyEntries (if e.y then { r with shY := insD r.shY 0 e.addr e.data } else { r with shX := insD r.shX 0 e.addr e.data }) l

/-- The journal of a completed frame has been applied (R239, R240). -/
def TaskRec.applied (r : TaskRec) : TaskRec :=
  let a := { applyEntries r r.applying with applying := [] }
  if r.toReady then { a with sh := .ready, toReady := false } else a

/-- What a FRAME issue does to the shadow: the context is captured and the frame's entries go to be applied; a fill that
has not ended starts again (R239, R240). -/
def TaskRec.frameIssue (r : TaskRec) (ctx : CoreRegs) : TaskRec :=
  match r.sh with
  | .ready =>
    let a := { r with ctx := some ctx, applying := r.applying ++ r.journal, journal := [] }
    if a.applying.isEmpty then a.applied else a
  | .filling =>
    if r.filled then
      let a := { r with ctx := some ctx, applying := r.applying ++ r.journal, journal := [], toReady := true }
      if a.applying.isEmpty then a.applied else a
    else { r with fillOn := true, journal := [], applying := [] }
  | .stale => { r with sh := .filling, fillOn := true, filled := false, journal := [], applying := [], ctx := none }
  | _ => r

/-- A store of a task recorded in the journal of its shadow (R239, R240). -/
def State.journalStore (s : State) (t : Nat) (y : Bool) (a : Nat) (v : W32) : State :=
  let r := s.task t
  let im := (s.core r.berth).image
  let mine := if y then inRegion im.ysbase im.yslen a else inRegion im.xsbase im.xslen a
  if !mine then s
  else if r.sh == .ready || (r.sh == .filling && r.fillOn) then
    if s.journalUse r.shBerth < 8192 then s.setTask t { r with journal := r.journal ++ [{ y := y, addr := a, data := v }] }
    else s.setTask t { r with sh := .stale, ctx := none, applying := [], toReady := false }
  else s

/-! ## Stores (R215, R239, R253) -/

def Mems.store (m : Mems) (y : Bool) (a : Nat) (v : W32) : Mems :=
  if y then { m with y := insD m.y 0 a v } else { m with x := insD m.x 0 a v }

/-- The address of a program word and of a data word of a berth in its host window (R168). -/
def progAddr (c pc : Nat) : Nat := 0x70000000 + c * 0x100000 + 8 * pc
def dataAddr (c : Nat) (y : Bool) : Place → Nat
  | .mem a => 0x70000000 + c * 0x100000 + (if y then 0x80000 else 0x40000) + 4 * a
  | .page a => 0x70000000 + c * 0x100000 + 0xC0000 + 4 * a
  | .outside => 0x70000000 + c * 0x100000 + 0xF0000

/-- A mirrored store reaches the incoming berth: every one but for an update, which mirrors the state regions only (R253,
R258). -/
def moveTakes (mv : Move) (im : Image) (y : Bool) (a : Nat) : Bool :=
  mv.handed.isNone && (mv.kind != .update
    || (if y then inRegion im.ysbase im.yslen a else inRegion im.xsbase im.xslen a))

/-- A store of the core in berth c. -/
def State.coreStore (s : State) (c : Nat) (y : Bool) (a : Nat) (v : W32) : State :=
  let k := s.core c
  let s1 := (s.setCore c { k with mems := k.mems.store y a v }).wrote (dataAddr c y (.mem a)) 4
  let r := s1.task k.task
  let s2 := match r.move with
    | some mv =>
      if mv.src == c && moveTakes mv k.image y a then
        (s1.modCore mv.dst (fun d => { d with mems := d.mems.store y a v })).wrote (dataAddr mv.dst y (.mem a)) 4
      else s1
    | none => s1
  if r.berth == c then s2.journalStore k.task y a v else s2

/-! ## Deck writes of a core (R177 to R180, R249, R255) -/

/-- A slot lies in the ranges of a task (R179). -/
def inRanges (l : List (Nat × Nat)) (slot : Nat) : Bool := l.any (fun r => r.1 ≤ slot && slot < r.1 + r.2)

def State.dkerr (s : State) (c : Nat) : State := (s.setFld (F.SCc_STAT_DKERR c) 1).kerr

/-- The berth whose core runs in step with the one in berth c, as its follower. -/
def State.followerOf (s : State) (c : Nat) : Option Nat :=
  let k := s.core c
  let r := s.task k.task
  if r.berth == c && !r.solo && k.state == .active then r.partner else none

/-- The core in berth c is the follower of a pair. -/
def State.isFollower (s : State) (c : Nat) : Bool :=
  let r := s.task (s.core c).task
  (s.core c).state == .active && r.partner == some c && !r.solo && r.berth != c

/-- A posted write of the core in berth c reaches the deck: checked by R178 and R179, merged in a resume frame (R249), and
kept or dropped while two cores write (R255). The follower of a pair counts as its writer too (R199, R260). -/
def State.storeWrite (s : State) (c : Nat) (w : DeckWr) (cycle : Nat) : State :=
  let k := s.core c
  let slot := bf w.ptr 29 16
  let pos := bf w.ptr 3 0
  let lag := bit w.ptr 31
  let r := s.task k.task
  if !inRanges k.ranges slot then s.dkerr c
  else if s.bankShut 7 then s.pdErr 7
  else if !s.deckWritable slot w.frame lag then (if w.frame = s.tt.frame then s.kerr else s.dkerr c)
  else
    let key := deckKey slot w.frame pos
    let put := fun (s : State) =>
      let v := if k.merge.contains slot then
          let p := (s.deckGet slot (w.frame + 1) pos).toInt
          BitVec.ofInt 32 (asrI (p * (15 - pos) + w.data.toInt * (pos + 1)) 4)
        else w.data
      let wrote := fun (t : State) (x : Nat) => t.modCore x (fun k => { k with wset := uniq (k.wset ++ [slot]) })
      (s.followerOf c).toList.foldl wrote (wrote (s.deckPut slot w.frame pos v) c)
    match r.move with
    | some mv =>
      if mv.handed.isNone || mv.kind == .join then put s
      else if mv.dst == c then
        let f := match mv.firstWrite with
          | some x => some x
          | none => some cycle
        (put s).modTask k.task (fun r => { r with move := some { mv with firstWrite := f, wrote := key :: mv.wrote } })
      else if mv.src == c && mv.wrote.contains key then s
      else put s
    | none => put s

/-- The word that a deck read of the core in berth c delivers, of the frame it was issued in (R29, R178, R179). -/
def State.deckFetch (s : State) (c : Nat) (r : DeckRd) : State × W32 :=
  let k := s.core c
  let slot := bf r.ptr 29 16
  let pos := bf r.ptr 3 0
  let lag := bit r.ptr 31
  if !inRanges k.ranges slot then (s.dkerr c, 0)
  else if s.bankShut 7 then (s.pdErr 7, 0)
  else
    let f := if lag then r.frame + 1 else r.frame
    let t := s.deckScanOne (deckKey slot f pos) (some 5)
    let x := t.deckRead slot r.frame pos lag
    (if x.2 then t.kerr else t, x.1)

/-- A deck write and a deck read name one word of one frame's buffer (R218). -/
def DeckWr.meets (w : DeckWr) (ptr : W32) (frame : Nat) : Bool := dpMask w.ptr == dpMask ptr && w.frame == frame

/-- The outstanding deck reads of a core that stand before its oldest write and read the word it writes: they take their words
before it is stored (R218). -/
def State.readsFirst (s : State) (c : Nat) (w : DeckWr) : State :=
  (List.range (s.core c).reads.length).foldl (fun t i =>
    match (t.core c).reads[i]? with
    | some r =>
      if r.after = 0 && r.got.isNone && w.meets r.ptr r.frame then
        let f := t.deckFetch c r
        f.1.modCore c (fun k => { k with reads := k.reads.set i { r with got := some f.2 } })
      else t
    | none => t) s

/-- A berth goes to TESTING (R250). -/
def State.toTesting (s : State) (c : Nat) : State :=
  (s.modCore c (fun k => { k with state := .testing, reads := [], wait := none })).setFld (F.SCc_TEST_STEP c) 1

/-- The oldest posted write taken off the queue of a core. -/
def Core.popWrite (k : Core) : Core :=
  { k with writes := k.writes.tail, reads := k.reads.map (fun r => { r with after := r.after - 1 }) }

/-- A deck write of a leader compared with its follower's (R261): where they differ, the follower leaves. -/
def State.pairCompare (s : State) (c : Nat) (w : DeckWr) : State :=
  match s.followerOf c with
  | none => s
  | some p =>
    match (s.core p).writes.head? with
    | none => s
    | some v =>
      let s1 := s.modCore p Core.popWrite
      if v.ptr == w.ptr && v.data == w.data then s1
      else
        let t := (s.core c).task
        (((s1.toTesting p).modCore p (fun k => { k with writes := [] })).modTask t (fun r => { r with solo := true })).faultNotice
          3 0 0 c t 0 0 3

/-- The oldest posted write of a core stored; a pair's writes are stored once, as the leader's. -/
def State.drainOne (s : State) (c cycle : Nat) : State :=
  match (s.core c).writes with
  | [] => s
  | w :: _ =>
    if s.isFollower c then s
    else (((s.readsFirst c w).modCore c Core.popWrite).pairCompare c w).storeWrite c w cycle

/-- Every posted write of a core stored, in issue order (R180). -/
def State.drain (s : State) (c cycle : Nat) : State :=
  (List.range (s.core c).writes.length).foldl (fun s _ => s.drainOne c cycle) s

/-! ## Resets and fills (R168, R205, R236) -/

/-- A berth's memories filled, in a state, without a task. -/
def State.emptyBerth (s : State) (c : Nat) (st : Berth) : State :=
  (s.setCore c (emptyCore st)).wrote (windowAddr c) 0x100000

/-- A fill of a berth begins; BERTH_FILL_DONE ends it and gives the berth its new state (R236, R256). A berth in IDLE or STANDBY
shows its old state until then, every other one LOADING (log 110). -/
def State.clearBerth (s : State) (c : Nat) : State :=
  let old := (s.core c).state
  let t := (s.emptyBerth c (if old == .idle || old == .standby then old else .loading)).modCore c (fun k => { k with task := c })
  { t with ferry := { t.ferry with fills := uniq (t.ferry.fills ++ [c]) } }

/-- What an emptied berth becomes: STANDBY if designated, IDLE otherwise (R250, R256). -/
def State.restState (s : State) (c : Nat) : Berth := if s.designated c then .standby else .idle

/-- The FERRY notice (R267). -/
def State.ferryNotice (s : State) (event reason task from_ to_ frame gap : Nat) : State :=
  s.notice nFERRY
    [at32 event 28 ||| at32 reason 24 ||| at32 task 16 ||| at32 from_ 8 ||| at32 to_ 0, lo32 frame,
     at32 (bf (hi32 frame) 27 0) 0, at32 gap 16 ||| at32 s.availCount 0]

end Sys2Proof.Machine
end

