-- ==== Sys2Proof/Machine/Matrix.lean ====
section
/-! DEFINITION. Machine/Matrix.lean: the crossing matrix: dimensions, entries, ramps, arithmetic, writes and the two
ways a stage passes (R70 to R93, R593). -/

namespace Sys2Proof.Machine

/-- CONSOLE mode (R70). -/
def State.console (s : State) : Bool := s.on F.XM_CFG_MODE
def State.nin (s : State) : Nat := s.fld F.XM_CFG_NIN
def State.nbus (s : State) : Nat := s.fld F.XM_CFG_NBUS
def State.nout (s : State) : Nat := s.fld F.XM_CFG_NOUT

/-- The sources and destinations of a stage under a word laid out as XM_CFG (R87). -/
def cfgSrc (w : W32) (stage2 : Bool) : Nat :=
  if stage2 then (if bit w 31 then bf w 19 11 else 0) else bf w 30 20
def cfgDst (w : W32) (stage2 : Bool) : Nat :=
  if stage2 then (if bit w 31 then bf w 10 1 else 0) else if bit w 31 then bf w 19 11 else bf w 10 1
def State.nsrc (s : State) (stage2 : Bool) : Nat := cfgSrc (s.reg F.XM_CFG) stage2
def State.ndst (s : State) (stage2 : Bool) : Nat := cfgDst (s.reg F.XM_CFG) stage2

/-- DUR of a stage (R87). -/
def xmDur (nsrc ndst : Nat) : Nat := if nsrc * ndst = 0 then 0 else nsrc * ndst / 2 + 8 * ndst + 512

/-- The key of a crosspoint entry: its byte offset in the bank / 16 (R73). -/
def xmKey (stage2 : Bool) (src dst : Nat) : Nat := if stage2 then 0x40000 + dst * 256 + src else dst * 1024 + src

/-- The stage, source and destination of a key (R73). -/
def xmCoord (console : Bool) (key : Nat) : Bool × Nat × Nat :=
  if console && 0x40000 ≤ key then (true, (key - 0x40000) % 256, (key - 0x40000) / 256)
  else (false, key % 1024, key / 1024)

/-- A crosspoint lies within the configured dimensions (R72). -/
def State.xmWithin (s : State) (key : Nat) : Bool :=
  let c := xmCoord s.console key
  c.2.1 < s.nsrc c.1 && c.2.2 < s.ndst c.1

def State.xmEntry (s : State) (key : Nat) : XmEntry := lookD s.xm.entries zeroEntry key
/-- The address of an entry. -/
def xmAddr (key : Nat) : Nat := 0x50000000 + 16 * key

/-- An entry as its words are stored. -/
def State.storeXm (s : State) (key : Nat) (e : XmEntry) : State :=
  { s with xm := { s.xm with entries := insD s.xm.entries zeroEntry key e } }

/-- The matrix writes an entry; in raw mode and in a march of its bank the access meets an error response (R492, R494). -/
def State.setXm (s : State) (key : Nat) (e : XmEntry) : State :=
  if s.rawBank 3 || s.marching 3 then s else (s.storeXm key e).wrote (xmAddr key) 16

/-- A bad entry rewritten as all zero, with EERR and the ECCERR notice (R103, R487). -/
def State.xmHeal (s : State) (key : Nat) : State :=
  let c := xmCoord s.console key
  let w := (s.badIn (xmAddr key) 16).getD (xmAddr key)
  let t := (s.setXm key zeroEntry).ueRecord w
  (t.setFld F.XM_STAT_EERR 1).eccNotice 3 0 3 w ((if c.1 then 2 ^ 31 else 0) + c.2.1 * 65536 + c.2.2)

/-- The matrix reads an entry outside a pass: single-bit errors are corrected, and a bad entry is rewritten as all zero (R103,
R486). -/
def State.xmTouch (s : State) (key : Nat) : State :=
  let t := s.fixSingles (xmAddr key) 16
  if t.bad (xmAddr key) 16 then t.xmHeal key else t

/-- The matrix reads an entry and writes it back changed; of a bad one the change meets the zero entry (log 148). -/
def State.xmEdit (s : State) (key : Nat) (f : XmEntry → XmEntry) : State :=
  let t := s.xmTouch key
  t.setXm key (f (t.xmEntry key))

/-- A gain write of target t and shift r (R76). -/
def xmWrite (e : XmEntry) (t : W24) (r : Nat) : XmEntry :=
  if r = 0 ∨ t = e.active then { e with active := t, target := t, run := false, cnt := 0, step := 0 }
  else
    let d := t.toInt - e.active.toInt
    { e with step := BitVec.ofInt 24 (d.tdiv (2 ^ r)), target := t, rsh := BitVec.ofNat 4 r,
             cnt := BitVec.ofNat 12 (2 ^ r - 1), run := true }

/-- The update of an entry before a sample (R77). -/
def xmTick (e : XmEntry) : XmEntry :=
  if e.run then
    if e.cnt = 0 then { e with active := e.target, run := false }
    else { e with active := e.active + e.step, cnt := e.cnt - 1 }
  else e

/-- n samples of an entry: the gains applied and the entry after them (R77). -/
def xmTicks : Nat → XmEntry → List W24 × XmEntry
  | 0, e => ([], e)
  | n + 1, e =>
    let e1 := xmTick e
    let r := xmTicks n e1
    (e1.active :: r.1, r.2)

/-- Every ramp of a stage advances by 16 samples (R79, R87); entries outside the dimensions do not (R72), and bad ones are
rewritten instead (R103). -/
def State.xmAdvance (s : State) (stage2 : Bool) (bad : List Nat) : State :=
  let keys := (s.xm.entries.filter (fun e =>
    e.2.run && s.xmWithin e.1 && (xmCoord s.console e.1).1 == stage2 && !bad.contains e.1)).map (·.1)
  keys.foldl (fun t k => t.setXm k (xmTicks 16 (t.xmEntry k)).2) s

/-- One term of R85 added to an accumulator, with whether sat56 acted. -/
def xmTerm (acc : Int × Bool) (x : W32) (g : W24) : Int × Bool :=
  let a := acc.1 + asrI (x.toInt * g.toInt) 9
  let c := satS 56 a
  (c, acc.2 || c != a)

/-- The word of a destination at one sample from its terms, with whether a saturation acted (R85, R86). -/
def xmWord (terms : List (W32 × W24)) : W32 × Bool :=
  let acc := terms.foldl (fun a t => xmTerm a t.1 t.2) (0, false)
  let y := asrI (acc.1 + 0x800) 12
  let w := satS 32 y
  (BitVec.ofInt 32 w, acc.2 || w != y)

/-- The 16 words of a destination from the sampled sources and the entries of its row; a crosspoint in bad counts as
gain 0 (R103). Unlisted entries have gain 0 and add nothing. -/
def xmDest (src : List (List W32)) (row : List (Nat × XmEntry)) (bad : Nat → Bool) (base : Nat) : List W32 × Bool :=
  let gains := row.map (fun e => (e.1 - base, if bad e.1 then List.replicate 16 0 else (xmTicks 16 e.2).1))
  let ws := (List.range 16).map (fun n => xmWord (gains.map (fun g => ((src.getD g.1 []).getD n 0, g.2.getD n 0))))
  (ws.map (·.1), ws.any (·.2))

/-- The slot and lag of a source of a stage (R89); none when unbound. -/
def State.xmSrcSlot (s : State) (stage2 : Bool) (n : Nat) : Option (Nat × Bool) :=
  if stage2 then
    if s.on (F.XM_BUSn_IVALID n) then some (s.fld (F.XM_BUSn_ISLOT n), s.on (F.XM_BUSn_ILAG n)) else none
  else if s.on (F.XM_INn_VALID n) then some (s.fld (F.XM_INn_SLOT n), s.on (F.XM_INn_LAG n)) else none

/-- The slot of a destination of a stage (R89). -/
def State.xmDstSlot (s : State) (stage2 : Bool) (n : Nat) : Option Nat :=
  if s.console && !stage2 then
    if s.on (F.XM_BUSn_OVALID n) then some (s.fld (F.XM_BUSn_OSLOT n)) else none
  else if s.on (F.XM_OUTn_VALID n) then some (s.fld (F.XM_OUTn_SLOT n)) else none

/-- The sources of a stage sampled at the start of its phase (R91); an unbound source reads 0 (R90). -/
def State.xmSample (s : State) (stage2 : Bool) : List (List W32) × Bool :=
  let l := (List.range (s.nsrc stage2)).map (fun n =>
    match s.xmSrcSlot stage2 n with
    | some (slot, lag) => s.deckRead16 slot s.tt.frame lag
    | none => ([], false))
  (l.map (·.1), l.any (·.2))

/-- The sticky flag of a destination (R86). -/
def State.xmSatFlag (s : State) (stage2 : Bool) (dst : Nat) : State :=
  let f : Fld := if s.console && !stage2 then ⟨F.XM_SATBn (dst / 32), dst % 32, dst % 32⟩
    else ⟨F.XM_SATOn (dst / 32), dst % 32, dst % 32⟩
  s.setFld f 1

/-- One destination of a phase computed and written; its saturation flag is kept even when it is unbound (R90). -/
def State.xmPutDest (s : State) (stage2 : Bool) (src : List (List W32)) (bad : Nat → Bool) (dst : Nat) : State :=
  let base := xmKey stage2 0 dst
  let d := xmDest src (sub s.xm.entries base src.length) bad base
  let t := if d.2 then s.xmSatFlag stage2 dst else s
  match t.xmDstSlot stage2 dst with
  | some slot => if t.xm.mute then t else t.deckWrite16 slot t.tt.frame d.1
  | none => t

/-- The bad entries of a stage found by its phase: those the event reports and those whose code word is marked
(R103). -/
def State.xmBad (s : State) (stage2 : Bool) (found : List Nat) : List Nat :=
  let marked := (s.marks.filter (fun e => bankOf e.1 == some 3 && e.2 == .bad)).map (fun e => (e.1 - 0x50000000) / 16)
  uniq ((found ++ marked).filter (fun k => s.xmWithin k && (xmCoord s.console k).1 == stage2))

/-- The entries of a stage are read: single-bit errors are corrected (R486). -/
def State.xmFix (s : State) (stage2 : Bool) : State :=
  ((s.marks.map (·.1)).filter (fun a => bankOf a == some 3
    && (let k := (a - 0x50000000) / 16
      s.xmWithin k && (xmCoord s.console k).1 == stage2))).foldl (fun t a => t.fixSingles a 8) s

/-- A phase written up to its first n destinations, its ramps advanced and its bad entries rewritten (R85, R91, R103). -/
def State.xmRun (s : State) (stage2 : Bool) (src : List (List W32)) (n : Nat) (found : List Nat) : State :=
  let s := s.xmFix stage2
  let bad := s.xmBad stage2 found
  let t := (List.range (min n (s.ndst stage2))).foldl (fun t d => t.xmPutDest stage2 src (bad.contains ·) d) s
  bad.foldl State.xmHeal (t.xmAdvance stage2 bad)

/-- A pass over a stage that writes no slot: its ramps advance and its bad entries are rewritten (R87, R593, R103). -/
def State.xmPass (s : State) (stage2 : Bool) : State := s.xmRun stage2 [] 0 []

/-- A phase of the matrix starts: the sources are sampled (R91). -/
def State.xmStart (s : State) (phase : Nat) (stage2 : Bool) : State :=
  let s := (List.range (s.nsrc stage2)).foldl (fun t n => match t.xmSrcSlot stage2 n with
    | some (slot, lag) => t.deckScan slot (if lag then t.tt.frame + 1 else t.tt.frame) (some 3)
    | none => t) s
  let r := s.xmSample stage2
  let t := if r.2 then s.kerr else s
  { t with xm := { t.xm with job := some { phase := phase, stage2 := stage2, src := r.1 } } }

/-- A block of gains from src and dst on: destination 0 over all its sources first (R97); one gain fills the block. -/
def State.xmBlock (s : State) (stage2 : Bool) (src dst nsrc ndst : Nat) (gains : List W24)
    (f : XmEntry → W24 → XmEntry) : State :=
  (List.range (nsrc * ndst)).foldl (fun t i =>
    let key := xmKey stage2 (src + i % nsrc) (dst + i / nsrc)
    t.xmEdit key (fun e => f e (if gains.length = 1 then gains.getD 0 0 else gains.getD i 0))) s

/-- A staged write (R81). -/
def xmStage (e : XmEntry) (g : Nat) (t : W24) (r : Nat) : XmEntry :=
  { e with pending := t, prsh := BitVec.ofNat 4 r, pv := true, group := BitVec.ofNat 4 g }

/-- MODE at its stage edge (R101, R72): a change of mode zeroes every entry, errors and all, and keeps destinations unwritten for a
frame; new dimensions start the commits that waited for them. -/
def State.xmMode (s : State) (cfg : W32) : State :=
  let change := bit cfg 31 != s.console
  let t := s.setReg F.XM_CFG cfg
  if change then { t with xm := { t.xm with entries := [], mute := true } }.clearMarks 0x50000000 0x800000
  else t

/-- The pending gain of an entry written from the ACTIVE value that it had in an earlier state: the last sample before the
edge, whatever direct writes the edge has applied (R83). -/
def State.xmPend (old : State) (key : Nat) (e : XmEntry) : XmEntry :=
  xmWrite { e with active := (old.xmEntry key).active } e.pending e.prsh.toNat

/-- The deferred commits of R72 that the dimensions in force now admit; old is the state before the edge's writes. -/
def State.xmDeferred (s old : State) : State :=
  let keys := (s.xm.entries.filter (fun e => e.2.df && s.xmWithin e.1)).map (·.1)
  keys.foldl (fun t k => t.xmEdit k (fun e => if e.df then { old.xmPend k e with df := false } else e)) s

/-- The commit of a group (R82, R72, R83): the entries after it, how many were committed, and the longest ramp started
(R154); old is the state before the edge's writes. -/
def State.xmCommit (s old : State) (g : Nat) : State × Nat × Nat :=
  let mine := fun (t : State) => (t.xm.entries.filter (fun e => e.2.pv && e.2.group.toNat == g)).map (·.1)
  let s := (mine s).foldl State.xmTouch s
  let hit := mine s
  let f := fun (k : Nat) (e : XmEntry) =>
    if s.xmWithin k then { old.xmPend k e with pv := false } else { e with pv := false, df := true }
  let d := (hit.filter (fun k => s.xmWithin k && (old.xmPend k (s.xmEntry k)).run)).foldl
    (fun d k => max d (2 ^ (s.xmEntry k).prsh.toNat)) 0
  (hit.foldl (fun t k => t.setXm k (f k (t.xmEntry k))) s, hit.length, d)

/-- PV cleared in the crosspoints pending under the groups a test names (R82, R105). -/
def State.xmDrop (s : State) (p : Nat → Bool) : State :=
  let keys := (s.xm.entries.filter (fun e => e.2.pv && p e.2.group.toNat)).map (·.1)
  keys.foldl (fun t k => t.xmEdit k (fun e => { e with pv := false })) s

/-- The four words of an entry (R74). -/
def xmWords (e : XmEntry) : List W32 :=
  [at32 e.group.toNat 28 ||| flag e.pv 27 ||| flag e.run 26 ||| flag e.df 25 ||| e.active.setWidth 32,
   at32 e.rsh.toNat 28 ||| at32 e.prsh.toNat 24 ||| e.target.setWidth 32,
   at32 (bf e.cnt 7 0) 24 ||| e.pending.setWidth 32,
   at32 (bf e.cnt 11 8) 28 ||| e.step.setWidth 32]

/-- The crossing matrix after the resets of R105. -/
def State.xmReset (s : State) : State :=
  { s.resetRegs 0x1E0000 0x10000 with xm := idleXm }.clearMarks 0x50000000 0x800000

end Sys2Proof.Machine
end

