-- ==== Sys2Proof/Machine/Pontoon.lean ====
section
/-! DEFINITION. Machine/Pontoon.lean: the pontoon array: conversion of a biquad, glides, sample arithmetic, lanes and
phases, errors, records (R106 to R132, R592). -/

namespace Sys2Proof.Machine

/-! ## Conversion (R109 to R112) -/

/-- The stability check (R110). -/
def biquadStable (b : Biquad) : Bool :=
  b.a2.toInt.natAbs < 0x10000000 && (b.a1.toInt.natAbs : Int) < 0x10000000 + b.a2.toInt

/-- The quotient rounded to nearest, halves away from zero (R111), for d > 0. -/
def rdiv (n d : Int) : Int := if 0 ≤ n then (2 * n + d) / (2 * d) else -((2 * (-n) + d) / (2 * d))

/-- rsh of R111: a right shift rounded by magnitude, or an exact left shift. -/
def rsh (x s : Int) : Int :=
  if 0 < s then
    let m := ((x.natAbs : Int) + 2 ^ (s.toNat - 1)) / 2 ^ s.toNat
    if x < 0 then -m else m
  else x * 2 ^ (-s).toNat

/-- The tap weights at exponent E (R111). -/
def tapsAt (n0 n1 b2 : Int) (e : Nat) : Int × Int × Int :=
  (rsh n0 (88 + e), rsh n1 (58 + e), rsh b2 ((e : Int) - 2))

def q130 (v : Int) : Bool := -(2 ^ 30 : Int) ≤ v && v ≤ 2 ^ 30 - 1

/-- The smallest exponent from e on at which the taps fit, over n further exponents (R112: at most 6). -/
def tapExp (n0 n1 b2 : Int) : Nat → Nat → Nat
  | 0, e => e
  | n + 1, e =>
    let t := tapsAt n0 n1 b2 e
    if q130 t.1 && q130 t.2.1 && q130 t.2.2 then e else tapExp n0 n1 b2 n (e + 1)

/-- The lattice of an accepted biquad and its tap exponent (R111). -/
def lattice (b : Biquad) : Five × Nat :=
  let b0 := b.b0.toInt
  let b1 := b.b1.toInt
  let b2 := b.b2.toInt
  let a2 := b.a2.toInt
  let k2 := a2 * 4
  let k1 := clampI (-(2 ^ 30) + 1) (2 ^ 30 - 1) (rdiv (b.a1.toInt * 2 ^ 30) (2 ^ 28 + a2))
  let a1p := k1 * (2 ^ 30 + k2)
  let n1 := b1 * 2 ^ 60 - b2 * a1p
  let n0 := b0 * 2 ^ 90 - n1 * k1 - b2 * k2 * 2 ^ 60
  let e := tapExp n0 n1 b2 6 0
  let t := tapsAt n0 n1 b2 e
  (⟨BitVec.ofInt 32 k1, BitVec.ofInt 32 k2, BitVec.ofInt 32 t.1, BitVec.ofInt 32 t.2.1, BitVec.ofInt 32 t.2.2⟩, e)

/-! ## Writes and glides (R116, R117) -/

/-- A function on each of two lattices' values. -/
def Five.zip (f : W32 → W32 → W32) (a b : Five) : Five :=
  ⟨f a.k1 b.k1, f a.k2 b.k2, f a.v0 b.v0, f a.v1 b.v1, f a.v2 b.v2⟩

/-- rshr of R117 on a tap weight. -/
def rshr (v : W32) (s : Nat) : W32 := if s = 0 then v else BitVec.ofInt 32 (asrI (v.toInt + 2 ^ (s - 1)) s)

/-- The taps shifted right for a larger exponent. -/
def Five.align (a : Five) (s : Nat) : Five := { a with v0 := rshr a.v0 s, v1 := rshr a.v1 s, v2 := rshr a.v2 s }

def Five.zero : Five := ⟨0, 0, 0, 0, 0⟩

/-- A direct write (R116). -/
def secDirect (r : Section) (t : Five) (e : Nat) (clr : Bool) : Section :=
  { r with act := t, tgt := t, vea := BitVec.ofNat 3 e, vet := BitVec.ofNat 3 e, stp := Five.zero, cnt := 0, run := false,
           s0 := if clr then 0 else r.s0, s1 := if clr then 0 else r.s1 }

/-- A glide write of target t at exponent et with shift g (R117). -/
def secGlide (r : Section) (t : Five) (et g : Nat) : Section :=
  let e := max r.vea.toNat et
  let a := r.act.align (e - r.vea.toNat)
  let t1 := t.align (e - et)
  { r with act := a, tgt := t1, vea := BitVec.ofNat 3 e, vet := BitVec.ofNat 3 e,
           stp := Five.zip (fun x y => BitVec.ofInt 32 ((x.toInt - y.toInt).tdiv (2 ^ g))) t1 a,
           g := BitVec.ofNat 4 g, cnt := BitVec.ofNat 15 (2 ^ g - 1), run := true }

/-- The update of a record before a sample (R117). -/
def secTick (r : Section) : Section :=
  if r.run then
    if r.cnt = 0 then { r with act := r.tgt, run := false }
    else { r with act := Five.zip (· + ·) r.act r.stp, cnt := r.cnt - 1 }
  else r

/-- n updates of a record (R122). -/
def secTicks : Nat → Section → Section
  | 0, r => r
  | n + 1, r => secTicks n (secTick r)

/-! ## Sample arithmetic (R113) -/

def mulk (k : W32) (z : Int) : Int := asrI (k.toInt * z + 2 ^ 29) 30

/-- A saturation, remembering whether it acted. -/
def satF (n : Nat) (x : Int) (f : Bool) : Int × Bool :=
  let y := satS n x
  (y, f || y != x)

/-- One sample through one section: the record after it, the accumulator and the value passed on (R113, R114). A lost
section passes its input unchanged (R128). -/
def secSample (r0 : Section) (lost : Bool) (u : Int) : Section × Int × Int × Bool :=
  if lost then (r0, u * 256, u, false)
  else
    let r := secTick r0
    let a := r.act
    let e := r.vea.toNat
    let f1 := satF 48 (u - mulk a.k2 r.s1.toInt) false
    let f0 := satF 48 (f1.1 - mulk a.k1 r.s0.toInt) f1.2
    let g1 := satF 48 (mulk a.k1 f0.1 + r.s0.toInt) f0.2
    let g2 := satF 48 (mulk a.k2 f1.1 + r.s1.toInt) g1.2
    let mv := fun (v : W32) (x : Int) (b : Bool) => satF 56 (asrI (v.toInt * x) (22 - e)) b
    let p0 := mv a.v0 f0.1 g2.2
    let p1 := mv a.v1 g1.1 p0.2
    let q1 := satF 56 (p0.1 + p1.1) p1.2
    let p2 := mv a.v2 g2.1 q1.2
    let q2 := satF 56 (q1.1 + p2.1) p2.2
    let v := satF 48 (asrI (q2.1 + 0x80) 8) q2.2
    ({ r with s0 := BitVec.ofInt 48 f0.1, s1 := BitVec.ofInt 48 g1.1, sat := r.sat || v.2 }, q2.1, v.1, v.2)

/-- One sample through a cascade: the records after it, the last accumulator, and whether a saturation acted. -/
def cascade : List (Section × Bool) → Int → Int → Bool → List (Section × Bool) × Int × Bool
  | [], _, acc, f => ([], acc, f)
  | (r, lost) :: rest, u, _, f =>
    let o := secSample r lost u
    let c := cascade rest o.2.2.1 o.2.1 (f || o.2.2.2)
    ((o.1, lost) :: c.1, c.2)

/-- The samples of a span: the records after them, the words, and whether a saturation acted (R108, R113). -/
def spanSamples : List W32 → List (Section × Bool) → List (Section × Bool) × List W32 × Bool
  | [], rs => (rs, [], false)
  | x :: xs, rs =>
    let c := cascade rs (x.toInt * 256) 0 false
    let y := asrI (c.2.1 + 0x8000) 16
    let w := satS 32 y
    let last := (w != y) && !rs.isEmpty
    let rs1 := if last then (c.1.reverse.modifyHead (fun e => ({ e.1 with sat := true }, e.2))).reverse else c.1
    let t := spanSamples xs rs1
    (t.1, BitVec.ofInt 32 w :: t.2.1, c.2.2 || last || t.2.2)

/-! ## Records and state -/

/-- The record of a section that nothing has written: the identity record, or zeros after a fast start (R128, R501). -/
def Pn.blank (p : Pn) : Section :=
  if p.fast then { idSection with act := Five.zero, tgt := Five.zero, vet := 0, vea := 0, bq := ⟨0, 0, 0, 0, 0⟩ } else idSection

def State.section_ (s : State) (n : Nat) : Section := lookD s.pn.sections s.pn.blank n
/-- The address of a section record and of a span descriptor. -/
def sectionAddr (n : Nat) : Nat := 0x58000000 + 128 * n
def spanAddr (n : Nat) : Nat := 0x5C000000 + 16 * n

/-- A record as its words are stored. -/
def State.storeSection (s : State) (n : Nat) (r : Section) : State :=
  { s with pn := { s.pn with sections := insD s.pn.sections s.pn.blank n r } }

/-- The array writes a record; in raw mode and in a march of its bank the access meets an error response (R492, R494). -/
def State.setSection (s : State) (n : Nat) (r : Section) : State :=
  if s.rawBank 4 || s.marching 4 then s else (s.storeSection n r).wrote (sectionAddr n) 128

/-- The words of a section record (R131). -/
def sectionWords (r : Section) : List W32 :=
  let five := fun (f : Five) => [f.k1, f.k2, f.v0, f.v1, f.v2]
  five r.act ++ five r.tgt ++ five r.pnd ++ five r.stp ++
  [BitVec.ofNat 32 (bf r.s0 31 0), BitVec.ofNat 32 (bf r.s1 31 0), at32 (bf r.s1 47 32) 16 ||| at32 (bf r.s0 47 32) 0,
   at32 r.group.toNat 28 ||| flag r.pv 27 ||| flag r.run 26 ||| flag r.sat 25 ||| at32 r.g.toNat 20
     ||| at32 r.pg.toNat 16 ||| at32 r.cnt.toNat 0,
   at32 r.vep.toNat 8 ||| at32 r.vet.toNat 4 ||| at32 r.vea.toNat 0,
   r.bq.b0, r.bq.b1, r.bq.b2, r.bq.a1, r.bq.a2, at32 r.kind.toNat 0, 0]

/-- The words of a span descriptor; an invalid one reads as zero (R132). -/
def spanWords : Option Span → List W32
  | none => [0, 0, 0, 0]
  | some d => [flag true 31 ||| at32 (d.count - 1) 16 ||| at32 d.first 0,
               flag d.ilag 31 ||| at32 d.oslot 16 ||| at32 d.islot 0, 0, 0]

/-! ## Lanes and phases (R124, R127, R592) -/

/-- The valid spans of a range in ascending order. -/
def spansIn (spans : SMap Span) (first last : Nat) : List (Nat × Span) := sub spans first (last + 1 - first)

/-- The in-service lane with the smallest load, the lowest number on a tie: from (lane, load) pairs. -/
def leastLane : List (Nat × Nat) → Option (Nat × Nat)
  | [] => none
  | l :: r => match leastLane r with
    | none => some l
    | some m => if l.2 ≤ m.2 then some l else some m

/-- Each span of a list with its lane and the load of that lane just after it (R124). -/
def assign : List (Nat × Span) → List (Nat × Nat) → List (Nat × Span × Nat × Nat)
  | [], _ => []
  | (n, d) :: r, loads =>
    match leastLane loads with
    | none => []
    | some (lane, load) =>
      let f := load + 16 * d.count + 24
      (n, d, lane, f) :: assign r (loads.map (fun l => if l.1 = lane then (lane, f) else l))

/-- The lanes in service, each with load 0. -/
def State.lanes (s : State) : List (Nat × Nat) :=
  ((List.range 8).filter (fun l => (s.fld F.PN_STAT_LANEOK).testBit l)).map (fun l => (l, 0))

/-- DUR of a PN phase over a range of spans (R124, R592). -/
def pnDur (spans : SMap Span) (lanes : List (Nat × Nat)) (first last : Nat) : Nat :=
  (assign (spansIn spans first last) lanes).foldl (fun d e => max d e.2.2.2) 0 + 32

def State.pnDurOf (s : State) (arg : W32) : Nat := pnDur s.pn.spans s.lanes (bf arg 11 0) (bf arg 27 16)

/-- The D1 (and D0) cycles of the compute stage of frame k: floor(C (k + 1)) - floor(C k) (R181). -/
def stageCycles (rate k : Nat) : Nat :=
  19200000000 * (k + 1) / rateHz rate - 19200000000 * k / rateHz rate

/-- Recomputations made on a lane in a phase up to the end of a span (R127, R128): one on the lane itself for each
mismatch, and one on the next lane in service for each that repeats. -/
def recomputes (lanes : List (Nat × Nat)) (ups : List PnUpset) (lane n : Nat) : Nat :=
  let next := fun (l : Nat) =>
    match (lanes.filter (fun x => l < x.1)) ++ (lanes.filter (fun x => x.1 < l)) with
    | x :: _ => x.1
    | [] => 8
  (ups.filter (fun u => u.span ≤ n)).foldl (fun c u =>
    c + (if u.lane.val = lane then 1 else 0) + (if u.twice ∧ next u.lane.val = lane then 1 else 0)) 0

/-- A section record found bad: the section passes its input unchanged until the edge (R128). -/
def State.pnLose (s : State) (n : Nat) : State :=
  if s.pn.lost.contains n then s
  else
    let a := (s.badIn (sectionAddr n) 128).getD (sectionAddr n)
    let t := { s with pn := { s.pn with lost := s.pn.lost ++ [n] } }
    let t := (t.ueRecord a).setFld F.PN_STAT_EERR 1
    (t.setReg F.PN_ERRLOC (flag true 31 ||| at32 n 0)).eccNotice 4 0 4 a n

/-- The array reads a record and writes it back changed. Single-bit errors are corrected; a bad record is lost, and the change
with it (R128, R486, log 148). -/
def State.editSection (s : State) (n : Nat) (f : Section → Section) : State :=
  let t := s.fixSingles (sectionAddr n) 128
  if t.bad (sectionAddr n) 128 then t.pnLose n else t.setSection n (f (t.section_ n))

/-- A function on every listed section record that it changes. -/
def State.mapSections (s : State) (f : Nat → Section → Section) : State :=
  ((s.pn.sections.filter (fun e => f e.1 e.2 != e.2)).map (·.1)).foldl (fun t n => t.editSection n (f n)) s

/-- A descriptor as its words are stored: an invalid one reads as zero (R132). -/
def State.storeSpan (s : State) (n : Nat) (d : Option Span) : State :=
  { s with pn := { s.pn with spans := match d with
                               | some d => ins s.pn.spans n d
                               | none => del s.pn.spans n } }

/-- A span's descriptor stored or erased; in raw mode and in a march of the span RAM the array's access meets an error response
(R492, R494). -/
def State.putSpan (s : State) (n : Nat) (d : Option Span) : State :=
  if s.rawBank 5 || s.marching 5 then s else (s.storeSpan n d).wrote (spanAddr n) 16

/-- A span descriptor found bad: it is rewritten as all zero and does not run (R128). -/
def State.pnLoseSpan (s : State) (n : Nat) : State :=
  let a := (s.badIn (spanAddr n) 16).getD (spanAddr n)
  let t := s.putSpan n none
  let t := { t with pn := { t.pn with noRun := t.pn.noRun ++ [n] } }
  let t := (t.ueRecord a).setFld F.PN_STAT_EERR 1
  (t.setReg F.PN_ERRLOC (flag true 31 ||| flag true 30 ||| at32 n 0)).eccNotice 5 0 4 a (2 ^ 30 + n)

/-- The sections of a span, with whether each is lost. -/
def State.spanRecords (s : State) (d : Span) : List (Section × Bool) :=
  (List.range d.count).map (fun i => (s.section_ (d.first + i), s.pn.lost.contains (d.first + i)))

/-- Records stored back for a span; lost ones stay. -/
def State.storeRecords (s : State) (first : Nat) : List (Section × Bool) → State
  | [] => s
  | (r, lost) :: rest => ((if lost then s else s.setSection first r).storeRecords (first + 1) rest)

/-- A lane reads what a span needs: its descriptor, the records of its sections and the words of its input slot; single-bit
errors are corrected, and bad records are lost (R128). -/
def State.pnRead (s : State) (n : Nat) (d : Span) : State :=
  let s := (s.fixSingles (spanAddr n) 16).fixSingles (sectionAddr d.first) (128 * d.count)
  let bad := (List.range d.count).filter (fun i => s.bad (sectionAddr (d.first + i)) 128)
  let s := bad.foldl (fun t i => t.pnLose (d.first + i)) s
  let s := s.deckScan d.islot (if d.ilag then s.tt.frame + 1 else s.tt.frame) (some 4)
  if (s.deckRead16 d.islot s.tt.frame d.ilag).2 then s.kerr else s

/-- The sticky flag of a span whose sections a saturation altered (R114). -/
def State.spanSat (s : State) (n : Nat) (b : Bool) : State := s.mark ⟨F.PN_SATn (n / 32), n % 32, n % 32⟩ b

/-- A span runs for its frame: all 16 words are written (R108). -/
def State.pnSpan (s : State) (n : Nat) (d : Span) : State :=
  let s := s.pnRead n d
  let x := s.deckRead16 d.islot s.tt.frame d.ilag
  let o := spanSamples x.1 (s.spanRecords d)
  let s := s.storeRecords d.first o.1
  let s := { s with pn := { s.pn with ran := s.pn.ran ++ (List.range d.count).map (· + d.first) } }
  let s := s.spanSat n o.2.2
  s.deckWrite16 d.oslot s.tt.frame o.2.1

/-- A span that has not finished at the edge (R127): it writes nothing; where it had started, its sections keep the state
of their last computed sample, a free number of samples (log 7); the glides advance as for a section that did not run. -/
def State.pnUnfinished (s : State) (n : Nat) (d : Span) (started : Bool) : State :=
  if started then
    let f := (s.pnRead n d).draw
    let j := Config.pnCut f.1 n % 16
    let t := f.2
    let x := t.deckRead16 d.islot t.tt.frame d.ilag
    let o := spanSamples (x.1.take j) (t.spanRecords d)
    let keep := (t.spanRecords d).zip o.1
    let u := t.storeRecords d.first (keep.map (fun p => ({ p.1.1 with s0 := p.2.1.s0, s1 := p.2.1.s1, sat := p.2.1.sat }, p.1.2)))
    u.spanSat n o.2.2
  else s

/-- The residue events of a phase reported: RERR, PN_RETRY, and the lanes to be fenced at the next edge with their FAULT
notices, one for each mismatch that repeats (R128; one on the last lane counts 2 as well, R592, log 160). -/
def State.pnUpsets (s : State) (ups : List PnUpset) : State :=
  let s := ups.foldl (fun t u => (t.setFld F.PN_STAT_RERR 1).bumpBy F.PN_RETRY_CNT (if u.twice then 2 else 1)) s
  (ups.filter (·.twice)).foldl (fun t u =>
    { t with pn := { t.pn with fence := uniq (t.pn.fence ++ [u.lane.val]) } }.faultNotice 1 0 0 u.lane.val 0 0 0 5) s

/-- A PN phase over a range of spans that started at D1 cycle c of a stage of n cycles: the spans that finish by the end
of the stage write their words, the others do not (R124, R127, R592). -/
def State.pnPhase (s : State) (arg : W32) (c n : Nat) (ups : List PnUpset) : State :=
  let first := bf arg 11 0
  let last := bf arg 27 16
  let badSpans := ((spansIn s.pn.spans first last).filter (fun e => s.bad (spanAddr e.1) 16)).map (·.1)
  let asg := assign (spansIn s.pn.spans first last) s.lanes
  let lanes := s.lanes
  let lastLane := lanes.length ≤ 1
  let s := badSpans.foldl State.pnLoseSpan s
  let s := asg.foldl (fun t e =>
    let fin := c + e.2.2.2 + 4 * recomputes lanes ups e.2.2.1 e.1 ≤ n
    let unused := lastLane && ups.any (fun u => u.twice && u.span == e.1)
    if badSpans.contains e.1 then t
    else if unused then t
    else if fin then t.pnSpan e.1 e.2.1
    else t.pnUnfinished e.1 e.2.1 (decide (c + (e.2.2.2 - 16 * e.2.1.count - 24) < n))) s
  s.pnUpsets ups

/-- The glide-only pass of an edge: the sections that did not run advance their glides by 16 samples (R122). A bad record is
lost for the frame that begins (R128). -/
def State.pnGlides (s : State) : State := s.mapSections (fun n r => if s.pn.ran.contains n then r else secTicks 16 r)

/-- The lost records rewritten as the identity record (R128). -/
def State.pnHeal (s : State) : State :=
  let t := s.pn.lost.foldl (fun t n => t.setSection n idSection) s
  { t with pn := { t.pn with lost := [] } }

/-- What the array does at an edge after the frame's phases: lost records rewritten, glides, lanes fenced (R122, R128). -/
def State.pnEdge (s : State) : State :=
  let s := s.pnHeal.pnGlides
  let ok := s.pn.fence.foldl (fun w l => setBf w l l 0) (BitVec.ofNat 8 (s.fld F.PN_STAT_LANEOK))
  let s := s.setFld F.PN_STAT_LANEOK ok.toNat
  { s with pn := { s.pn with noRun := [], fence := [], ran := [] } }

/-- A staged write (R119). -/
def secStage (r : Section) (g : Nat) (t : Five) (e shift : Nat) : Section :=
  { r with pnd := t, vep := BitVec.ofNat 3 e, pg := BitVec.ofNat 4 shift, pv := true, group := BitVec.ofNat 4 g }

/-- The commit of a group (R120, R121): how many sections were committed and the longest glide; old is the state before the
edge's writes, whose ACTIVE values the glides start from. A bad record is lost instead (R128). -/
def State.pnCommit (s old : State) (g : Nat) : State × Nat × Nat :=
  let all := s.pn.sections.filter (fun e => e.2.pv && e.2.group.toNat == g)
  let hit := all.filter (fun e => !s.bad (sectionAddr e.1) 128)
  let t := s.mapSections (fun n r =>
    if r.pv && r.group.toNat == g then
      let o := old.section_ n
      { secGlide { r with act := o.act, vea := o.vea } r.pnd r.vep.toNat r.pg.toNat with pv := false }
    else r)
  (t, hit.length, hit.foldl (fun d e => max d (2 ^ e.2.pg.toNat)) 0)

/-- PV cleared in the sections pending under the groups a test names (R120, R130). -/
def State.pnDrop (s : State) (p : Nat → Bool) : State :=
  s.mapSections (fun _ r => if r.pv && p r.group.toNat then { r with pv := false } else r)

/-- BQ and BQ_KIND of an accepted direct or glide write (R131). -/
def State.sosKeep (s : State) (n : Nat) (glide : Bool) (bq : Biquad) : State :=
  s.editSection n (fun r => { r with bq := bq, kind := if glide then 2 else 1 })

/-- A direct or glide write of a converted biquad (R115 to R117); later says that a staged write of the section has been
accepted since, whose biquad BQ keeps (R131). -/
def State.sosApply (s : State) (n : Nat) (glide clr : Bool) (g : Nat) (bq : Biquad) (later : Bool) : State :=
  let l := lattice bq
  s.editSection n (fun r =>
    let r := if glide then secGlide r l.1 l.2 g else secDirect r l.1 l.2 clr
    if later then r else { r with bq := bq, kind := if glide then 2 else 1 })

/-- A SPAN change (R137): DEFINE clears the state of each section that was not in that span before. -/
def State.spanApply (s : State) (n : Nat) (d : Option Span) : State :=
  match d with
  | none => s.putSpan n none
  | some d =>
    let was := fun (i : Nat) => match look s.pn.spans n with
      | some o => o.first ≤ i && i < o.first + o.count
      | none => false
    let t := (List.range d.count).foldl (fun t i =>
      if was (d.first + i) then t
      else t.editSection (d.first + i) (fun r => { r with s0 := 0, s1 := 0 })) s
    t.putSpan n (some d)

/-- The array after the resets of R130 and R140; LANEOK stays unless all is set (POR, DEVICE reset). -/
def State.pnReset (s : State) (all : Bool) : State :=
  let ok := s.fld F.PN_STAT_LANEOK
  let t := { s.resetRegs 0x1F0000 0x10000 with
    pn := idlePn false }
  let t := (t.clearMarks 0x58000000 0x400000).clearMarks 0x5C000000 0x10000
  if all then t else t.setFld F.PN_STAT_LANEOK ok

end Sys2Proof.Machine
end

