-- ==== Sys2Proof/Machine/Scenes.lean ====
section
/-! DEFINITION. Machine/Scenes.lean: scene groups: arming, commits, DROP and TURNDONE (R141 to R164). -/

namespace Sys2Proof.Machine

def State.scene (s : State) (g : Nat) : Scene := lookD s.scenes idleScene g
def State.setScene (s : State) (g : Nat) (x : Scene) : State := { s with scenes := insD s.scenes idleScene g x }
def State.modScene (s : State) (g : Nat) (f : Scene → Scene) : State := s.setScene g (f (s.scene g))

/-- The scene groups. -/
def groups : List Nat := List.range 16

/-- TT_SCN_SUM.ARMED: a TURN is armed, or waits for the edge at which a DROP cancels it. -/
def Scene.isArmed (x : Scene) : Bool := x.armed.isSome || !x.dropping.isEmpty

/-- The tasks whose page holds pending words of a group that a test names. -/
def State.pendPages (s : State) (p : Nat → Bool) : List Nat :=
  all32.filter (fun t => (s.taskLive t || s.ferrying t) && (s.taskPages t).pendingIn p)

/-- The HALTED berths, whose memories are kept (R166), with pending words of such a group in their page. -/
def State.haltedPages (s : State) (p : Nat → Bool) : List Nat :=
  all32.filter (fun c => (s.core c).state == .halted && (s.core c).mems.pendingIn p)

/-- TT_SCNg_PSP.PAGES (R164). -/
def State.pageCount (s : State) (g : Nat) : Nat := (s.pendPages (· == g)).length + (s.haltedPages (· == g)).length

/-- Results of a TURNDONE (R156). -/
def rDONE : Nat := 0
def rDROPPED : Nat := 1
def rRESET : Nat := 2
def rENGINE : Nat := 3
def rRATE : Nat := 4
def rLATE : Nat := 5

/-- The TURNDONE notice (R156), with its result kept in the group. -/
def State.turnDone (s : State) (g issuer result start xpts sections pages len : Nat) : State :=
  let t := s.modScene g (fun x => { x with result := some result })
  t.notice nTURNDONE
    [at32 issuer 8 ||| at32 result 4 ||| at32 g 0, lo32 start, hi32 start, at32 xpts 0,
     at32 pages 16 ||| at32 sections 0, at32 len 0]

/-- The TURNDONE of a commit. -/
def State.commitDone (s : State) (g : Nat) (c : Commit) (result : Nat) : State :=
  s.turnDone g c.issuer.val result c.start c.xpts c.sections c.pages c.len

/-- The TURNDONE of a TURN without a commit. -/
def State.armedDone (s : State) (g : Nat) (a : Armed) (result : Nat) : State :=
  s.turnDone g a.issuer.val result a.t 0 0 0 0

/-- The page of a task flips, which the program sees as PGFLIP in this stage (R144, R192). -/
def State.flipPage (s : State) (t : Nat) : State :=
  let s1 := (s.pageBerths t).foldl State.flipBerth s
  all32.foldl (fun u c =>
    let k := u.core c
    if k.task == t && k.state == .active then u.setCore c { k with regs := { k.regs with pgflip := true } } else u) s1

/-- The commit of group g at the edge that starts the compute stage of a frame (R150, R154, R157): its armed TURN's
sample, or word 0 of the frame where the time counter has stepped past it; old is the state before the edge's writes. -/
def State.commit (s old : State) (g frame : Nat) : State :=
  match (s.scene g).armed with
  | none => s
  | some a =>
    let late := a.t / 16 < frame
    let x := s.xmCommit old g
    let p := x.1.pnCommit old g
    let pages := p.1.pageCount g
    let t := (p.1.haltedPages (· == g)).foldl State.flipBerth ((p.1.pendPages (· == g)).foldl State.flipPage p.1)
    let d := max 1 (max x.2.2 p.2.2)
    let c : Commit := { start := if late then 16 * frame else a.t, issuer := a.issuer, xpts := x.2.1, sections := p.2.1,
                        pages := pages, len := d, left := (d - 1) / 16 + 1, rate := false, late := late }
    t.modScene g (fun y => { y with armed := none, running := y.running ++ [c], lastT := c.start, issuer := a.issuer, len := d })

/-- The commits whose edge the start of a frame's compute stage is (R150, R157). -/
def State.commits (s old : State) (frame : Nat) : State :=
  groups.foldl (fun t g => match (t.scene g).armed with
    | some a => if a.t / 16 ≤ frame then t.commit old g frame else t
    | none => t) s

/-- The end of a compute stage for the running commits of a group: the TURNDONEs that fall due, in commit order (R154,
R157). -/
def State.stageEnd (s : State) (g : Nat) : State :=
  let l := (s.scene g).running.map (fun c => { c with left := c.left - 1 })
  let due := l.filter (fun c => c.left == 0 || c.rate)
  let t := s.modScene g (fun y => { y with running := l.filter (fun c => !(c.left == 0 || c.rate)) })
  due.foldl (fun t c => t.commitDone g c (if c.rate then rRATE else if c.late then rLATE else rDONE)) t

/-- Pending entries of the groups that a test names are cleared (R82, R120, R152). -/
def State.dropPending (s : State) (p : Nat → Bool) : State :=
  let t := (s.pendPages p).foldl (fun t i => (t.pageBerths i).foldl State.dropBerth t) ((s.xmDrop p).pnDrop p)
  (s.haltedPages p).foldl State.dropBerth t

/-- DROP at its stage edge; hit is the TURN that was armed when it completed (R152, R153). -/
def State.dropGroup (s : State) (g : Nat) (hit : Option Armed) : State :=
  let t := s.dropPending (· == g)
  match hit with
  | none => t
  | some a =>
    let x := t.scene g
    if x.dropping.contains a then (t.setScene g { x with dropping := x.dropping.erase a }).armedDone g a rDROPPED
    else if x.armed = some a then (t.setScene g { x with armed := none }).armedDone g a rDROPPED
    else t

/-- TURN arms a group (R149). A TURN that a completed DROP is to cancel stays with the DROP. -/
def State.arm (s : State) (g : Nat) (a : Armed) : State :=
  s.modScene g (fun x => { x with armed := some a, dropping := x.dropping ++ x.armed.toList, issuer := a.issuer })

/-- Armed TURNs of a group cancelled with a result (R157, R158). -/
def State.cancelTurn (s : State) (g result : Nat) : State :=
  match (s.scene g).armed with
  | none => s
  | some a => (s.modScene g (fun x => { x with armed := none })).armedDone g a result

/-- An ENGINE reset of the scene groups: one ENGINE notice for each armed TURN and each running commit (R158), and every
group at its reset value (R164). -/
def State.sceneEngine (s : State) : State :=
  let t := groups.foldl (fun t g =>
    let x := t.scene g
    let t1 := x.armed.toList.foldl (fun t a => t.armedDone g a rENGINE) t
    x.running.foldl (fun t c => t.commitDone g c rENGINE) t1) s
  { t with scenes := [] }

/-- Every TURN of a group cancelled by a MOORING reset, also one that a completed DROP is to cancel (R158; log 117). -/
def State.resetTurns (s : State) (g : Nat) : State :=
  let x := s.scene g
  (x.dropping ++ x.armed.toList).foldl (fun t a => t.armedDone g a rRESET)
    (s.modScene g (fun x => { x with armed := none, dropping := [] }))

/-- A MOORING reset of the owner of the groups that a test names (R158, R164). -/
def State.sceneMooring (s : State) (p : Nat → Bool) : State :=
  groups.foldl (fun t g => if p g then t.resetTurns g else t) (s.dropPending p)

/-- A rate change on the scene groups: armed TURNs are cancelled, running commits end at the next edge (R157). -/
def State.sceneRate (s : State) : State :=
  groups.foldl (fun t g =>
    (t.cancelTurn g rRATE).modScene g (fun x => { x with running := x.running.map (fun c => { c with rate := true }) })) s

end Sys2Proof.Machine
end

