-- ==== Sys2Proof/Machine/Timetable.lean ====
section
/-! DEFINITION. Machine/Timetable.lean: the timetable: phases, durations and budgets, barriers, and the replacement of a
berth in the masks (R37 to R50, R125, R126). -/

namespace Sys2Proof.Machine

/-- The UNIT code of TT_PHn_CFG. -/
def PhUnit.code : PhUnit → Nat
  | .pn => 0 | .xm1 => 1 | .xm2 => 2 | .sc => 3

/-- The unit of a code; 4 to 7 are reserved. -/
def unitOf : Nat → Option PhUnit
  | 0 => some .pn | 1 => some .xm1 | 2 => some .xm2 | 3 => some .sc | _ => none

/-- TT_PHn_CFG of a phase. -/
def Phase.cfg (p : Phase) : W32 := flag true 31 ||| at32 p.unit.code 28 ||| at32 p.barrier 24

/-- The phase is one of the matrix. -/
def PhUnit.isXm (u : PhUnit) : Bool := u == .xm1 || u == .xm2

/-- The spans of a PN phase. -/
def Phase.first (p : Phase) : Nat := bf p.arg 11 0
def Phase.last (p : Phase) : Nat := bf p.arg 27 16

/-! ## Durations and budgets -/

/-- What durations depend on: the valid spans, the lanes in service and the matrix dimensions. -/
structure Sizes where
  spans : SMap Span
  lanes : List (Nat × Nat)
  cfg : W32

def State.sizes (s : State) : Sizes := { spans := s.pn.spans, lanes := s.lanes, cfg := s.reg F.XM_CFG }

/-- The duration of a phase in D1 cycles; for an SC phase, its allowance (R40, R87, R124). -/
def Sizes.dur (z : Sizes) (p : Phase) : Nat :=
  match p.unit with
  | .pn => pnDur z.spans z.lanes p.first p.last
  | .xm1 => xmDur (cfgSrc z.cfg false) (cfgDst z.cfg false)
  | .xm2 => xmDur (cfgSrc z.cfg true) (cfgDst z.cfg true)
  | .sc => p.allow

/-- The step of a barrier (R47). -/
def Sizes.step (z : Sizes) (l : List Phase) (b : Nat) : Nat :=
  let at_ := l.filter (fun p => p.barrier == b)
  let sum := fun (q : PhUnit → Bool) => ((at_.filter (fun p => q p.unit)).map z.dur).sum
  max (max (sum (· == .pn)) (sum PhUnit.isXm))
    ((at_.filter (fun p => p.unit == .sc)).foldl (fun m p => max m p.allow) 0)

/-- The steps of all barriers stay within the D1 cycles per frame less 2,048 (R47). -/
def Sizes.fits (z : Sizes) (rate : Nat) (l : List Phase) : Bool :=
  ((List.range 16).map (z.step l)).sum ≤ frameCycles rate - 2048

/-- The PN durations stay within 90 % of the D1 cycles per frame (R125). -/
def Sizes.pnFits (z : Sizes) (rate : Nat) (l : List Phase) : Bool :=
  ((l.filter (fun p => p.unit == .pn)).map z.dur).sum ≤ frameCycles rate * 9 / 10

/-- Barrier numbers do not decrease along a list. -/
def barriersRise : List Phase → Bool
  | a :: b :: r => a.barrier ≤ b.barrier && barriersRise (b :: r)
  | _ => true

/-- The span ranges of two PN phases overlap (R125). -/
def pnOverlap : List Phase → Bool
  | [] => false
  | p :: r => (p.unit == .pn && r.any (fun q => q.unit == .pn && p.first ≤ q.last && q.first ≤ p.last)) || pnOverlap r

/-- A valid span of a range reads as ISLOT what another valid span of the range writes as OSLOT (R126). -/
def rangeClash (spans : SMap Span) (p : Phase) : Bool :=
  let l := spansIn spans p.first p.last
  p.unit == .pn && l.any (fun a => l.any (fun b => a.1 != b.1 && a.2.islot == b.2.oslot))

/-! ## Views -/

/-- Berths that phase masks of barrier b name. -/
def State.maskOf (s : State) (b : Nat) : List Nat :=
  uniq ((s.tt.active.filter (fun p => p.unit == .sc && p.barrier == b)).flatMap (fun p => bitsOf p.arg 32))

/-- The barrier below which a berth has completed its phases in this stage (R41). -/
def State.coreDone (s : State) (c : Nat) : Nat := lookD s.tt.coreDone 0 c

/-- A berth completes its phases with barriers below n; so does a berth whose place in the masks it takes at the next edge
(R261). -/
def State.completeTo (s : State) (c n : Nat) : State :=
  let put := fun (m : SMap Nat) (c : Nat) => ins m c (max n (lookD m 0 c))
  let old := (s.ferry.maskMoves.filter (fun e => e.2 == c)).map (·.1)
  { s with tt := { s.tt with coreDone := old.foldl put (put s.tt.coreDone c) } }

/-- A phase of the active timetable has completed (R40). -/
def State.phaseComplete (s : State) (p : Phase) (i : Nat) : Bool :=
  s.tt.done.contains i || (p.unit == .sc && (bitsOf p.arg 32).all (fun c => p.barrier < s.coreDone c))

/-- A barrier is open in the compute stage in progress. -/
def State.barrierOpen (s : State) (b : Nat) : Bool := (look s.tt.openAt b).isSome

/-- The D1 cycles of the compute stage in progress. -/
def State.stageLen (s : State) : Nat := stageCycles s.rate s.tt.frame

/-! ## Barriers (R38 to R41, R45) -/

/-- The phases with their numbers. -/
def Tt.numbered (t : Tt) : List (Phase × Nat) := t.active.zip (List.range t.active.length)

/-- A unit of one kind starts its next phase when the phase's barrier is open (R38, R39). -/
def State.startUnit (s : State) (q : PhUnit → Bool) (cycle : Nat) : State :=
  match s.tt.numbered.find? (fun e => q e.1.unit && !s.tt.done.contains e.2) with
  | some (p, i) =>
    if s.barrierOpen p.barrier && (look s.tt.startAt i).isNone then
      let t := { s with tt := { s.tt with startAt := ins s.tt.startAt i cycle } }
      if p.unit.isXm then t.xmStart i (p.unit == .xm2) else t
    else s
  | none => s

/-- SYNC returns: posted writes reach the deck first, and the next bundle issues 2 cycles later (R180, R182). -/
def State.syncReturn (s : State) (c cycle : Nat) : State :=
  (s.drain c cycle).modCore c (fun k => { k with wait := none, next := cycle + 2 })

/-- Barrier b opens: masked berths that are not ACTIVE complete its phases, but for those that wait for the repeat or fade
of a stopped task (R45, R243, R244), and the SYNCs that wait for it return. -/
def State.openBarrier (s : State) (b cycle : Nat) : State :=
  let s1 := { s with tt := { s.tt with openAt := ins s.tt.openAt b cycle } }
  let s2 := (s.maskOf b).foldl (fun t c =>
    let busy := (t.core c).state == .active || t.ferry.patches.any (fun p => p.berth == c)
      || t.ferry.maskMoves.any (fun e => e.1 == c)
    if busy then t else t.completeTo c (b + 1)) s1
  all32.foldl (fun t c => if (t.core c).wait == some (.sync b) then t.syncReturn c cycle else t) s2

/-- The barriers that now open, in order, and the phases that start (R38, R39). -/
def State.advanceFrom : Nat → Nat → State → State
  | 0, _, s => s
  | n + 1, cycle, s =>
    let s1 := (s.startUnit (· == .pn) cycle).startUnit PhUnit.isXm cycle
    let b := s1.tt.openAt.length
    if b < 16 && s1.tt.numbered.all (fun e => b ≤ e.1.barrier || s1.phaseComplete e.1 e.2) then
      State.advanceFrom n cycle (s1.openBarrier b cycle)
    else s1

def State.advance (s : State) (cycle : Nat) : State := State.advanceFrom 17 cycle s

/-- A PN or XM phase ends, and what follows from it. -/
def State.phaseDone (s : State) (i cycle : Nat) : State :=
  { s with tt := { s.tt with done := i :: s.tt.done } }.advance cycle

/-! ## Masks (R50) -/

/-- A berth's bit replaced by another's in a mask. -/
def moveBit (m : W32) (a b : Nat) : W32 := if m.getLsbD a then setBf (setBf m a a 0) b b 1 else m

def Phase.moveMask (a b : Nat) (p : Phase) : Phase := if p.unit == .sc then { p with arg := moveBit p.arg a b } else p

/-- The masks of the active and the pending timetable follow a task from berth a to berth b. -/
def State.moveMasks (s : State) (a b : Nat) : State :=
  { s with tt := { s.tt with active := s.tt.active.map (Phase.moveMask a b),
                             pend := s.tt.pend.map (fun p => { p with phases := p.phases.map (Phase.moveMask a b) }) } }

end Sys2Proof.Machine
end

