-- ==== Sys2Proof/Machine/Ferry.lean ====
section
/-! DEFINITION. Machine/Ferry.lean: core faults, repeats and fades, the fault ferry, planned moves, pairs and stops (R42,
R194 to R199, R242 to R263). -/

namespace Sys2Proof.Machine

/-! ## Fades and repeats (R199, R243) -/

/-- The slots of a list that are WORK or OUT. -/
def State.outSlots (s : State) (l : List Nat) : List Nat := l.filter (fun n => s.kind n == .work || s.kind n == .out)

/-- The words of a list of slots, slot by slot. -/
def State.outCells (s : State) (slots : List Nat) : List (Nat × Nat) :=
  (s.outSlots slots).flatMap (fun n => (List.range 16).map (fun j => (n, j)))

/-- A word of a frame's buffer written from the word of the frame before: faded (R199) or repeated (R243). -/
def State.putPast (s : State) (fade : Bool) (frame : Nat) (e : Nat × Nat) : State :=
  let old := s.deckGet e.1 (frame + 1) e.2
  s.deckPut e.1 frame e.2 (if fade then fade16 old (15 - e.2) else old)

/-- The fade of R199 in the buffers of a frame, from the words of the frame before. -/
def State.fadeInto (s : State) (frame : Nat) (slots : List Nat) : State :=
  (s.outCells slots).foldl (fun t e => t.putPast true frame e) s

/-- The first n words of a patch written. -/
def State.patchPart (s : State) (p : Patch) (n : Nat) : State :=
  ((s.outCells p.slots).take n).foldl (fun t e => t.putPast p.fade p.frame e) s

/-- A patch that has been written: the stopped core has completed its phases (R243, R244). -/
def State.patchDone (s : State) (p : Patch) (cycle : Nat) : State :=
  let t := s.patchPart p (16 * p.slots.length)
  let u := { t with ferry := { t.ferry with patches := t.ferry.patches.erase p } }
  (u.completeTo p.berth 16).advance cycle

/-! ## Replies that a move's edge completes (R268) -/

/-- The payload that stands for a frame not yet known. -/
def payloadOpen (t : Nat) : List W32 := [at32 t 0, 0xFFFFFFFF]

/-- The two frame words that a move's edge gives to the records waiting for it. -/
def State.fillPayload (s : State) (t frame : Nat) : State :=
  let fix := fun (p : Pkt) => { p with recs := p.recs.map (fun r =>
    if (r.op == 0x33 || r.op == 0x34) && r.payload == payloadOpen t then { r with payload := [lo32 frame, at32 (bf (hi32 frame) 27 0) 0] } else r) }
  { s with ctl := { s.ctl with stack := s.ctl.stack.map fix, replies := s.ctl.replies.map fix } }

/-- The replies that wait for a move or a start of a pair. -/
def State.moveReply (s : State) (t frame : Nat) : State :=
  (s.fillPayload t frame).release (fun w => w == .ferry t || w == .tandem t)

/-- The two frame words of a reply whose move ended without an edge: no rule gives them, so they are free (log 15). -/
def State.fillFree (s : State) (t : Nat) : State :=
  let u := s.fillPayload t ((Config.freeWord s.free).toNat + 2 ^ 32 * (Config.freeWord (s.free + 1)).toNat)
  { u with free := s.free + 2 }

/-- The replies that wait for a move which has been cancelled. -/
def State.cancelReply (s : State) (t : Nat) : State :=
  (s.fillFree t).release (fun w => w == .ferry t || w == .tandem t)

/-! ## Berths -/

/-- A task that no longer runs has its home berth for its berth, without shadow, pair or hold (R251, R271). An update that is
loading stays open. -/
def TaskRec.atHome (r : TaskRec) (t : Nat) : TaskRec :=
  { homeTask t with faults := r.faults, upd := if r.upd = 1 then 1 else 0, updBerth := r.updBerth }

/-- A task is no longer paired. The hold that a rejoin at its home berth waited for becomes that of its return (R252). -/
def TaskRec.unpaired (r : TaskRec) (t : Nat) : TaskRec :=
  let back := r.rvwait || r.rejoin == some t
  { r with partner := none, solo := false, rejoin := none, rvwait := back, holdLeft := if back then r.holdLeft else 0 }

/-- The fault ferries of a task that has stopped go. -/
def State.dropJobs (s : State) (t : Nat) : State :=
  { s with ferry := { s.ferry with cur := s.ferry.cur.filter (fun j => j.task != t),
                                   queue := s.ferry.queue.filter (fun j => j.task != t) } }

/-! ## Planned moves (R252 to R258) -/

/-- A memory with the words of a region taken from another. -/
def overlay (base from_ : SMap W32) (b n : Nat) : SMap W32 :=
  (sub from_ b (16 * n)).foldl (fun m e => ins m e.1 e.2) (delRange base b (16 * n))

/-- The memories of an incoming berth when its mirror starts (R253, R258). -/
def mirrorMems (kind : MoveKind) (src dst : Core) : Mems :=
  if kind == .update then
    let im := dst.image
    { src.mems with prog := dst.mems.prog, x := overlay dst.mems.x src.mems.x im.xsbase im.xslen,
                    y := overlay dst.mems.y src.mems.y im.ysbase im.yslen }
  else src.mems

/-- The state regions of an image in a berth's window: addresses and bytes. -/
def stateWords (im : Image) (c : Nat) : List (Nat × Nat) :=
  [(dataAddr c false (.mem im.xsbase), 64 * im.xslen), (dataAddr c true (.mem im.ysbase), 64 * im.yslen)]

/-- The words of a berth that a copy takes from it beside the state regions (R245): addresses and bytes. -/
def plainWords (im : Image) (c : Nat) : List (Nat × Nat) :=
  let cut := fun (y : Bool) (b n : Nat) =>
    [(dataAddr c y (.mem 0), 4 * b), (dataAddr c y (.mem (b + 16 * n)), 4 * (32768 - (b + 16 * n)))]
  (windowAddr c, 0x10000) :: cut false im.xsbase im.xslen ++ cut true im.ysbase im.yslen ++ [(windowAddr c + 0xC0000, 0x2000)]

/-- Where a task's shadow keeps the state regions: addresses and bytes (R238). -/
def TaskRec.shadowWords (r : TaskRec) (im : Image) : List (Nat × Nat) :=
  [(dataAddr r.shBerth false (.mem r.xAt), 64 * im.xslen), (dataAddr r.shBerth true (.mem r.yAt), 64 * im.yslen)]

/-- An uncorrectable word lies in a list of ranges. -/
def State.anyBad (s : State) (l : List (Nat × Nat)) : Bool := l.any (fun e => e.2 != 0 && s.bad e.1 e.2)

/-- The words that the mirror of a move reads (R253, R258). -/
def State.mirrorReads (s : State) (mv : Move) : List (Nat × Nat) :=
  if mv.kind == .update then stateWords (s.core mv.src).image mv.src ++ [(windowAddr mv.src + 0xC0000, 0x2000)]
  else [(windowAddr mv.src, 0x100000)]

/-- A mirror starts (R253). A spare that receives a task serves no other as a shadow berth (R235). -/
def State.startMove (s : State) (t : Nat) (kind : MoveKind) (dst notBefore : Nat) (rejoin : Bool) : State :=
  let r := s.task t
  let k := s.core r.berth
  let d := s.core dst
  let s1 := s.setCore dst { d with mems := mirrorMems kind k d, task := t, ranges := k.ranges,
                                   image := if kind == .update then d.image else k.image }
  let s1 := if kind == .update then
      s1.wroteAll (stateWords d.image dst ++ [(windowAddr dst + 0xC0000, 0x2000)])
    else s1.wrote (windowAddr dst) 0x100000
  let mv : Move := { kind := kind, src := r.berth, dst := dst, mirrored := false, ctx := none, notBefore := notBefore,
                     handed := none, firstWrite := none, wrote := [], rejoin := rejoin }
  let s2 := s1.setTask t { r with move := some mv, rvwait := false, holdLeft := 0,
                                  rejoin := if rejoin then none else r.rejoin }
  s2.loseSpare dst t

/-- A planned move is cancelled: the outgoing core keeps the task (R263). -/
def State.cancelMove (s : State) (t reason : Nat) : State :=
  let r := s.task t
  match r.move with
  | none => s
  | some mv =>
    let keeps := mv.kind == .drill && reason == 1
    let s1 := s.setTask t { r with move := none, upd := if mv.kind == .update then 0 else r.upd,
                                   sh := if mv.kind == .drill && !keeps then .none else r.sh,
                                   ctx := if mv.kind == .drill && !keeps then none else r.ctx }
    let s2 := if reason = 1 ∨ reason = 2 then s1.setFld F.SC_FSTAT_ABORT 1 else s1
    let s3 := if keeps then s2.setCore mv.dst (emptyCore .standby) else s2.clearBerth mv.dst
    ((s3.ferryNotice 8 reason t mv.src mv.dst 0 0).cancelReply t).assignAll

/-- An update that is loading is cancelled (R258, R263). -/
def State.cancelUpdate (s : State) (t reason : Nat) : State :=
  let r := s.task t
  if r.upd = 1 then
    ((s.setTask t { r with upd := 0 }).clearBerth r.updBerth).ferryNotice 8 reason t r.berth r.updBerth 0 0
  else if r.upd = 2 then s.cancelMove t reason
  else s

/-- The overlap of a handover ends: the outgoing core stops and its berth is filled or tested; the posted writes that it has not
stored go (R255 to R258). -/
def State.finishMove (s : State) (t : Nat) (test : Bool) : State :=
  let r := s.task t
  match r.move with
  | none => s
  | some mv =>
    let s1 := s.setTask t { r with move := none, upd := if mv.kind == .update then 3 else 0 }
    let s2 := s1.modCore mv.src (fun k => { k with writes := [], reads := [] })
    let s3 := if test || mv.kind == .drill then s2.toTesting mv.src else s2.clearBerth mv.src
    let event := match mv.kind with
      | .home => 1
      | .update => 2
      | _ => 7
    let s4 := s3.ferryNotice event 0 t mv.src mv.dst (mv.handed.getD 0) 0
    if (s4.core mv.src).state == .testing then s4.assignShadow t else s4

/-- SCSR and the registers as a task starts (R172, R186). -/
def startRegs (rate entry : Nat) : CoreRegs := { clearRegs with rate := rate, pc := entry }

/-- A handover at the edge that starts the compute stage of a frame (R254, R258, R259). The task that has moved gets a new shadow,
and the room that its old one leaves is offered to the others (R237, R256). -/
def State.handover (s : State) (t frame : Nat) : State :=
  let r := s.task t
  match r.move with
  | none => s
  | some mv =>
    match mv.ctx with
    | none => s
    | some ctx =>
      let join := mv.kind == .join
      let d := s.core mv.dst
      let regs := match mv.kind with
        | .update => { startRegs s.rate d.image.entry with ferried := true }
        | _ => { ctx with pgflip := false, ferried := !join, rate := s.rate }
      let next := if join then 4 else 2
      let s1 := s.setCore mv.dst { emptyCore .active with
        task := t, image := d.image, mems := d.mems, ranges := d.ranges, regs := regs, frame := frame, next := next,
        wsetPrev := (s.core mv.src).wsetPrev }
      if join then
        let s2 := s1.setTask t { r with move := none, partner := some mv.dst, solo := false }
        let s3 := if mv.rejoin then s2.ferryNotice 6 0 t mv.src mv.dst frame 0 else s2
        s3.moveReply t frame
      else
        let s2 := s1.setTask t { r with berth := mv.dst, sh := .none, ctx := none, journal := [], applying := [],
                                        move := some { mv with handed := some frame },
                                        upd := if mv.kind == .update then 3 else r.upd }
        (((s2.moveMasks mv.src mv.dst).assignShadow t).assignAll).moveReply t frame

/-- The handovers of an edge: those whose outgoing core has issued FRAME after its mirror, at or after the frame asked for, with
no fault ferry in progress (R254). A follower starts after its mirror and not before the frame asked for (R259). A context that
is not used is captured again. -/
def State.handovers (s : State) (frame : Nat) : State :=
  all32.foldl (fun s t =>
    match (s.task t).move with
    | some mv =>
      if mv.handed.isSome then s
      else if mv.ctx.isSome && mv.mirrored && mv.notBefore ≤ frame && (mv.kind == .join || s.ferry.cur.isNone) then
        s.handover t frame
      else s.modTask t (fun r => { r with move := some { mv with ctx := none } })
    | none => s) s

/-! ## The fault ferry (R242 to R249) -/

/-- A queued or current ferry is given up (R246, R263): its task stops; inc is the incoming berth of the notice (R267). -/
def State.stopFerry (s : State) (j : FerryJob) (reason inc : Nat) : State :=
  let s1 := s.modTask j.task (fun r => r.atHome j.task)
  let s2 := if reason = 0 then s1.setFld F.SC_FSTAT_NOSPARE 1 else s1.setFld F.SC_FSTAT_ABORT 1
  let s3 := if j.faded then s2
    else if s.tt.frame = j.frame then { s2 with ferry := { s2.ferry with fades := s2.ferry.fades ++ [(j.frame + 1, j.slots)] } }
    else if s.tt.frame = j.frame + 1 then s2.fadeInto s.tt.frame j.slots
    else s2
  (s3.ferryNotice 3 reason j.task j.src inc 0 0).assignAll

/-- A ferry begins: its shadow berth is no longer available, and the shadows of other tasks there are assigned again (R235, R237,
R240). -/
def State.ferryTakes (s : State) (j : FerryJob) : State :=
  { s with ferry := { s.ferry with cur := some j } }.loseSpare (s.task j.task).shBerth j.task

/-- The next ferry of the queue: one that has resumed with its copy under way, or whose task still has a READY shadow (R242). -/
def State.nextFerryFrom : Nat → State → State
  | 0, s => s
  | n + 1, s =>
    match s.ferry.queue with
    | [] => { s with ferry := { s.ferry with cur := none } }
    | j :: rest =>
      let s1 := { s with ferry := { s.ferry with queue := rest, cur := none } }
      if j.resumed then { s1 with ferry := { s1.ferry with cur := some j } }
      else if (s.task j.task).sh == .ready then s1.ferryTakes j
      else State.nextFerryFrom n (s1.stopFerry j 0 j.src)

def State.nextFerry (s : State) : State := State.nextFerryFrom 33 s

/-- The ferry in progress changed. -/
def State.modCur (s : State) (f : FerryJob → FerryJob) : State :=
  { s with ferry := { s.ferry with cur := s.ferry.cur.map f } }

/-- What the copy of a ferry puts into the shadow berth: the memories and the image of the faulted berth with the state regions of
the shadow (R245). The shadows of other tasks there are assigned again. -/
def State.copyInto (s : State) (j : FerryJob) : State :=
  let r := s.task j.task
  let k := s.core j.src
  let im := k.image
  let mems := { k.mems with x := overlay k.mems.x r.shX im.xsbase im.xslen, y := overlay k.mems.y r.shY im.ysbase im.yslen }
  ((s.modCore r.shBerth (fun d => { d with task := j.task, image := im, mems := mems, ranges := k.ranges })).wrote
    (windowAddr r.shBerth) 0x100000).loseSpare r.shBerth j.task

/-- The task of a ferry runs on its shadow berth from the edge that starts the compute stage of a frame: ACTIVE, with the context
block and with its bit in the masks (R246, R249). Its first word waits for what it is given. -/
def State.resume (s : State) (j : FerryJob) (wait : Option CoreWait) : State :=
  let r := s.task j.task
  let dst := r.shBerth
  let d := s.core dst
  let new : Core := { emptyCore .active with
    task := j.task, image := d.image, mems := d.mems, ranges := d.ranges, frame := s.tt.frame, next := 2, wait := wait,
    regs := { r.ctx.getD clearRegs with pgflip := false, ferried := true, rate := s.rate }, wsetPrev := j.slots,
    merge := s.outSlots j.slots }
  let s1 := (s.setCore dst new).setTask j.task { r with berth := dst, sh := .none, ctx := none, shX := [], shY := [],
                                                        partner := none, solo := false }
  let s2 := s1.moveMasks j.src dst
  let s3 := if (s2.core j.task).state == .retired && s2.designated dst then
      s2.setReg F.SC_SPARE (setBf (s2.reg F.SC_SPARE) dst dst 0) else s2
  s3.assignShadow j.task

/-- A ferry is complete: its task has resumed with its copy made (R246, R267). -/
def State.ferried (s : State) (j : FerryJob) : State :=
  let dst := (s.task j.task).berth
  ((s.bump F.SC_FSTAT_FERRIES).ferryNotice 0 0 j.task j.src dst (s.core dst).frame
    (min 255 ((s.core dst).frame - j.frame))).nextFerry

/-- M of R246. -/
def State.ferryM (s : State) : Nat := frameCycles s.rate / 2

/-- A fault ferry is abandoned (R263): an uncorrectable error was met in its copy. A berth whose memory erred is tested, the
shadow berth is else filled again. A task that had resumed leaves the masks. -/
def State.ferryLost (s : State) (j : FerryJob) (cycle : Nat) : State :=
  let r := s.task j.task
  let dst := if j.resumed then r.berth else r.shBerth
  let s1 := if j.resumed then s.moveMasks dst j.src else s
  let s2 := if s1.anyBad (r.shadowWords (s.core j.src).image) then s1.toTesting dst else s1.clearBerth dst
  let s3 := ((s2.stopFerry j 1 dst).loseSpare dst 32).nextFerry
  if j.resumed then (s3.completeTo j.src 16).advance cycle else s3

/-- The current ferry's copy has ended at a cycle of the stage in progress, or met an uncorrectable error (R245, R246,
R263). The edge has resumed the tasks whose copies end by cycle M; a copy that ends later resumes its task at the next edge. -/
def State.copyDone (s : State) (j : FerryJob) (cycle : Nat) (error : Bool) : State :=
  let dst := if j.resumed then (s.task j.task).berth else (s.task j.task).shBerth
  let im := (s.core j.src).image
  if error || s.anyBad (plainWords im j.src) || (!j.resumed && s.anyBad ((s.task j.task).shadowWords im)) then s.ferryLost j cycle
  else if j.resumed then
    if cycle ≤ s.ferryM then
      (s.modCore dst (fun k => { k with wait := none, next := max 2 (cycle + 2) })).ferried j
    else s
  else if j.edge && s.tt.staged && cycle ≤ s.ferryM then s
  else (s.copyInto j).modCur (fun j => { j with copied := true })

/-- What a fault owes the deck and the ferry engine (R242 to R244): a patch for the frame in compute; where the core's
frame has passed, its slots stay invalid. -/
def State.addPatch (s : State) (p : Patch) : State :=
  if p.frame = s.tt.frame ∧ s.tt.staged then { s with ferry := { s.ferry with patches := s.ferry.patches ++ [p] } }
  else s.setFld F.SC_FSTAT_RCUT 1

/-! ## Faults (R194 to R197, R241, R261, R263) -/

/-- The class of a fault (R195, R196): 1 for a program-class fault. -/
def faultClass (r : TaskRec) (k cause : Nat) : Nat :=
  if cause ≤ 3 then 0
  else if 6 ≤ cause then 1
  else if r.faults.any (fun f => f < k && k ≤ f + 64) then 1 else 0

/-- The word at the program counter. -/
def State.fetch (s : State) (c : Nat) : W64 := lookD (s.core c).mems.prog 0 (s.core c).regs.pc

/-- What the bundle at the program counter does. -/
def State.bundleOf (s : State) (c : Nat) : Issue :=
  let k := s.core c
  issueBundle k.regs k.mems k.image.plen k.image.pglen (s.fetch c)

/-- The CODE of ECC_DATA for a place (R195). -/
def eccCode (e : Bool × Place) : Nat :=
  match e.2 with
  | .page _ => 3
  | _ => if e.1 then 2 else 1

/-- The uncorrectable word behind a fault: the program word, or the first word of the memory that the bundle loads (R195). -/
def State.faultWord (s : State) (c cause code : Nat) : Option Nat :=
  if cause = 2 then some (progAddr c (s.core c).regs.pc)
  else if cause = 3 then
    let l := ((s.bundleOf c).loads.filter (fun e => eccCode e == code)).map (fun e => dataAddr c e.1 e.2)
    match l.find? (fun a => s.markAt a == some .bad) with
    | some a => some a
    | none => l.head?
  else none

/-- A fault recorded (R194, R196, R487): SCc_FAULT, the uncorrectable word of its berth's bank, and the core frame of a WATCHDOG or OVERRUN of the task. -/
def State.recordFault (s : State) (c cause cls code : Nat) : State :=
  let k := s.core c
  let t := s.setReg (F.SCc_FAULT c)
    (flag true 31 ||| at32 cause 27 ||| at32 cls 26 ||| at32 k.task 21 ||| at32 code 13 ||| at32 (k.regs.pc % 8192) 0)
  let t := match s.faultWord c cause code with
    | some a => t.ueRecord a
    | none => t
  if cause = 4 ∨ cause = 5 then t.modTask k.task (fun r => { r with faults := k.frame :: r.faults }) else t

/-- A fault recorded and told (R194, R266). -/
def State.tellFault (s : State) (c cause cls code action : Nat) : State :=
  let k := s.core c
  (s.recordFault c cause cls code).faultNotice 0 cause cls c k.task code (k.regs.pc % 8192) action

/-- A fault of a task that runs on one core (R197, R241 to R244). A task without a ferry no longer runs. -/
def State.taskFault (s : State) (c cause code : Nat) : State :=
  let k := s.core c
  let t := k.task
  let r := s.task t
  let cls := faultClass r k.frame cause
  let ferry := cls == 0 && r.sh == .ready && r.berth == c
  let s1 := s.recordFault c cause cls code
  let s2 := if ferry then s1.modTask t (fun r => { r.unpaired t with journal := [] })
    else (s1.modTask t (fun r => r.atHome t)).dropJobs t
  let s3 := if cls = 0 then s2.toTesting c
    else s2.modCore c (fun k => { k with state := .halted, reads := [], wait := none })
  let s4 := s3.addPatch { task := t, berth := c, frame := k.frame, fade := !ferry, slots := k.wsetPrev }
  let job : FerryJob := { task := t, src := c, frame := k.frame, slots := k.wsetPrev, edge := false, copied := false,
                          resumed := false, faded := false }
  let s5 := if ferry then
      match s4.ferry.cur with
      | none => s4.ferryTakes job
      | some _ => { s4 with ferry := { s4.ferry with queue := s4.ferry.queue ++ [job] } }
    else if cls = 0 && k.image.prot then s4.setFld F.SC_FSTAT_NOSPARE 1
    else s4
  let s6 := s5.faultNotice 0 cause cls c t code (k.regs.pc % 8192) (if ferry then 0 else if cls = 0 then 1 else 2)
  let s7 := if s6.ferry.cur.isNone then s6.nextFerry else s6
  if ferry then s7 else s7.assignAll

/-- One member of a pair leaves it and is tested; the other runs solo (R261). -/
def State.leavePair (s : State) (c : Nat) : State :=
  let t := (s.core c).task
  let r := s.task t
  match r.partner with
  | none => s
  | some p =>
    let s1 := (s.toTesting c).modCore c (fun k => { k with writes := [] })
    if p = c then s1.setTask t { r with solo := true }
    else
      let s2 := s1.setTask t { r with berth := p, partner := some c, solo := true }
      { s2 with ferry := { s2.ferry with maskMoves := s2.ferry.maskMoves ++ [(c, p)] } }

/-- A fault stops the core in berth c (R194, R261, R263). In a handover the outgoing core's posted writes complete, and the
incoming core, before its first write, gives the task back. -/
def State.coreFault (s : State) (c cause code : Nat) : State :=
  let k := s.core c
  let t := k.task
  let r := s.task t
  let cls := faultClass r k.frame cause
  let paired := r.partner.isSome && !r.solo && (r.berth == c || r.partner == some c)
  if k.state != .active then s
  else if paired && cause ≤ 3 then
    let planned := r.move.any (fun m => m.handed.isNone && m.src == c)
    ((if planned then s.cancelMove t 1 else s).tellFault c cause 0 code 3).leavePair c
  else
    let s0 := if paired then (r.partner.map (fun p => s.clearBerth p)).getD s else s
    let s1 := if paired then s0.modTask t (fun r => r.unpaired t) else s0
    let lead := if paired then r.berth else c
    match (s1.task t).move with
    | none => s1.taskFault lead cause code
    | some mv =>
      if mv.handed.isNone then (s1.cancelMove t 1).taskFault lead cause code
      else if mv.src = c then ((s1.tellFault c cause cls code 6).drain c 0).finishMove t true
      else if mv.firstWrite.isNone then
        let s2 := (s1.tellFault c cause cls code 6).modTask t (fun r =>
          { r with berth := mv.src, move := none, upd := if mv.kind == .update then 0 else r.upd, sh := .none, ctx := none,
                   journal := [], applying := [] })
        let s3 := ((s2.moveMasks mv.dst mv.src).toTesting mv.dst).setFld F.SC_FSTAT_ABORT 1
        (s3.assignShadow t).ferryNotice 8 1 t mv.src mv.dst 0 0
      else (s1.finishMove t false).taskFault c cause code

/-- An SC phase is forced complete (R42). -/
def State.forcePhase (s : State) (p : Phase) (i : Nat) : State :=
  let late := (bitsOf p.arg 32).filter (fun c => (s.core c).state == .active && s.coreDone c ≤ p.barrier)
  let s1 := { s with tt := { s.tt with done := i :: s.tt.done } }
  let s2 := ((s1.setFld F.TT_STAT_FORCED 1).bump F.TT_STAT_FORCED_CNT).setFld F.TT_STAT_LAST_FORCED p.barrier
  late.foldl (fun t c => (t.setFld (F.SCc_STAT_LATE c) 1).coreFault c 5 p.barrier) s2

/-! ## Stops and rests -/

/-- A task stops on its berth without a fault (R198, R263); slots of its last stage are faded in a frame unless cut. -/
def State.stopTask (s : State) (t frame : Nat) (cut : Bool) : State :=
  let s0 := match (s.task t).move with
    | some mv => if mv.handed.isNone then s.cancelMove t 0 else s.finishMove t false
    | none => s
  let r := s0.task t
  let k := s0.core r.berth
  let s1 := if cut then s0 else s0.fadeInto frame k.wsetPrev
  let s2 := match r.partner with
    | some p => if r.solo then s1 else s1.clearBerth p
    | none => s1
  let s3 := s2.setTask t (r.atHome t)
  (if r.berth != t then s3.clearBerth r.berth
  else s3.modCore t (fun k => { k with state := .idle, reads := [], writes := [], wait := none })).assignAll

/-- A berth has come to rest in IDLE or STANDBY (R250, R252, R262): the hold of a member that may rejoin or of a task that is away
or being ferried starts, and tasks without a shadow berth are tried again. -/
def State.rested (s : State) (b : Nat) : State :=
  let hold := s.fld F.SC_FERRY_HOLD_HOLD * 40000000
  let s1 := all32.foldl (fun s t =>
    let r := s.task t
    if r.solo && r.partner == some b then s.setTask t { r with rejoin := some b, holdLeft := hold } else s) s
  let r := s1.task b
  let s2 := if (r.berth != b || s1.ferrying b) && !(r.solo && r.partner == some b) && (s1.core b).state == .idle then
      s1.setTask b { r with rvwait := true, holdLeft := hold } else s1
  s2.assignAll

end Sys2Proof.Machine
end

