-- ==== Sys2Proof/Machine/Zones.lean ====
section
/-! DEFINITION. Machine/Zones.lean: the zone table: words, claims, alarms, and the feed of each transmit channel (R338,
R347, R386 to R390). -/

namespace Sys2Proof.Machine

def State.zone (s : State) (n : Nat) : Zone := lookD s.net.zones noZone n
def State.setZone (s : State) (n : Nat) (z : Zone) : State :=
  { s with net := { s.net with zones := insD s.net.zones noZone n z } }

/-- PRIO of an entry (R387). -/
def Zone.prio (z : Zone) : Nat := if z.alarm then 255 else max z.cm0 z.cmo

/-- HOLDER of an entry (R387): M0 takes a tie. -/
def Zone.holder (z : Zone) : Nat :=
  if z.alarm then z.raiser else if z.cmo ≤ z.cm0 then 0 else z.owner

/-- The zone word (R338). -/
def Zone.word (z : Zone) : W32 :=
  flag z.valid 31 ||| flag z.alarm 30 ||| at32 z.owner 27 ||| at32 z.holder 24 ||| at32 z.prio 16 ||| at32 z.chan 0

/-- A function on every entry of a range. -/
def State.mapZones (s : State) (first last : Nat) (f : Zone → Zone) : State :=
  let l := s.net.zones.map (fun e => if first ≤ e.1 && e.1 ≤ last then (e.1, f e.2) else e)
  { s with net := { s.net with zones := l.filter (fun e => e.2 != noZone) } }

/-- BIND (R386). -/
def State.zoneBindTo (s : State) (n : Nat) (valid : Bool) (owner chan : Nat) : State :=
  let z := s.zone n
  s.setZone n
    (if valid then { z with valid := true, owner := owner, chan := chan, cmo := if owner = z.owner then z.cmo else 0 }
     else { z with valid := false, owner := owner, chan := chan, cm0 := 0, cmo := 0 })

/-- CLAIM and RELEASE (a priority of 0) of a mooring on the valid entries of a range (R387). -/
def State.claimZones (s : State) (m first last prio : Nat) : State :=
  s.mapZones first last (fun z =>
    if !z.valid then z
    else if m = 0 then { z with cm0 := prio }
    else if z.owner = m then { z with cmo := prio }
    else z)

/-- CMO of the entries of a mooring is cleared (R403); with OWNER 0 it is the one priority that CM0 names (R386). -/
def State.unclaim (s : State) (m : Nat) : State :=
  s.mapZones 0 8191 (fun z => if z.owner != m then z else if m = 0 then { z with cm0 := 0 } else { z with cmo := 0 })

/-- RAISE and CLEAR on a range (R390). -/
def State.alarmZones (s : State) (m first last : Nat) (on : Bool) : State :=
  s.mapZones first last (fun z =>
    if on then (if z.valid then { z with alarm := true, raiser := m } else z) else { z with alarm := false })

/-- The zone table is ready (R322). -/
def State.rdZONE (s : State) : Bool := s.unit F.SYS_READY_ZONE (1, 11)

/-- RAISE or CLEAR at its edge: while the zone table is not ready it is recorded (R390). -/
def State.alarmEdge (s : State) (a : PendAlarm) : State :=
  if s.rdZONE then s.alarmZones a.m.val a.first a.last a.on
  else { s with net := { s.net with pendAlarms := s.net.pendAlarms ++ [a] } }

/-- The alarms recorded early apply at the first stage edge after the zone table is ready (R390). -/
def State.alarmsReady (s : State) : State :=
  if s.rdZONE then
    let t := s.net.pendAlarms.foldl (fun t a => t.alarmZones a.m.val a.first a.last a.on)
      { s with net := { s.net with pendAlarms := [] } }
    t.release (fun w => w == .zoneReady)
  else s

/-- The valid entry that holds a transmit channel. -/
def State.zoneOfChan (s : State) (ch : Nat) : Option Zone :=
  (s.net.zones.find? (fun e => e.2.valid && e.2.chan == ch)).map (·.2)

/-- A feed whose slot is not OUT, or that is not valid, selects the channel's own binding (R388). -/
def State.slotFeed (s : State) (valid : Bool) (slot : Nat) : Feed :=
  if valid && s.kind slot == .out then .slot slot else .own

/-- The feed of a transmit channel (R388). -/
def State.feedOf (s : State) (ch : Nat) : Feed :=
  match s.zoneOfChan ch with
  | none => .own
  | some z =>
    if z.prio = 255 then
      let w := s.reg F.ZONE_AFEED
      if bit w 31 && bit w 30 then .gangway (bf w 5 0) else s.slotFeed (bit w 31) (bf w 13 0)
    else if z.prio = 0 then .own
    else s.slotFeed (s.on (F.ZONE_FEEDf_VALID (z.prio / 16))) (s.fld (F.ZONE_FEEDf_SLOT (z.prio / 16)))

/-- ZONE_STAT. -/
def State.zoneStat (s : State) : W32 :=
  let alarms := (s.net.zones.filter (fun e => e.2.alarm)).length
  let claimed := (s.net.zones.filter (fun e => 1 ≤ e.2.prio && e.2.prio ≤ 254)).length
  flag (0 < alarms) 31 ||| flag (!s.net.pendAlarms.isEmpty) 30 ||| at32 alarms 16 ||| at32 claimed 0

end Sys2Proof.Machine
end

