-- ==== Sys2Proof/Machine/Network.lean ====
section
/-! DEFINITION. Machine/Network.lean: links, stream contexts, receive and transmit, the time counter and the PTP servo
(R363 to R403). -/

namespace Sys2Proof.Machine

/-! ## Context records (R370 to R373) -/

def Ctx.w (c : Ctx) (i : Nat) : W32 := c.record.getD (i - 1) 0
def Ctx.tx (c : Ctx) : Bool := bit (c.w 1) 31
def Ctx.paths (c : Ctx) : Nat := bf (c.w 1) 30 29
def Ctx.enc (c : Ctx) : Nat := bf (c.w 1) 28 27
def Ctx.ptime (c : Ctx) : Nat := bf (c.w 1) 26 25
def Ctx.vlan (c : Ctx) : Bool := bit (c.w 1) 24
def Ctx.pt (c : Ctx) : Nat := bf (c.w 1) 14 8
def Ctx.count (c : Ctx) : Nat := bf (c.w 1) 5 0 + 1
def Ctx.agrp (c : Ctx) : Nat := bf (c.w 2) 31 28
def Ctx.lat (c : Ctx) : Nat := bf (c.w 2) 25 16
def Ctx.firstCh (c : Ctx) : Nat := bf (c.w 2) 9 0
def Ctx.dst (c : Ctx) (b : Bool) : W32 := if b then c.w 4 else c.w 3
def Ctx.dport (c : Ctx) : Nat := bf (c.w 5) 31 16
def Ctx.vid (c : Ctx) : Nat := bf (c.w 7) 31 20

/-- The fade lengths of a FADE code: 16, 64, 256 (R370, R409). -/
def fadeLen (code : Nat) : Nat := 2 ^ (4 + 2 * code)
def Ctx.fade (c : Ctx) : Nat := fadeLen (bf (c.w 2) 27 26)

/-- The context has a path on a port: bit 0 of PATHS is NETA's, bit 1 NETB's. -/
def Ctx.hasPath (c : Ctx) (b : Bool) : Bool := c.paths.testBit (if b then 1 else 0)

/-- The network channels of a context. -/
def Ctx.chans (c : Ctx) : List Nat := (List.range c.count).map (· + c.firstCh)

/-- Samples per packet (R371). -/
def spp (rate ptime : Nat) : Nat := [6, 12, 16, 48].getD ptime 48 * rateMul rate

/-- Bytes per sample (R372). -/
def encBytes (enc : Nat) : Nat := enc + 2

/-- Bytes of a packet's payload (R372). -/
def Ctx.bytes (c : Ctx) (rate : Nat) : Nat := spp rate c.ptime * c.count * encBytes c.enc

/-- A record breaks R372. -/
def recordRange (rate : Nat) (c : Ctx) : Bool :=
  let r := c.record
  r.length != 8 || c.paths == 0 || c.enc == 3 || bf (c.w 1) 7 6 != 0 || bf (c.w 2) 27 26 == 3 || bf (c.w 2) 15 10 != 0
  || bf (c.w 7) 19 16 != 0
  || 1440 < c.bytes rate
  || (if c.tx then c.lat != 0 else c.lat == 0)
  || (!c.hasPath false && c.w 3 != 0) || (!c.hasPath true && c.w 4 != 0)
  || c.dport == 0
  || (if c.vlan then c.vid == 0 || c.vid == 4095 else c.vid != 0)
  || capNet rate ≤ c.firstCh + c.count - 1
  || (!c.tx && (bf (c.w 5) 15 0 != 0 || bf (c.w 7) 15 0 != 0))
  || (c.tx && (let mcast := fun (w : W32) => bf w 31 28 == 14
      let uni := (c.hasPath false && !mcast (c.w 3)) || (c.hasPath true && !mcast (c.w 4))
      !uni && (bf (c.w 7) 15 0 != 0 || c.w 8 != 0)))

/-- The context as completed instructions leave it: what came after a STOP counts (R316). -/
def Ctx.settled (c : Ctx) : Option Ctx :=
  match c.follow with
  | none => some c
  | some f => f.record.map newCtx

/-- A context runs, with every completed instruction counted: one that is to stop does not, unless a START has followed. -/
def Ctx.runs (c : Ctx) : Bool :=
  c.run && ((c.stopReq.isNone && c.stop.isNone) || c.follow.any (fun f => f.start.isSome))

/-- The defined contexts, with every completed instruction counted. -/
def State.settledCtxs (s : State) : SMap Ctx := s.net.ctxs.filterMap (fun e => e.2.settled.map (fun c => (e.1, c)))

/-- A record clashes with another defined context (R373). -/
def State.recordClash (s : State) (n : Nat) (c : Ctx) : Bool :=
  s.settledCtxs.any (fun e => e.1 != n && (
    (e.2.tx == c.tx && e.2.chans.any (fun i => c.chans.contains i))
    || (!c.tx && !e.2.tx && e.2.dport == c.dport && e.2.vid == c.vid &&
        [false, true].any (fun b => c.hasPath b && e.2.hasPath b && c.dst b == e.2.dst b))
    || (!c.tx && !e.2.tx && c.agrp != 0 && e.2.agrp == c.agrp && e.2.lat != c.lat)))

def State.ctx (s : State) (n : Nat) : Option Ctx := look s.net.ctxs n
def State.setCtx (s : State) (n : Nat) (c : Ctx) : State := { s with net := { s.net with ctxs := ins s.net.ctxs n c } }

/-! ## Ports (R363 to R367) -/

/-- 0 for NETA, 1 for NETB. -/
def netIx (b : Bool) : Nat := if b then 1 else 0

/-- A port is up and enabled. -/
def State.netUp (s : State) (b : Bool) : Bool := s.on (F.NETx_STAT_LINK (netIx b)) && s.on (F.NETx_CTRL_EN (netIx b))

/-- The firmware runs. -/
def State.firmware (s : State) : Bool := s.ctl.run == .firmware

/-- A frame leaves on a port; under boundary scan it does not reach the balls (R565). -/
def State.sent (s : State) (b : Bool) (f : TxFrame) : State :=
  if !s.netUp b || s.tapHolds then s
  else if b then { s with net := { s.net with sentB := f :: s.net.sentB } }
  else { s with net := { s.net with sentA := f :: s.net.sentA } }

/-- The frames of the lowest precedence that wait on a port (R364). -/
def State.waiting (s : State) (b : Bool) : List TxFrame := if b then s.net.waitB else s.net.waitA
def State.setWaiting (s : State) (b : Bool) (l : List TxFrame) : State :=
  if b then { s with net := { s.net with waitB := l } } else { s with net := { s.net with waitA := l } }

/-- A transmit context sends no packet from index n on (R383). -/
def Ctx.ended (c : Ctx) (n : Nat) : Bool :=
  match c.stop with
  | some (x, cut) => if cut then x ≤ n else x + c.fade ≤ n
  | none => false

/-- The packet at a transmit context's next index is ready: its last period has ended (R381). -/
def State.ctxReady (s : State) (c : Ctx) : Bool :=
  c.run && c.tx && !c.ended c.next && c.next + spp s.rate c.ptime ≤ s.msi

/-- A stream packet is ready on a port: it goes before every other frame but PTP event messages (R364). -/
def State.streamReady (s : State) (b : Bool) : Bool :=
  s.net.ctxs.any (fun e => e.2.hasPath b && !e.2.gone.contains b && s.ctxReady e.2)

/-- A frame of the lowest precedence leaves, or waits behind the stream packets that are ready (R364). -/
def State.sentLast (s : State) (b : Bool) (f : TxFrame) : State :=
  if s.netUp b && (s.streamReady b || !(s.waiting b).isEmpty) then s.setWaiting b (s.waiting b ++ [f]) else s.sent b f

/-- The waiting frames of a port leave once no stream packet is ready; a port that is down drops them. -/
def State.sendWaiting (s : State) (b : Bool) : State :=
  if s.netUp b && s.streamReady b then s else (s.waiting b).foldl (fun t f => t.sent b f) (s.setWaiting b [])

/-- The tag of the firmware's frames on a port (R367). -/
def State.ownTag (s : State) (b : Bool) : Option (BitVec 3 × BitVec 12) :=
  let i := netIx b
  if s.on (F.NETx_CTRL_VLANEN i) then
    some (BitVec.ofNat 3 (s.fld (F.NETx_CTRL_PCP i)), BitVec.ofNat 12 (s.fld (F.NETx_CTRL_VID i)))
  else none

/-- A frame of the firmware that is no PTP event message. -/
def State.sentOwn (s : State) (b : Bool) (m : OwnMsg) : State := s.sentLast b (.own (s.ownTag b) m)

/-! ## Time (R391, R392) -/

/-- 2^-48 ns in a second. -/
def secUnits : Nat := 1000000000 * 2 ^ 48

/-- DCO_FREQ as a signed number of parts per trillion. -/
def State.freq (s : State) : Int := (s.reg F.DCO_FREQ).toInt

/-- What one D4 cycle adds to the counter, at its resolution (R391). -/
def tickUnits (f : Int) : Nat := ((5 * 2 ^ 47 * (1000000000000 + f)) / 1000000000000).toNat

/-- The media sample index of a counter value (R392). -/
def msiOf (rate t48 : Nat) : Nat := t48 * rateHz rate / secUnits

def State.seconds (s : State) : Nat := s.time.t48 / secUnits
def State.nanos (s : State) : Nat := s.time.t48 % secUnits / 2 ^ 48
/-- The 16-bit fractional nanoseconds. -/
def State.frac (s : State) : Nat := s.time.t48 % 2 ^ 48 / 2 ^ 32

/-- A context as the index steps from old to now (R403): a receive context that presents goes on; a transmit context restarts at the
next multiple of its samples per packet, where its fade goes on; one whose start is to come waits for it; a stop under way and
the times of the paths move with the index (log 155). -/
def Ctx.step (c : Ctx) (rate old now : Nat) : Ctx :=
  let move := fun (x : Nat) => x + now - old
  let n := spp rate c.ptime
  let begun := decide (c.first ≤ old)
  let next := ceilDiv (if begun then now else max now c.first) n * n
  let first := if c.tx then (if begun then next - min c.fade (old - c.first) else next) else if begun then 0 else c.first
  { c with first := first, stop := c.stop.map (fun x => (move x.1, x.2)), pathA := c.pathA.map move, pathB := c.pathB.map move,
           next := next, gone := [] }

/-- The times of input frames move with a step of the counter, so that the periods between them stay (log 157). -/
def State.moveStamps (s : State) (t48 : Nat) : State :=
  let move := fun (x : Nat) => x + t48 - s.time.t48
  let past := fun (l : List (Nat × SMap W24)) => l.map (fun e => (move e.1, e.2))
  { s with ports := { s.ports with
      groups := s.ports.groups.map (fun x => { x with at_ := x.at_.map move, past := past x.past }),
      aes := s.ports.aes.map (fun x => { x with starts := x.starts.map move, past := past x.past }),
      dplls := s.ports.dplls.map (fun e => (e.1, { e.2 with last := e.2.last.map move, pred := move e.2.pred })) } }

/-- The counter steps (R340, R397, R403). -/
def State.stepTo (s : State) (t48 : Nat) : State :=
  let ctxs := s.net.ctxs.map (fun e => if e.2.run then (e.1, e.2.step s.rate s.msi (msiOf s.rate t48)) else e)
  { s.moveStamps t48 with time := { s.time with t48 := t48 }, net := { s.net with ctxs := ctxs } }

/-- The counter steps to seconds, nanoseconds and a 16-bit fraction (R340). -/
def State.stepTime (s : State) (sec ns frac : Nat) : State := s.stepTo (sec * secUnits + ns * 2 ^ 48 + frac * 2 ^ 32)

/-! ## Receive (R375 to R380) -/

/-- A frame belongs to a running receive context (R375); fragments belong to none (R368). -/
def Ctx.takes (c : Ctx) (netB : Bool) (f : UdpIn) : Bool :=
  c.run && !c.tx && c.hasPath netB && f.dst == c.dst netB && f.dport.toNat == c.dport
  && (if c.vlan then f.vid.toNat == c.vid else f.vid == 0)
  && (c.w 6 == 0 || f.src == c.w 6) && !f.fragment

/-- The depth of the stream bank per channel (R376). -/
def bankDepth (rate : Nat) : Nat := 1024 * rateMul rate

/-- The address of the stream bank word of a receive channel at an index (R376). -/
def bankAddr (rate ch n : Nat) : Nat := 0x60000000 + 4 * (bankDepth rate * ch + n % bankDepth rate)

/-- A received sample as a port word (R374): from its bytes, the most significant first. -/
def sampleIn (enc : Nat) (b : List Byte) : W24 :=
  let x := fun i => b.getD i 0
  match enc with
  | 0 => (x 0 ++ x 1 : BitVec 16) ++ (0 : BitVec 8)
  | 1 => (x 0 ++ x 1 : BitVec 16) ++ x 2
  | _ => (x 1 ++ x 2 : BitVec 16) ++ x 3

/-- n0 of R376, less p. -/
def rtpOffset (ts ofs : W32) (p : Nat) : Int := (ts - ofs - BitVec.ofNat 32 p).toInt

/-- The sequence number lies above another (RFC 3550 arithmetic). -/
def seqAbove (a b : W16) : Bool := (0 : Int) < (a - b).toInt

/-- The record of an accepted packet's sequence number (R379, R380): the highest number and those of the 64 below it that have
arrived, and how many left the record without a packet. Numbers below the first one accepted are not counted (log 132). -/
def seqRecord (c : Ctx) (seq : W16) : Ctx :=
  match c.high with
  | none => { c with high := some seq, seen := [seq], floor := some seq }
  | some h =>
    if seqAbove seq h then
      let d := (seq - h).toNat
      let counts := fun (x : W16) => !c.seen.contains x && c.floor.all (fun f => !seqAbove f x)
      let left := (List.range d).filter (fun i => counts (h - 64 + BitVec.ofNat 16 i))
      let keep := c.seen.filter (fun x => (seq - x).toNat ≤ 64)
      { c with high := some seq, seen := seq :: keep, lost := min 65535 (c.lost + left.length),
               floor := c.floor.filter (fun f => (seq - f).toNat < 128) }
    else if (h - seq).toNat ≤ 64 then { c with seen := seq :: c.seen }
    else c

/-- The samples of a packet placed in the stream bank (R376), with whether some lay below and above the window; a bank in raw
mode or in a march takes none (R492, R494). -/
def State.placeSamples (s : State) (c : Ctx) (f : RtpIn) : State × Bool × Bool :=
  let n := spp s.rate c.ptime
  let eb := encBytes c.enc
  let b := bankDepth s.rate
  let d := rtpOffset f.ts (c.w 8) s.msi + c.lat
  (List.range n).foldl (fun acc (i : Nat) =>
    let x := d + (i : Int)
    if x < 1 then (acc.1, true, acc.2.2)
    else if (b : Int) - 1 < x then (acc.1, acc.2.1, true)
    else if s.rawBank 6 || s.marching 6 then acc
    else
      let at_ := s.msi + x.toNat
      let bank := (List.range c.count).foldl (fun m (j : Nat) =>
        ins m (bankAddr s.rate (c.firstCh + j) at_)
          (at_, sampleIn c.enc ((f.payload.drop ((i * c.count + j) * eb)).take eb))) acc.1.net.bank
      let held := c.chans.foldl (fun m ch => del m (bankAddr s.rate ch at_)) acc.1.ecc.held
      let t := { acc.1 with net := { acc.1.net with bank := bank }, ecc := { acc.1.ecc with held := held } }
      (c.chans.foldl (fun t ch => t.wrote (bankAddr s.rate ch at_) 4) t, acc.2)) (s, false, false)

/-- A valid packet of a context (R376 to R380). -/
def State.acceptPacket (s : State) (n : Nat) (c : Ctx) (f : RtpIn) : State :=
  let c1 := if f.netB then { c with pathB := some s.msi } else { c with pathA := some s.msi }
  if c.paths = 3 && c.high.isSome && c.seen.contains f.seq then s.setCtx n c1
  else
    let p := (s.setCtx n (seqRecord c1 f.seq)).placeSamples c f
    let t := p.1.bump (F.STRMn_PKT_PKTS n)
    let t := if p.2.1 then t.bump F.STRM_ERR_LATE else t
    if p.2.2 then t.bump F.STRM_ERR_EARLY else t

/-- A frame that belongs to a context (R375). -/
def State.rtpIn (s : State) (n : Nat) (c : Ctx) (f : RtpIn) : State :=
  if !f.good || f.pt.toNat != c.pt || f.payload.length != c.bytes s.rate then
    (s.bump (F.STRMn_PKT_DROP n)).bump F.STRM_ERR_BADPKT
  else s.acceptPacket n c f

/-- The running receive context of a network channel. -/
def State.rxCtx (s : State) (ch : Nat) : Option (Nat × Ctx) :=
  s.net.ctxs.find? (fun e => e.2.run && !e.2.tx && e.2.chans.contains ch)

/-- What the stream bank holds for a network channel at an index. -/
def State.bankWord (s : State) (ch n : Nat) : Option W24 :=
  match look s.net.bank (bankAddr s.rate ch n) with
  | some (i, w) => if i = n then some w else none
  | none => none

/-- The words of the stream bank that running receive channels are to present in period n are read: a single-bit error is
corrected; an uncorrectable word counts as not delivered, and is rewritten as 0 (R486, R487). -/
def State.streamScan (s : State) (n : Nat) : State :=
  if s.marks.isEmpty then s
  else (s.net.ctxs.filter (fun e => e.2.run && !e.2.tx)).foldl (fun t e =>
    e.2.chans.foldl (fun t ch =>
      let a := bankAddr t.rate ch n
      match t.markAt a with
      | none => t
      | some .single => (t.setMark a none).ceRecord a
      | some .bad =>
        (({ t.setMark a none with net := { t.net with bank := del t.net.bank a } }).ueRecord a).eccNotice 6 0 2 a 0) t) s

/-- The words that the stream bank presents in period n, by input channel (R376). -/
def State.netWords (s : State) (n : Nat) : SMap W24 :=
  (s.net.ctxs.filter (fun e => e.2.run && !e.2.tx)).foldl (fun m e =>
    e.2.chans.foldl (fun m ch => match s.bankWord ch n with
      | some w => ins m (8192 + ch) w
      | none => m) m) []

/-- A path has delivered within the last two packet times (R380). -/
def State.pathLive (s : State) (c : Ctx) (b : Bool) : Bool :=
  if c.tx then c.run && c.hasPath b && s.netUp b && c.first ≤ s.msi
  else match (if b then c.pathB else c.pathA) with
    | some p => s.msi ≤ p + 2 * spp s.rate c.ptime
    | none => false

/-! ## Transmit (R381 to R383) -/

/-- A port word as its bytes on the network (R374): first marks the first subframe of an AM824 pair. The places of B, F, P, C,
U and V in the AM824 label are those of the published standards (log 28). -/
def sampleOut (enc n : Nat) (first : Bool) (w : W24) : List Byte :=
  let hi := w.extractLsb' 16 8
  let mid := w.extractLsb' 8 8
  let lo := w.extractLsb' 0 8
  match enc with
  | 0 =>
    let v := BitVec.ofInt 16 (satS 16 (asrI (w.toInt + 0x80) 8))
    [v.extractLsb' 8 8, v.extractLsb' 0 8]
  | 1 => [hi, mid, lo]
  | _ =>
    let f := n % 192
    let blk : List Byte := 1 :: (List.replicate 22 0 ++ [0x32])
    let cbit := ((blk.getD (f / 8) 0).toNat >>> (f % 8)) % 2
    let ones := (bitsOf w 24).length + cbit
    let label : Byte := BitVec.ofNat 8 ((if f = 0 && first then 0x20 else 0) + (if first then 0x10 else 0) + cbit * 4 + (ones % 2) * 8)
    [label, hi, mid, lo]

/-- The weight of a transmit context's fade at an index: it rises from its first index and falls from its stop (R383). -/
def Ctx.weightAt (c : Ctx) (n : Nat) : Nat :=
  let l := c.fade
  let up := min l (n + 1 - c.first)
  match c.stop with
  | some (x, cut) => if n < x then up else if cut then 0 else min up (l - 1 - (n - x))
  | none => up

/-- The word of a transmit channel at an index of the last 400 periods. -/
def State.txWord (s : State) (ch n : Nat) : W24 :=
  if n ≤ s.msi then (lookD s.net.txWords [] ch).getD (s.msi - n) 0 else 0

/-- The payload of the packet that starts at index n (R374, R381, R383). -/
def State.payloadAt (s : State) (c : Ctx) (n : Nat) : List Byte :=
  (List.range (spp s.rate c.ptime)).flatMap (fun i => c.chans.flatMap (fun ch =>
    let w := s.txWord ch (n + i)
    sampleOut c.enc (n + i) ((ch - c.firstCh) % 2 == 0) (BitVec.ofInt 24 (w.toInt * c.weightAt (n + i) / c.fade))))

/-- IGMP version in which a port speaks: that of the oldest querier still taken as present (R368, log 130). -/
def State.igmpMode (s : State) (b : Bool) : IgmpVersion :=
  let present := fun (k : Nat) => s.time.t48 < lookD s.net.queriers 0 (4 * netIx b + k)
  if present 1 then .v1 else if present 2 then .v2 else .v3

/-- IGMP membership of a receive context reported, or left, on a path (R369); IGMPv1 has no leave. -/
def State.igmpOn (s : State) (c : Ctx) (b leave : Bool) : State :=
  if !s.firmware || !c.hasPath b || (leave && s.igmpMode b == .v1) then s
  else s.sentOwn b (.igmp (s.igmpMode b) (c.dst b) (c.w 6) leave)

/-- The reports of a context on its paths. -/
def State.igmp (s : State) (c : Ctx) : State := (s.igmpOn c false false).igmpOn c true false

/-- No other running receive context uses the group and source of a context's path (R369). -/
def State.lastMember (s : State) (n : Nat) (c : Ctx) (b : Bool) : Bool :=
  !s.net.ctxs.any (fun e => e.1 != n && e.2.run && !e.2.tx && e.2.w 6 == c.w 6 && e.2.hasPath b && e.2.dst b == c.dst b)

/-- The leaves of a receive context that has stopped. -/
def State.igmpLeave (s : State) (n : Nat) (c : Ctx) : State :=
  [false, true].foldl (fun t b => if t.lastMember n c b then t.igmpOn c b true else t) s

/-- A context starts with frame k: a receive context reports its membership and its channels fade in; a transmit context
sends from the first multiple of its samples per packet (R383). -/
def State.startCtx (s : State) (n k : Nat) : State :=
  match s.ctx n with
  | none => s
  | some c =>
    let p := spp s.rate c.ptime
    let at_ := max (16 * k) s.msi
    let next := ceilDiv at_ p * p
    let c1 := { newCtx c.record with run := true, under := c.under, lost := c.lost, first := if c.tx then next else at_, next := next }
    if c.tx then s.setCtx n c1
    else
      let fades := c.chans.foldl (fun m i => ins m (8192 + i) { a := 0, h := 0, dry := false }) s.ports.fades
      ({ s with ports := { s.ports with fades := fades } }.setCtx n { c1 with reports := 1 }).igmp c

/-- A context that has stopped takes up what followed its STOP (log 129). -/
def State.ctxFollow (s : State) (n : Nat) : State :=
  match s.ctx n with
  | none => s
  | some c =>
    match c.follow with
    | none => s
    | some f =>
      match f.record with
      | none => { s with net := { s.net with ctxs := del s.net.ctxs n } }
      | some r =>
        let t := s.setCtx n { newCtx r with under := c.under, lost := c.lost }
        match f.start with
        | some k => t.startCtx n k
        | none => t

/-- A context stops: a receive context leaves its groups, and what followed its STOP applies. -/
def State.endCtx (s : State) (n : Nat) (c : Ctx) : State :=
  let t := s.setCtx n { c with run := false, stop := none, reports := 0 }
  (if c.tx then t else t.igmpLeave n c).ctxFollow n

/-- The context after the packet at its next index has left or was discarded (R364, R381, R383). -/
def State.afterPacket (s : State) (n : Nat) (c : Ctx) : State :=
  let m := c.next + spp s.rate c.ptime
  if c.ended m then s.endCtx n { c with next := m, gone := [] } else s.setCtx n { c with next := m, gone := [] }

/-- The MAC address of a port. -/
def State.macOf (s : State) (b : Bool) : BitVec 48 :=
  BitVec.ofNat 48 (s.fld (F.NETx_MACHI_MACHI (netIx b)) * 2 ^ 32 + (s.reg (F.NETx_MACLO (netIx b))).toNat)

/-- The MAC address of a transmit path's destination (R370): for a group that of RFC 1112. -/
def Ctx.macDst (c : Ctx) (b : Bool) : BitVec 48 :=
  if bf (c.dst b) 31 28 = 14 then BitVec.ofNat 48 (0x01005E000000 + bf (c.dst b) 22 0)
  else BitVec.ofNat 48 (bf (c.w 7) 15 0 * 2 ^ 32 + (c.w 8).toNat)

/-- The headers of a context's packets on a path (R368, R370, R382). -/
def State.rtpHdr (s : State) (c : Ctx) (b : Bool) : RtpHdr :=
  { macSrc := s.macOf b, macDst := c.macDst b,
    tag := if c.vlan then some (BitVec.ofNat 3 (bf (c.w 1) 23 21), BitVec.ofNat 12 c.vid) else none,
    src := s.reg (F.NETx_IP (netIx b)), dst := c.dst b, dscp := BitVec.ofNat 6 (bf (c.w 1) 20 15),
    ttl := BitVec.ofNat 8 (s.fld (F.NETx_CTRL_TTL (netIx b))),
    sport := BitVec.ofNat 16 (bf (c.w 5) 15 0), dport := BitVec.ofNat 16 c.dport }

/-- The ports of a context's paths (true for NETB) on which the packet at its next index has yet to leave (R364, R382). -/
def Ctx.unsent (c : Ctx) : List Bool := [false, true].filter (fun b => c.hasPath b && !c.gone.contains b)

/-- The packet at a context's next index begins to leave on the ports given (R381, R382); it counts once (log 171). -/
def State.sendPacket (s : State) (n : Nat) (c : Ctx) (ports : List Bool) : State :=
  let seq := BitVec.ofNat 16 (c.next / spp s.rate c.ptime)
  let body := s.payloadAt c c.next
  let t := ports.foldl (fun t b =>
    t.sent b (.rtp n (t.rtpHdr c b) (BitVec.ofNat 7 c.pt) seq (BitVec.ofNat 32 c.next) (c.w 6) body)) s
  let t := if c.gone.isEmpty then t.bump (F.STRMn_PKT_PKTS n) else t
  let c1 := { c with gone := c.gone ++ ports }
  if c1.unsent.isEmpty then t.afterPacket n c1 else t.setCtx n c1

/-! ## Servo (R395 to R401) -/

def svOff : Nat := 0
def svFree : Nat := 1
def svAcq : Nat := 2
def svLock : Nat := 3
def svHold : Nat := 4

/-- The PTPSTATE notice (R401). -/
def State.ptpNotice (s : State) (source old new : Nat) : State :=
  let gm := s.time.gm.getD 0
  s.notice nPTPSTATE [at32 source 28 ||| at32 old 8 ||| at32 new 0, hi32 gm.toNat, lo32 gm.toNat]

/-- The portState of a port. -/
def portFld (b : Bool) : Fld := if b then F.TIME_STAT_PSTB else F.TIME_STAT_PSTA

/-- A port changes state (R401). -/
def State.setPort (s : State) (b : Bool) (st : Nat) : State :=
  let old := s.fld (portFld b)
  if old = st then s else (s.setFld (portFld b) st).ptpNotice (netIx b) old st

/-- The servo enters a state (R396, R401). -/
def State.setServo (s : State) (st : Nat) : State :=
  let old := s.fld F.TIME_STAT_SERVO
  if old = st then s
  else
    let t := s.setFld F.TIME_STAT_SERVO st
    let t := if st = svHold then t.setReg F.DCO_HOLD (t.reg F.DCO_FREQ) else t
    let t := if st = svLock then t.setFld F.TIME_STAT_STEPOK 0 else t
    let t := { t with time := { t.time with below := 0, above := 0 } }
    let t := if st = svAcq ∧ old ≠ svLock then { t with time := { t.time with steered := t.time.t48, err := 0 } } else t
    let t := if st = svLock ∧ t.pd 5 = 0 ∧ (t.on F.SYS_READY_NETA ∨ t.on F.SYS_READY_NETB) then t.setReady [F.SYS_READY_PTPLOCK]
      else t.setFld F.SYS_READY_PTPLOCK 0
    t.ptpNotice 15 old st

/-- A port is UNCALIBRATED or SLAVE. -/
def State.hasMaster (s : State) : Bool :=
  [false, true].any (fun b => let p := s.fld (portFld b); p == 8 || p == 9)

/-- What the loss or change of the selected master does to the servo (R396); a new grandmaster brings no step (R403). -/
def State.masterChange (s : State) (gm : Option W64) : State :=
  let old := s.time.gm
  let t := { s with time := { s.time with gm := gm } }
  let t := t.setReg F.TIME_GMHI (hi32 (gm.getD 0).toNat)
  let t := t.setReg F.TIME_GMLO (lo32 (gm.getD 0).toNat)
  let st := s.fld F.TIME_STAT_SERVO
  if (st = svAcq ∨ st = svLock) ∧ gm ≠ old then
    { t with time := { t.time with first := t.time.first && gm.isNone } }.setServo svHold
  else if gm.isSome ∧ st = svFree then t.setServo svAcq
  else t

/-- An input other than PTP is selected (R398). -/
def State.otherSteers (s : State) : Bool :=
  s.rsel.sel != 0 && s.rsel.sel != 15

/-- PTP is selected: the servo writes the DCO; with no input selected nothing does (R398, chapter 12). -/
def State.ptpSteers (s : State) : Bool :=
  (s.fld F.RSEL_STAT_STATE == 1 || s.fld F.RSEL_STAT_STATE == 2) && s.fld F.RSEL_STAT_SEL == 0

/-- A frequency word, saturated (R397). -/
def State.setFreq (s : State) (f : Int) : State :=
  let c := clampI (-2147483647) 2147483647 f
  (s.setReg F.DCO_FREQ (BitVec.ofInt 32 c)).mark F.DCO_STAT_SAT (c != f)

/-- A proportional-integral loop of damping 0.707 (R466, log 91): what its frequency word moves by, in ppt, at a bandwidth in mHz and
a phase error in 2^-16 ns, with the error before and the time between in 2^-48 ns. The error goes by 4.316952 times and the square
root of 9.320853 times the bandwidth. -/
def loopStep (bw : Nat) (e prev : Int) (dt : Nat) : Int :=
  -(roundDiv (4316952 * bw * (e - prev)) (10 ^ 6 * 2 ^ 16)
    + roundDiv (9320853 * bw ^ 2 * dt * e) (10 ^ 9 * 2 ^ 16 * secUnits))

/-- The loop writes its frequency word: with STEPOK at 0 it moves by at most 0.5 ppm per second (R397). -/
def State.steer (s : State) (f : Int) : State :=
  let dt := s.time.t48 - s.time.steered
  let m : Int := 500000 * dt / secUnits
  let g := if s.on F.TIME_STAT_STEPOK then f else clampI (s.freq - m) (s.freq + m) f
  s.setFreq g

/-- The exchanges of a port. -/
def State.ptpPort (s : State) (b : Bool) : PtpPort := if b then s.time.portB else s.time.portA
def State.modPtp (s : State) (b : Bool) (f : PtpPort → PtpPort) : State :=
  if b then { s with time := { s.time with portB := f s.time.portB } } else { s with time := { s.time with portA := f s.time.portA } }

/-- The counter as PTP sets it: seconds bits [63:48] are not part of it (R391). -/
def ptpModulus : Nat := 2 ^ 48 * secUnits

/-- The counter d4 D4 cycles into the period. -/
def State.countTo (s : State) (d4 : Nat) : Nat := s.time.t48 + d4 * tickUnits s.freq

/-- A raw time-stamp d4 D4 cycles into the period, in 2^-16 ns (R393). -/
def State.rawStamp (s : State) (d4 : Nat) : Nat := s.countTo d4 % ptpModulus / 2 ^ 32

/-- Egress and ingress time-stamps, corrected (R393). -/
def State.egress (s : State) (b : Bool) (d4 : Nat) : Int := s.rawStamp d4 + (s.reg (F.NETx_TXLAT (netIx b))).toNat
def State.ingress (s : State) (b : Bool) (d4 : Nat) : Int := s.rawStamp d4 - (s.reg (F.NETx_RXLAT (netIx b))).toNat

/-- delayAsymmetry of a port (R393): IEEE 1588-2019 adds it to the corrections of Sync and Pdelay_Resp received, and takes it
from those of Delay_Req and Pdelay_Req sent. -/
def State.asym (s : State) (b : Bool) : Int := (s.reg (F.NETx_ASYM (netIx b))).toInt

/-- Whole nanoseconds of 2^-16 ns (log 133). -/
def wholeNs (x : Int) : Int := asrI x 16

/-- A delay measured on a port: the mean path delay, or with profile 3 the mean link delay, of two differences (R393). -/
def State.ptpDelay (s : State) (b : Bool) (x : Int) : State :=
  let d := asrI x 1
  let t := s.modPtp b (fun p => { p with delay := d })
  let st := s.fld (portFld b)
  if st = 8 ∨ st = 9 then t.setReg F.TIME_MPD (BitVec.ofInt 32 (wholeNs d)) else t

/-- The loop's last Sync was now, with an offset in 2^-16 ns. -/
def State.loopAt (s : State) (e : Int) : State := { s with time := { s.time with steered := s.time.t48, err := e } }

/-- The frequency word that the loop asks for at an offset (R397, R466). -/
def State.servoWord (s : State) (offset : Int) : Int :=
  s.freq + loopStep (s.fld (F.RSEL_INn_BW_BW 0)) offset s.time.err (s.time.t48 - s.time.steered)

/-- The counter steps to the master's time (R397): the offset, in 2^-16 ns, goes. -/
def State.servoStep (s : State) (offset : Int) : State :=
  let low := s.time.t48 % ptpModulus
  let t := (s.stepTo (s.time.t48 - low + ((low - offset * 2 ^ 32) % (ptpModulus : Int)).toNat)).setFld F.TIME_STAT_STEPPED 1
  t.loopAt 0

/-- 1 us and 10 us in 2^-16 ns. -/
def nearUnits : Nat := 65536000
def farUnits : Nat := 655360000

/-- The servo judges an offset of a size, in 2^-16 ns: 16 Sync messages below 1 us lock it, 4 above 10 us unlock it (R396). -/
def State.servoJudge (s : State) (mag : Nat) : State :=
  let st := s.fld F.TIME_STAT_SERVO
  let below := if mag < nearUnits then s.time.below + 1 else 0
  let above := if farUnits < mag then s.time.above + 1 else 0
  let t := { s with time := { s.time with below := below, above := above } }
  if st = svAcq ∧ 16 ≤ below then t.setServo svLock
  else if st = svLock ∧ 4 ≤ above then t.setServo svAcq
  else t

/-- The first offset of ACQUIRING with STEPOK set, where it is above 10 us, steps the counter unless another input steers; any
other is judged, and steers the DCO where PTP is selected (R397, R398). -/
def State.servoUse (s : State) (offset : Int) : State :=
  let step := s.fld F.TIME_STAT_SERVO == svAcq && s.on F.TIME_STAT_STEPOK && s.time.first && decide (farUnits < offset.natAbs)
  let t := { s with time := { s.time with first := false } }
  if step then (if t.otherSteers then t else t.servoStep offset)
  else ((if t.ptpSteers then t.steer (t.servoWord offset) else t).loopAt offset).servoJudge offset.natAbs

/-- A Sync with its offset from the master, in 2^-16 ns (R396, R397). -/
def State.servoSync (s : State) (offset : Int) : State :=
  let t := s.setReg F.TIME_OFS (BitVec.ofInt 32 (satS 32 (wholeNs offset)))
  let st := t.fld F.TIME_STAT_SERVO
  if st = svOff ∨ t.time.gm = none then t
  else (if st = svHold ∨ st = svFree then t.setServo svAcq else t).servoUse offset

/-- A Sync is complete: from its ingress, the master's origin time and the corrections of its messages, in 2^-16 ns. An UNCALIBRATED
port is SLAVE once the servo is LOCKED (log 131). -/
def State.syncDone (s : State) (b : Bool) (t2 : Int) (t1 : Nat) (corr : Int) : State :=
  let diff : Int := t2 - t1 - (corr + s.asym b)
  let t := (s.modPtp b (fun p => { p with down := some diff, open_ := none })).servoSync (diff - (s.ptpPort b).delay)
  if t.fld (portFld b) = 8 ∧ t.fld F.TIME_STAT_SERVO = svLock then t.setPort b 9 else t

/-! ## Best master clock (R395, log 131) -/

/-- A port that PTP uses: the mask of PTPCFG names it (R341). -/
def State.ptpPorts (s : State) (b : Bool) : Bool := (s.fld F.TIME_CFG_PORTS).testBit (netIx b)

/-- The clockIdentity of the engine: the EUI-64 of NETA's MAC address. -/
def State.ownClock (s : State) : W64 :=
  let m := s.macOf false
  m.extractLsb' 24 24 ++ (0xFFFE : BitVec 16) ++ m.extractLsb' 0 24

/-- The engine as a master: the priorities of PTPCFG, and the clock quality of a clock that no reference disciplines. -/
def State.ownData (s : State) : Announce :=
  { gm := s.ownClock, prio1 := BitVec.ofNat 8 (bf s.time.prio 7 0), quality := 0xF8FEFFFF,
    prio2 := BitVec.ofNat 8 (bf s.time.prio 15 8), steps := 0, sender := s.ownClock ++ (0 : BitVec 16) }

/-- A grandmaster's place in the order: priority1, class, accuracy, variance, priority2, identity; the lowest is best. -/
def gmRank (d : Announce) : Nat :=
  d.prio1.toNat * 2 ^ 104 + d.quality.toNat * 2 ^ 72 + d.prio2.toNat * 2 ^ 64 + d.gm.toNat

/-- A data set is better than another: of one grandmaster the nearer, then the lower sender. -/
def gmBetter (d e : Announce) : Bool :=
  if d.gm = e.gm then d.steps.toNat < e.steps.toNat || (d.steps == e.steps && d.sender.toNat < e.sender.toNat)
  else gmRank d < gmRank e

/-- A better data set is better by topology than one that a port has received. -/
def gmNearer (d e : Announce) (receiver : BitVec 80) : Bool :=
  d.gm == e.gm && (d.steps == e.steps || (d.steps.toNat + 1 == e.steps.toNat && e.sender.toNat < receiver.toNat))

/-- A port that is up and used. -/
def State.ptpUp (s : State) (b : Bool) : Bool := s.netUp b && s.ptpPorts b

/-- The best Announce that a used port has heard. -/
def State.heardOn (s : State) (b : Bool) : Option Announce := if s.ptpUp b then (s.ptpPort b).heard else none

/-- The port of the best master heard, and its data set. -/
def State.bestMaster (s : State) : Option (Bool × Announce) :=
  match s.heardOn false, s.heardOn true with
  | some d, some e => if gmBetter e d then some (true, e) else some (false, d)
  | some d, none => some (false, d)
  | none, some e => some (true, e)
  | none, none => none

/-- The portState that the algorithm gives a port: role 0 never becomes master, and the others do where they beat every master
heard; a port whose master is selected is UNCALIBRATED first. -/
def State.portRole (s : State) (b : Bool) : Nat :=
  let st := s.fld (portFld b)
  let slaveOnly := s.fld F.TIME_CFG_ROLE == 0
  let master := if slaveOnly || (st == 4 && (s.heardOn b).isNone) then 4 else 6
  match s.bestMaster with
  | none => master
  | some (p, d) =>
    if !slaveOnly && gmBetter s.ownData d then master
    else if p = b then (if st = 9 then 9 else 8)
    else match s.heardOn b with
      | some e => if !slaveOnly && gmNearer d e (s.ownClock ++ BitVec.ofNat 16 (netIx b + 1)) then 7 else master
      | none => master

/-- The algorithm runs: the states of the ports, and the selected master. -/
def State.bmca (s : State) : State :=
  let one := fun (t : State) (b : Bool) => if s.ptpUp b && 4 ≤ s.fld (portFld b) then t.setPort b (s.portRole b) else t
  let t := one (one s false) true
  match s.bestMaster with
  | some (p, d) =>
    if t.fld (portFld p) = 8 ∨ t.fld (portFld p) = 9 then t.masterChange (some d.gm)
    else if t.time.gm.isSome then t.masterChange none
    else t
  | none => if t.time.gm.isSome then t.masterChange none else t

/-- An Announce on a port: it replaces what its sender said before, and what is worse. A new master of a SLAVE port makes it
UNCALIBRATED. -/
def State.announce (s : State) (b : Bool) (d : Announce) : State :=
  let heard := (s.ptpPort b).heard
  if 255 ≤ d.steps.toNat || d.sender.extractLsb' 16 64 == s.ownClock then s
  else if heard.any (fun e => e.sender != d.sender && !gmBetter d e) then s
  else
    let t := (s.modPtp b (fun p => { p with heard := some d })).bmca
    if t.fld (portFld b) = 9 ∧ heard.all (fun e => e.sender != d.sender) then t.setPort b 8 else t

/-- The LINK notice (R365). -/
def State.linkNotice (s : State) (b up : Bool) (speed : Nat) : State :=
  s.notice nLINK [at32 (netIx b) 28 ||| flag up 3 ||| at32 speed 0, lo32 s.tt.frame]

/-- A port's link state and speed (R365, R367, R395). -/
def State.linkChange (s : State) (b : Bool) (speed : Nat) : State :=
  let i := netIx b
  let up := speed != 0
  if s.on (F.NETx_STAT_LINK i) = up ∧ s.fld (F.NETx_STAT_SPEED i) = speed then s
  else
    let was := s.on (F.NETx_STAT_LINK i)
    let t := (s.setFld (F.NETx_STAT_LINK i) (if up then 1 else 0)).setFld (F.NETx_STAT_SPEED i) speed
    let t := t.linkNotice b up speed
    let t := if up = was then t
      else if up then (if t.fld (portFld b) ≤ 2 then t.setPort b 4 else t)
      else ((t.setWaiting b []).modPtp b (fun _ => idlePtp)).setPort b 2
    let t := if up then t else t.bmca
    if up && !was && t.firmware && t.reg (F.NETx_IP i) != 0 then t.sentOwn b (.arp (t.reg (F.NETx_IP i))) else t

/-! ## Status words -/

/-- HOLDOVER of a running context (R399). -/
def State.ctxHold (s : State) (c : Ctx) : Bool := c.run && s.fld F.TIME_STAT_SERVO != svLock

/-- A channel of a receive context is dry in this period. -/
def State.ctxDry (s : State) (c : Ctx) : Bool :=
  c.run && !c.tx && c.chans.any (fun i => match look s.ports.fades (8192 + i) with
    | some f => f.dry
    | none => false)

/-- STRMn_STAT. -/
def State.strmStat (s : State) (n : Nat) : W32 :=
  let ovr := flag (s.on (F.STRMn_STAT_OVERSZ n)) 26
  match s.ctx n with
  | none => ovr
  | some c =>
    flag c.run 31 ||| flag (s.ctxHold c) 30 ||| flag (c.run && s.pathLive c false) 29
      ||| flag (c.run && s.pathLive c true) 28 ||| flag (s.ctxDry c) 27 ||| ovr

/-- The network after its resets (R404). -/
def State.netReset (s : State) : State := { s with net := idleNet, time := idleTime }

end Sys2Proof.Machine
end

