-- ==== Sys2Proof/Machine/Limiter.lean ====
section
/-! DEFINITION. Machine/Limiter.lean: final limiters and output channels: settings, gain, lookahead changes, and the words
of a slot path (R53 to R56, R389, R409). -/

namespace Sys2Proof.Machine

/-! ## Settings (R53, R54) -/

/-- T of R54: round(2^24 x 10^(-THR/200)), the largest t with (2t - 1)^200 x 10^THR at most 2^5000. -/
def limT (thr : Nat) : Nat :=
  (List.range 25).foldl (fun t i =>
    let u := t + 2 ^ (24 - i)
    if (2 * u - 1) ^ 200 * 10 ^ thr ≤ 2 ^ 5000 then u else t) 0

/-- The terms x^k / k! of the exponential series, alternating, in 2^-128. -/
def expTerms : Nat → Nat → Int → Int → Int
  | 0, _, _, _ => 0
  | n + 1, k, x, t => t + expTerms n (k + 1) x (-(t * x / (2 ^ 128 * (k + 1 : Nat) : Int)))

/-- The release coefficient c of R54 in 2^-32: 1 - exp(-1000 / (REL x fs)), truncated. -/
def limC (rel fs : Nat) : Nat :=
  let x : Int := (1000 * 2 ^ 128 / (rel * fs) : Nat)
  (expTerms 24 1 x x / (2 ^ 96 : Int)).toNat

def cfgEn (w : W32) : Bool := bit w 31
def cfgThr (w : W32) : Nat := bf w 8 0
def cfgRel (w : W32) : Nat := bf w 28 18

/-- The effective lookahead of a setting (R55). -/
def cfgL (w : W32) : Nat := if bit w 31 then [0, 4, 16, 0].getD (bf w 30 29) 0 else 0

/-- 1.0 as a gain. -/
def gOne : Nat := 0x100000000

/-- The gain that a word needs (R54). -/
def needGain (t : Nat) (x : W32) : Nat :=
  let m := x.toInt.natAbs
  if t < m then t * gOne / m else gOne

/-- One sample of a limiter: the gain after it and the output, from the words x[n] to x[n + L] (R54). -/
def limStep (cfg : W32) (fs g : Nat) (xs : List W32) : Nat × W32 :=
  let x := xs.getD 0 0
  if cfgEn cfg then
    let t := limT (cfgThr cfg)
    let l := xs.length - 1
    let c := limC (cfgRel cfg) fs
    let grel := g + (gOne - g) * c / gOne
    let atk := ((List.range xs.length).map (fun j =>
      gOne - (gOne - needGain t (xs.getD j 0)) * (l + 1 - j) / (l + 1))).foldl min gOne
    let g1 := min grel atk
    (g1, BitVec.ofInt 32 ((x.toInt * g1).tdiv gOne))
  else (gOne, x)

/-- LIM_STATn.GR of a gain: -20 log10 g in 0.25 dB, halves up, at most 255 (R56): the largest n with
g^160 x 10^(2n - 1) at most 1. -/
def limGr (g : Nat) : Nat :=
  ((List.range 256).filter (fun n => n == 0 || g ^ 160 * 10 ^ (2 * n - 1) ≤ gOne ^ 160)).foldl max 0

/-! ## Output channels -/

def State.outCh (s : State) (ch : Nat) : OutCh := lookD s.ports.outs idleOut ch
def State.setOut (s : State) (ch : Nat) (o : OutCh) : State :=
  { s with ports := { s.ports with outs := ins s.ports.outs ch o } }
def State.modOut (s : State) (ch : Nat) (f : OutCh → OutCh) : State := s.setOut ch (f (s.outCh ch))

/-- The settings of the last change under way, else those in force. -/
def OutCh.started (o : OutCh) : W32 := ((o.change.getLast?).map (·.2)).getD o.eff

/-- Settings with the threshold and release of others. -/
def cfgLike (w v : W32) : W32 := setBf (setBf w 8 0 (cfgThr v)) 28 18 (cfgRel v)

/-- Settings that leave the effective lookahead as it is, from the next sample (R55): whole in the last settings written,
threshold and release in all that are in force before them. -/
def OutCh.put (o : OutCh) (v : W32) : OutCh :=
  let l := o.change.map (fun c => (c.1, cfgLike c.2 v))
  let e := cfgLike o.eff v
  match o.newCfg, o.change.getLast? with
  | some _, _ => { o with eff := e, change := l, newCfg := some v }
  | none, some c => { o with eff := e, change := l.dropLast ++ [(c.1, v)] }
  | none, none => { o with eff := v, g := if cfgEn v then o.g else gOne }

/-- A write of a limiter's settings (R55): from the next sample where the effective lookahead stays, else from the first
playout-stage edge (log 31). -/
def State.limWrite (s : State) (n : Nat) (v : W32) : State :=
  (s.setReg (F.LIM_CFGn n) v).modOut (chanOfLim n) (fun o =>
    if cfgL v = cfgL (o.newCfg.getD o.started) then o.put v else { o with newCfg := some v })

/-- The settings that wait for a playout-stage edge of frame f (R55). -/
def OutCh.atEdge (o : OutCh) (f : Nat) : OutCh :=
  match o.newCfg with
  | none => o
  | some v =>
    let p := { o with newCfg := none }
    if cfgL v = cfgL o.started then p.put v else { p with change := o.change ++ [(16 * f + 54 + cfgL o.started, v)] }

/-- The word of a slot path at an index; the old path where the frame crossfades (R389). -/
def OutCh.wordAt (o : OutCh) (i : Nat) (old : Bool) : W32 :=
  match o.frames.find? (fun f => f.frame == i / 16) with
  | some f => (if old && f.oldFeed.isSome then f.oldWords else f.words).getD (i % 16) 0
  | none => 0

/-- An output channel in a period (R55): the settings, the index, and the weights of the lookahead fades in sixteenths. -/
structure Turn where
  cfg : W32
  idx : Int
  nums : List Nat

/-- The settings in force in a period: those of the last change whose P has come. -/
def OutCh.cfgAt (o : OutCh) (p : Nat) : W32 := (((o.change.filter (fun c => c.1 ≤ p)).getLast?).map (·.2)).getD o.eff

/-- The weight of a change of period x in period p (R55). -/
def turnWeight (x p : Nat) : Nat := if p < x then (if x ≤ p + 16 then x - 1 - p else 16) else min 16 (p - x)

def OutCh.turn (o : OutCh) (p : Nat) : Turn :=
  let c := o.cfgAt p
  ⟨c, (p : Int) - 54 - cfgL c, o.change.map (fun e => turnWeight e.1 p)⟩

/-- The changes of settings after a period (R55). -/
def OutCh.settle (o : OutCh) (p : Nat) : OutCh :=
  { o with eff := o.cfgAt p, change := o.change.filter (fun c => p < c.1 + 16) }

/-- (w x n) >> 4, where 16 leaves the word (R55). -/
def sixteenth (w : W32) (n : Nat) : W32 := if 16 ≤ n then w else fade16 w n

/-- The words of indices n to n + L that the limiter sees at index n: those that an ENGINE reset has cleared in its delay line
are 0 (R69). -/
def OutCh.ahead (o : OutCh) (n l : Nat) : List W32 :=
  (List.range (l + 1)).map (fun j => match o.cleared with
    | some f => if 16 * f + 16 ≤ n + l ∧ n + j < 16 * f + 16 then 0 else o.wordAt (n + j) false
    | none => o.wordAt (n + j) false)

/-- The gain before index n: 1.0 behind the words that have left the delay line at an ENGINE reset (R69). -/
def OutCh.gain (o : OutCh) (n l : Nat) : Nat := if o.cleared.any (fun f => n + l == 16 * f + 16) then gOne else o.g

/-- The clip and gain flags of an instance (R56). -/
def State.limFlags (s : State) (ch : Nat) (clip act : Bool) : State :=
  let n := limOf ch
  let t := if clip then s.setFld (F.LIM_STATn_CLIP n) 1 else s
  if act then t.setFld (F.LIM_STATn_ACT n) 1 else t

end Sys2Proof.Machine
end

