-- ==== Sys2Proof/Machine/Gangway.lean ====
section
/-! DEFINITION. Machine/Gangway.lean: the gangway: its registers in force, mixing, comparison, opening, overrides and
crossfades (R57 to R65, R264, R265). -/

namespace Sys2Proof.Machine

/-- A gangway register in force (R63). -/
def State.gwReg (s : State) (a : Nat) : W32 := lookD s.ports.gwRegs (regReset a) a
def State.gwFld (s : State) (f : Fld) : Nat := bf (s.gwReg f.reg) f.hi f.lo

/-- The gangway registers taken at a frame boundary of the output point (R63). -/
def State.gwLoad (s : State) : State :=
  { s with ports := { s.ports with gwRegs := sub s.regs 0x210000 0x10000 } }

/-- (a x j + b x (16 - j)) / 16, rounded (R61, R590). -/
def mix16 (a b : Int) (j : Nat) : W24 := BitVec.ofInt 24 (asrI (a * j + b * (16 - j : Int) + 8) 4)

/-- The input words of the gangway for the index that reaches the output point in this period (R57, R58). -/
def State.gwInputs (s : State) : List W24 :=
  let words := s.ports.ins.getD 4 []
  (List.range 32).map (fun i =>
    let ch := s.gwFld (F.GW_INn_SRC_SRC i)
    if chanOk s.rate ch then lookD words 0 ch else 0)

/-- The word of gangway output o (R57). -/
def State.gwWord (s : State) (ins : List W24) (o : Nat) : W24 :=
  let sum := (List.range 32).foldl (fun (a : Int) i =>
    a + (ins.getD i 0).toInt * (BitVec.ofNat 24 (s.gwFld (F.GW_GAINi_o_GAIN i o))).toInt) 0
  BitVec.ofInt 24 (satS 24 (asrI (sum + 2 ^ 20) 21))

/-- A magnitude is loud (R59): at or above the threshold, exactly. Full scale is that of R19 and R20, the port word 0x01_0000
(log 50). -/
def gwLoud (thr m : Nat) : Bool := 2 ^ 3200 ≤ m ^ 200 * 10 ^ thr

/-- The hold of a gangway input in samples (R59). -/
def gwHold (rate hold : Nat) : Nat := ceilDiv (hold * rateHz rate) 1000

/-- The past words of each input with the word of this sample, newest first: their ages, within the longest hold, and
magnitudes. A word at or above an older one hides it. -/
def State.gwPast (s : State) (ins : List W24) : List (List (Nat × Nat)) :=
  (List.range 32).map (fun i =>
    let m := (ins.getD i 0).toInt.natAbs
    let old := ((s.ports.past.getD i []).map (fun e => (e.1 + 1, e.2))).filter (fun e => e.1 ≤ gwHold s.rate 10000 && m < e.2)
    if m = 0 then old else (0, m) :: old)

/-- A gangway input is open (R59). -/
def State.gwOpen (s : State) (past : List (List (Nat × Nat))) (i : Nat) : Bool :=
  match s.gwFld (F.GW_INn_OPEN_MODE i) with
  | 0 => false
  | 1 => true
  | _ => (past.getD i []).any (fun e =>
    e.1 ≤ gwHold s.rate (s.gwFld (F.GW_INn_OPEN_HOLD i)) && gwLoud (s.gwFld (F.GW_INn_OPEN_THR i)) e.2)

/-- A gangway output overrides its destination (R60). -/
def State.gwActive (s : State) (past : List (List (Nat × Nat))) (o : Nat) : Bool :=
  match s.gwFld (F.GW_OUTn_MODE o) with
  | 0 => false
  | 1 => (List.range 32).any (fun i => s.gwFld (F.GW_GAINi_o_GAIN i o) != 0 && s.gwOpen past i)
  | _ => true

/-- The FAULT notice of a gangway copy: one per copy and frame (R265). -/
def State.gwFaultNotice (s : State) (unit action : Nat) : State :=
  if s.ports.gwFault.contains unit then s
  else { s with ports := { s.ports with gwFault := unit :: s.ports.gwFault } }.faultNotice 2 0 0 unit 0 0 0 action

/-- The words of the two copies compared in one sample (R264): the words used, and the records of the comparison. Upsets of
one output on both copies are judged together. -/
def State.gwCompare (s : State) (words : List W24) (ups : List GwUpset) : State × List W24 :=
  let drive := s.fld F.GW_CTRL_DRIVE
  let hit := uniq (ups.map (fun u => u.output.val))
  let r := hit.foldl (fun (acc : State × List W24 × Bool × Bool × Bool) o =>
    let mine := ups.filter (fun u => u.output.val == o)
    let flipOf := fun (b : Bool) => (mine.filter (fun u => u.copyB == b)).foldl (fun x u => x ^^^ u.flip) (0 : W24)
    let failOf := fun (b : Bool) => mine.any (fun u => u.copyB == b && u.fails)
    let t := acc.1
    let g := acc.2.1.getD o 0
    let a := g ^^^ flipOf false
    let b := g ^^^ flipOf true
    let driver := if drive = 0 then t.fld F.GW_STAT_DRIVER else drive - 1
    let of := fun (d : Nat) => if d = 0 then a else b
    if a = b then (t, acc.2.1.set o a, acc.2.2)
    else
      let fa := failOf false
      let fb := failOf true
      let one := fa != fb
      let bad := if fa then 0 else 1
      let sw := one && drive == 0 && driver == bad
      let use := if drive != 0 then driver else if one then 1 - bad else driver
      let t1 := if sw then t.setFld F.GW_STAT_DRIVER (1 - bad) else t
      let t2 := if one then t1.gwFaultNotice bad (if sw then 4 else 6) else t1.gwFaultNotice driver 6
      (t2, acc.2.1.set o (of use), acc.2.2.1 || fa, acc.2.2.2.1 || fb, true)) (s, words, false, false, false)
  let t := r.1
  let t := if r.2.2.2.2 then (t.setFld F.GW_STAT_MISMATCH 1).bump F.GW_STAT_MISMATCH_CNT else t
  let t := if r.2.2.1 then (t.setFld F.GW_CMP_FLAGA 1).bump F.GW_CMP_RESA else t
  let t := if r.2.2.2.1 then (t.setFld F.GW_CMP_FLAGB 1).bump F.GW_CMP_RESB else t
  (t, r.2.1)

/-- A sample of the gangway (R57, R59, R60, R264): the words used, and which outputs override. -/
def State.gwSample (s : State) (ups : List GwUpset) : State × List W24 × List Bool :=
  let ins := s.gwInputs
  let past := s.gwPast ins
  let act := (List.range 64).map (s.gwActive past)
  let opens := (List.range 32).filter (s.gwOpen past)
  let on := (List.range 64).filter (fun o => act.getD o false)
  let t := { s with ports := { s.ports with past := past } }
  let t := t.setReg F.GW_OPEN (wordOf opens)
  let t := t.setReg F.GW_ACT_LO (wordOf (on.filter (· < 32)))
  let t := t.setReg F.GW_ACT_HI (wordOf ((on.filter (32 ≤ ·)).map (· - 32)))
  let c := t.gwCompare ((List.range 64).map (s.gwWord ins)) ups
  (c.1, c.2, act)

def noOverride : Override := { weight := 0, active := false, chain := [], last := 0 }

/-- The word of a chain of sources, newest first: each crossfades from the word of those after it (R62). -/
def chainWord (words : List W24) : List (Nat × Nat) → W24
  | [] => 0
  | [(o, _)] => words.getD o 0
  | (o, j) :: r => mix16 (words.getD o 0).toInt (chainWord words r).toInt j

/-- A chain up to the first source whose crossfade is over. -/
def chainCut : List (Nat × Nat) → List (Nat × Nat)
  | [] => []
  | (o, j) :: r => if 16 ≤ j then [(o, 16)] else (o, j) :: chainCut r

/-- The override of a destination channel in a period (R61, R62): outs are the outputs that name it. -/
def Override.tick (v : Override) (outs : List Nat) (words : List W24) (act : List Bool) : Override :=
  let on := outs.filter (fun o => act.getD o false)
  let active := !on.isEmpty
  let w := if active then min 16 (v.weight + 1) else v.weight - 1
  let chain : List (Nat × Nat) := match on with
    | [] => v.chain
    | o :: _ => if v.weight = 0 then [(o, 16)] else if (v.chain.map (·.1)).head? = some o then v.chain else (o, 0) :: v.chain
  let chain := chainCut (chain.map (fun e => (e.1, e.2 + 1)))
  { weight := w, active := active, chain := chain, last := chainWord words chain }

/-- The destinations of gangway outputs that are not OFF, and those whose override has not faded out. -/
def State.gwDests (s : State) : List Nat :=
  uniq (((List.range 64).filter (fun o => s.gwFld (F.GW_OUTn_MODE o) != 0)).map (fun o => s.gwFld (F.GW_OUTn_DST o))
    ++ (s.ports.ovr.filter (fun e => e.2.weight != 0)).map (·.1))

/-- The overrides of a period. -/
def State.gwOverrides (s : State) (words : List W24) (act : List Bool) : State :=
  let ovr := s.gwDests.foldl (fun m d =>
    let outs := (List.range 64).filter (fun o => s.gwFld (F.GW_OUTn_MODE o) != 0 && s.gwFld (F.GW_OUTn_DST o) == d)
    ins m d ((lookD s.ports.ovr noOverride d).tick outs words act)) s.ports.ovr
  { s with ports := { s.ports with ovr := ovr } }

/-- A programme word with the override of its channel laid over it (R60, R61). -/
def State.overlay (s : State) (ch : Nat) (prog : W24) : W24 :=
  match look s.ports.ovr ch with
  | some v => if v.weight = 0 then prog else mix16 v.last.toInt prog.toInt v.weight
  | none => prog

/-- The groups that the routing of the gangway concerns (R64). -/
def State.gwGroups (s : State) : List Nat :=
  let inG := ((List.range 32).map (fun i => s.gwFld (F.GW_INn_SRC_SRC i))).filter (· < 512)
  let outG := ((List.range 64).filter (fun o => s.gwFld (F.GW_OUTn_MODE o) != 0)).map (fun o => s.gwFld (F.GW_OUTn_DST o))
  uniq (inG.map (fun ch => s.fld (F.TDMl_ICFG_GROUP (ch / 32)))
    ++ (outG.filter (· < 512)).map (fun ch => s.fld (F.TDMl_OCFG_GROUP (ch / 32))))

/-- GW_STAT.READY and SYS_READY.GW follow the groups' states (R64). -/
def State.gwCheck (s : State) : State :=
  let r := s.gwGroups.all (fun g => s.fld (F.TDMg_GSTAT_STATE g) == 2)
  let t := s.setFld F.GW_STAT_READY (if r then 1 else 0)
  if r then t.setReady [F.SYS_READY_GW] else t.clearReady [F.SYS_READY_GW]

end Sys2Proof.Machine
end

