-- ==== Sys2Proof/Machine/Ports.lean ====
section
/-! DEFINITION. Machine/Ports.lean: audio ports: TDM groups and lanes, AES3 receivers and transmitters, ASRC instances, run
states, dry fades, the words of each channel in a period (R20, R21, R405 to R434). -/

namespace Sys2Proof.Machine

/-! ## Units of a channel -/

/-- The units that can run dry, by the SOURCE and UNIT of their notices (R411). -/
structure DryUnit where
  source : Nat
  unit : Nat
  deriving DecidableEq, Repr

def State.grp (s : State) (g : Nat) : TdmGrp := s.ports.groups.getD g idleGrp
def State.setGrp (s : State) (g : Nat) (x : TdmGrp) : State :=
  { s with ports := { s.ports with groups := s.ports.groups.set g x } }
def State.rx (s : State) (n : Nat) : AesRx := s.ports.aes.getD n idleAes
def State.setRx (s : State) (n : Nat) (x : AesRx) : State := { s with ports := { s.ports with aes := s.ports.aes.set n x } }

/-- The slots of a SLOTS code (R414). -/
def slotsOf (code : Nat) : Nat := 2 ^ code

/-- The numbers of the ASRC instances. -/
def insts : List Nat := List.range 24

/-- The instances that serve a source: an AES3 receiver (kind 0) or a TDM group (kind 1). -/
def State.servers (s : State) (kind n : Nat) : List Nat :=
  insts.filter (fun i => s.on (F.ASRCn_CFG_VALID i) && s.fld (F.ASRCn_CFG_KIND i) == kind
    && (if kind = 0 then s.fld (F.ASRCn_CFG_INDEX i) else s.fld (F.ASRCn_CFG_INDEX i) % 4) == n)

def State.served (s : State) (kind n : Nat) : Bool := !(s.servers kind n).isEmpty

/-- A group runs: a master while enabled, a slave in RUN (R417, R418). -/
def State.grpRun (s : State) (g : Nat) : Bool := s.fld (F.TDMg_GSTAT_STATE g) == 2

/-- The effective slots of a group (R415). -/
def State.effSlots (s : State) (g : Nat) : Nat :=
  let n := slotsOf (s.fld (F.TDMg_GCFG_SLOTS g))
  if s.served 1 g then n else min n (capLane s.rate)

/-- The bits of a slot (R416). -/
def slotBits (sw : Nat) : Nat := 16 + 8 * sw

/-- Fade lengths of groups and receivers (R409). -/
def State.grpFade (s : State) (g : Nat) : Nat := fadeLen (s.fld (F.TDMg_GCFG_FADE g))
def State.rxFade (s : State) (n : Nat) : Nat := fadeLen (s.fld (F.AESRXn_CFG_FADE n))

/-- An input slot's bits as a port word (R416). -/
def slotIn (sw : Nat) (w : W32) : W24 :=
  match sw with
  | 0 => (w.extractLsb' 0 16 : BitVec 16) ++ (0 : BitVec 8)
  | 1 => w.extractLsb' 0 24
  | _ => w.extractLsb' 8 24

/-- A port word as the bits of an output slot (R416). -/
def slotOut (sw : Nat) (w : W24) : W32 :=
  match sw with
  | 0 => BitVec.ofNat 32 (BitVec.ofInt 16 (satS 16 (asrI (w.toInt + 0x80) 8))).toNat
  | 1 => w.setWidth 32
  | _ => (w.setWidth 32) <<< 8

/-- The channels that an instance converts (R431): subframes of its receiver, or slots of its group's input lanes in
ascending order, from the 16th on in part 1. -/
def State.instChans (s : State) (i : Nat) : List Nat :=
  let n := s.fld (F.ASRCn_CFG_INDEX i)
  let cnt := s.fld (F.ASRCn_CFG_CNTM1 i) + 1
  if s.fld (F.ASRCn_CFG_KIND i) = 0 then (List.range cnt).map (fun k => 4096 + 2 * n + k)
  else
    let g := n % 4
    let slots := slotsOf (s.fld (F.TDMg_GCFG_SLOTS g))
    let lanes := (List.range 16).filter (fun l => s.fld (F.TDMl_ICFG_GROUP l) == g)
    (List.range cnt).filterMap (fun k =>
      let c := (if 4 ≤ n then 16 else 0) + k
      lanes[c / slots]?.map (fun l => 32 * l + c % slots))

/-- What an instance has for a channel of its source (R410, R433): 0 for a word while LOCKED, else the KIND of its dryness. -/
def State.instCode (s : State) (i ch : Nat) : Nat :=
  match s.fld (F.ASRCn_STAT_STATE i) with
  | 3 => if ch / 4096 = 1 && (s.rx (ch % 4096 / 2)).dry.getD (ch % 2) false then 5 else 0
  | 4 => 4
  | _ => 3

/-- What the converted channels have in a period. -/
def State.asrcNow (s : State) : SMap (Nat × Nat) :=
  insts.foldl (fun m i =>
    if s.on (F.ASRCn_CFG_VALID i) then (s.instChans i).foldl (fun m ch => ins m ch (i, s.instCode i ch)) m else m) []

/-! ## What an input channel's unit delivers for an index -/

/-- What a unit has for an input channel and an index: nothing to capture (reads as 0), a word, or dryness with its unit and
KIND (R410). -/
inductive Raw
  | none
  | data (w : W24)
  | dry (u : DryUnit) (kind : Nat)
  deriving DecidableEq, Repr

/-- D of R434, in periods. -/
def asrcDelay (rate : Nat) : Nat := 64 * rateMul rate

/-- The counter at the start of a period. -/
def State.periodAt (s : State) (n : Nat) : Nat := ceilDiv (n * secUnits) (rateHz s.rate)

/-- The words of an input channel of a served source, with the times of their frames. -/
def State.asrcPast (s : State) (ch : Nat) : List (Nat × W24) :=
  let l := if ch / 4096 = 1 then (s.rx (ch % 4096 / 2)).past else (s.grp (s.fld (F.TDMl_ICFG_GROUP (ch / 32)))).past
  l.filterMap (fun e => (look e.2 ch).map (fun w => (e.1, w)))

/-- What an instance delivered for an index (R410, R433): while LOCKED the input signal as it stood D periods before, as a free
word of it (R434, log 7). -/
def State.asrcRaw (s : State) (ch n : Nat) (e : Nat × Nat) : Raw :=
  if e.2 = 0 then .data (Config.asrcWord e.1 ch s.free (s.periodAt (n - asrcDelay s.rate)) (s.asrcPast ch)) else .dry ⟨3, e.1⟩ e.2

/-- A slip's dry episode of L periods covers an index (R410, R419). -/
def State.slipped (s : State) (g n : Nat) : Bool := (s.grp g).slip.any (fun d => d ≤ n && n < d + s.grpFade g)

/-- What the unit of an input channel has for index n, with the channel's fade length. -/
def State.raw (s : State) (ch n : Nat) : Raw × Nat :=
  let i := ch % 4096
  match ch / 4096 with
  | 0 =>
    let lane := i / 32
    let slot := i % 32
    let g := s.fld (F.TDMl_ICFG_GROUP lane)
    let len := s.grpFade g
    let word := lookD (s.ports.caught.getD (s.msi - n) []) 0 ch
    if !s.on (F.TDMl_ICFG_EN lane) || !s.on (F.TDMg_GCFG_EN g) || s.effSlots g ≤ slot then (.none, len)
    else if s.on (F.TDMg_GCFG_MASTER g) then (if s.slipped g n then .dry ⟨0, g⟩ 1 else .data word, len)
    else if (look s.ports.asrcSeen ch).isSome || s.served 1 g then
      (((look s.ports.asrcSeen ch).map (s.asrcRaw ch n)).getD .none, len)
    else
      let x := s.grp g
      if x.released then (.none, len)
      else if s.slipped g n then (.dry ⟨0, g⟩ 1, len)
      else if x.got.contains (2 * n) then (.data word, len)
      else (.dry ⟨0, g⟩ (if !s.grpRun g then 3 else if x.got.contains (2 * n + 1) then 2 else 1), len)
  | 1 =>
    let r := i / 2
    (((look s.ports.asrcSeen ch).map (s.asrcRaw ch n)).getD .none, s.rxFade r)
  | _ =>
    match s.rxCtx i with
    | none => (.none, 64)
    | some (k, c) =>
      if n < c.first then (.none, c.fade)
      else match look (s.ports.caught.getD (s.msi - n) []) ch with
        | some w => (.data w, c.fade)
        | none => (.dry ⟨4, k⟩ 0, c.fade)

/-- A receive context that stops fades its channels out from an index (R383). -/
def State.stopping (s : State) (ch n : Nat) : Option Bool :=
  if ch / 4096 = 2 then
    match s.rxCtx (ch % 4096) with
    | some (_, c) => match c.stop with
      | some (x, cut) => if x ≤ n then some cut else none
      | none => none
    | none => none
  else none

/-- One period of an input fade (R409): the fade after it, and the word. -/
def InFade.tick (f : InFade) (len : Nat) (r : Raw) : InFade × W24 :=
  let s := if len = 16 then 4 else if len = 64 then 6 else 8
  let scale := fun (w : W24) (a : Nat) => BitVec.ofInt 24 (asrI (w.toInt * a) s)
  match r with
  | .none => (f, 0)
  | .data w =>
    let a := min len (f.a + 1)
    ({ a := a, h := w, dry := f.dry && a < len }, scale w a)
  | .dry _ _ =>
    let a := min len f.a - 1
    ({ f with a := a, dry := true }, scale f.h a)

/-- A channel of each TDM group that has an enabled lane: its episodes stand for the group's. -/
def State.groupChans (s : State) (en grp : Nat → Fld) : List Nat :=
  (List.range 4).filterMap (fun g =>
    ((List.range 16).find? (fun l => s.on (en l) && s.fld (grp l) == g)).map (fun l => 32 * l))

/-- The input channels with something to process: bound ones, gangway sources, caught ones, those of running contexts and of
ASRC instances, and one of each TDM group. -/
def State.liveIns (s : State) : List Nat :=
  uniq (s.deck.inBind.map (·.1) ++ (List.range 32).map (fun i => s.gwFld (F.GW_INn_SRC_SRC i))
    ++ (s.ports.caught.getD 2 []).map (·.1)
    ++ s.net.ctxs.flatMap (fun e => if e.2.run && !e.2.tx then e.2.chans.map (· + 8192) else []) ++ s.ports.asrcSeen.map (·.1)
    ++ s.groupChans F.TDMl_ICFG_EN F.TDMl_ICFG_GROUP)

/-- The moorings to which an UNDERRUN notice of a unit goes (R411). -/
def State.dryTo (s : State) (u : DryUnit) (m : Fin 8) : Bool :=
  let lane := fun (out : Bool) =>
    (List.range 512).any (fun ch =>
      let g := if out then s.fld (F.TDMl_OCFG_GROUP (ch / 32)) else s.fld (F.TDMl_ICFG_GROUP (ch / 32))
      g == u.unit && s.ownsChan m out ch)
  match u.source with
  | 0 => lane false
  | 1 => lane true
  | 2 => s.ownsChan m false (4096 + 2 * u.unit) || s.ownsChan m false (4096 + 2 * u.unit + 1)
  | 3 => s.owns m ownAsrc u.unit
  | _ => s.owns m ownStreams u.unit

/-- The aligned group of a unit (R384, R412). -/
def State.agrpOf (s : State) (u : DryUnit) : Nat :=
  match u.source with
  | 0 => s.fld (F.TDMg_GCFG_AGRP u.unit)
  | 1 => s.fld (F.TDMg_GCFG_AGRP u.unit)
  | 2 => s.fld (F.AESRXn_CFG_AGRP u.unit)
  | 3 => if s.fld (F.ASRCn_CFG_KIND u.unit) = 0 then s.fld (F.AESRXn_CFG_AGRP (s.fld (F.ASRCn_CFG_INDEX u.unit)))
    else s.fld (F.TDMg_GCFG_AGRP (s.fld (F.ASRCn_CFG_INDEX u.unit) % 4))
  | _ => ((s.ctx u.unit).map Ctx.agrp).getD 0

/-- The UNDERRUN notice (R411); a context's UNDERRUN bit of R337. -/
def State.underrun (s : State) (u : DryUnit) (kind n : Nat) : State :=
  let s1 := if u.source = 4 then
      match s.ctx u.unit with
      | some c => s.setCtx u.unit { c with under := true }
      | none => s
    else s
  s1.noticeIf nUNDERRUN
    [at32 u.source 28 ||| at32 u.unit 16 ||| at32 (s.agrpOf u) 12 ||| at32 kind 0, lo32 n, hi32 n] (s.dryTo u)

/-- Run states (R405). -/
def runFld (out : Bool) (ch : Nat) : Fld :=
  let i := chanOwnIdx ch
  let r := if out then F.TDM_RUNOn (i / 32) else F.TDM_RUNIn (i / 32)
  ⟨r, i % 32, i % 32⟩

def State.running (s : State) (out : Bool) (ch : Nat) : Bool := s.on (runFld out ch)

/-! ## Zero-crossing waits (R407, R408) -/

/-- N of R408. -/
def State.zcWords (s : State) : Nat := s.fld F.TDM_ZC_TO * rateHz s.rate / 1000

/-- A zero crossing falls at a word (R407): it is 0, or has the opposite sign of the word before; 0 has neither sign. -/
def crosses (prev cur : Int) : Bool := cur == 0 || (prev < 0 && 0 < cur) || (0 < prev && cur < 0)

/-- A wait's change applies, and its reply falls due. -/
def State.applyWait (s : State) (w : ChanWait) : State :=
  let t := { s with ports := { s.ports with waits := s.ports.waits.filter (fun x => !(x.out == w.out && x.chan == w.chan)) } }
  (t.setFld (runFld w.out w.chan) (if w.run then 1 else 0)).release (fun x => x == .channel w.out w.chan)

/-- A rate change has stopped the ports, the deck and the cores (R331). -/
def State.rateStopped (s : State) : Bool :=
  match s.rateChange with
  | some c => c.step == .draining || c.step == .stopped
  | none => false

/-- The wait of a channel meets word n (R407): the change applies, or the word is counted; a rate change pauses it (R437). -/
def State.testWait (s : State) (out : Bool) (ch : Nat) (n : Int) (prev cur : Int) : State :=
  match s.ports.waits.find? (fun w => w.out == out && w.chan == ch) with
  | none => s
  | some w =>
    match w.from_ with
    | none => s
    | some f =>
      if n < f ∨ s.rateStopped then s
      else if w.now then s.applyWait w
      else if s.zcWords ≤ w.tested then s
      else if crosses prev cur then s.applyWait w
      else
        let l := s.ports.waits.map (fun x => if x.out == out && x.chan == ch then { x with tested := x.tested + 1 } else x)
        { s with ports := { s.ports with waits := l } }

/-- The stage edge of a CHAN comes (R407): it applies at once where the channel is there already or is not bound; otherwise
the wait begins with the next frame. -/
def State.waitStart (s : State) (out : Bool) (chan : Nat) : State :=
  match s.ports.waits.find? (fun w => w.out == out && w.chan == chan && w.from_.isNone) with
  | none => s
  | some w =>
    let bound := (look (if out then s.deck.outBind else s.deck.inBind) chan).isSome
    if s.running out chan == w.run || !bound then s.applyWait w
    else
      let l := s.ports.waits.map (fun x =>
        if x.out == out && x.chan == chan then { x with from_ := some (16 * (s.msi / 16 + 1)) } else x)
      { s with ports := { s.ports with waits := l } }

/-! ## Input words of a period (R20, R51, R405) -/

/-- An input channel at index n: its word, its wait, and its deck word. -/
def State.inChan (s : State) (ch n : Nat) : State × W24 :=
  let r := s.raw ch n
  let f := (look s.ports.fades ch).getD (fullFade r.2)
  let r1 : Raw := match s.stopping ch n with
    | some true => .none
    | some false => .dry ⟨4, 512⟩ 0
    | none => r.1
  let o := match s.stopping ch n, r.1 with
    | some false, .data w => let x := { f with h := w }.tick r.2 r1; ({ x.1 with dry := f.dry }, x.2)
    | _, _ => f.tick r.2 r1
  let w := o.2
  let prev := (lookD (s.ports.ins.getD 0 []) 0 ch).toInt
  let t := s.testWait false ch n prev w.toInt
  let t := { t with ports := { t.ports with fades := ins t.ports.fades ch o.1 } }
  let writes := match r1 with
    | .none => false
    | _ => t.running false ch
  match look t.deck.inBind ch with
  | some slot =>
    if writes then
      (if t.kind slot == .inp then t.deckPut slot (n / 16) (n % 16) (deckOfPort w) else t.kerr, w)
    else (t, w)
  | none => (t, w)

/-- The units whose episode begins at index n: none of their channels was in one. -/
def State.newDry (s : State) (chs : List Nat) (n : Nat) : List (DryUnit × Nat) :=
  let l := chs.filterMap (fun ch =>
    match (s.raw ch n).1, s.stopping ch n with
    | .dry u k, none => some (ch, u, k)
    | _, _ => none)
  let old := l.filter (fun e => ((look s.ports.fades e.1).map (·.dry)).getD false)
  (l.filter (fun e => !old.any (fun o => o.2.1 == e.2.1))).foldl
    (fun a e => if a.any (fun x => x.1 == e.2.1) then a else a ++ [(e.2.1, e.2.2)]) []

/-- The input words of index n = msi - 2 (R51). The instances' states as the period before ended are kept for the next index. -/
def State.inPeriod (s : State) : State :=
  if s.msi < 2 then s
  else
    let n := s.msi - 2
    let chs := s.liveIns
    let dry := s.newDry chs n
    let r := chs.foldl (fun (a : State × SMap W24) ch => let x := a.1.inChan ch n; (x.1, ins a.2 ch x.2)) (s, [])
    let t := { r.1 with ports := { r.1.ports with ins := (r.2 :: r.1.ports.ins).take 5, asrcSeen := s.asrcNow } }
    let t := { t with free := t.free + 1 }
    dry.foldl (fun t e => t.underrun e.1 e.2 n) t

/-! ## Output words of a period (R21, R54, R55, R388, R389) -/

/-- The fade length of an output channel's unit. An AES3 transmitter has no FADE field: one of the three lengths (log 27). -/
def State.outFade (s : State) (ch : Nat) : Nat :=
  match ch / 4096 with
  | 0 => s.grpFade (s.fld (F.TDMl_OCFG_GROUP (ch / 32)))
  | 1 => [16, 64, 256].getD Config.aesFade.val 64
  | _ => ((s.net.ctxs.find? (fun e => e.2.tx && e.2.chans.contains (ch % 4096))).map (fun e => e.2.fade)).getD 64

/-- An output channel's unit is dry in this period, with the KIND: a slip of its group, or a group that is not in RUN (R410,
R457); what an ASRC instance serves has no outputs (R420). -/
def State.outDry (s : State) (ch : Nat) : Option Nat :=
  let g := s.fld (F.TDMl_OCFG_GROUP (ch / 32))
  if ch / 4096 != 0 || !s.on (F.TDMl_OCFG_EN (ch / 32)) || !s.on (F.TDMg_GCFG_EN g) || s.served 1 g then none
  else if !s.grpRun g then some 3
  else if 0 < (s.grp g).dryLeft then some 1
  else none

/-- The group of an output channel sends nothing (R410). -/
def State.outSilent (s : State) (ch : Nat) : Bool :=
  ch / 4096 == 0 && !s.grpRun (s.fld (F.TDMl_OCFG_GROUP (ch / 32)))

/-- The word that an output channel sends at the output point in this period, before the gangway overlay (R21 stages 1 to
3); a crossfade of the zones goes with the words of its frame (R389, log 168). -/
def State.outProg (s : State) (ch : Nat) (gw : List W24) : State × W24 :=
  let o := s.outCh ch
  let p := s.msi
  let tn := o.turn p
  if tn.idx < 0 then (s, 0)
  else
    let n := tn.idx.toNat
    let l := cfgL tn.cfg
    let lim := limStep tn.cfg (rateHz s.rate) (o.gain n l) (o.ahead n l)
    let old := if o.cleared.any (fun f => 16 * f + 16 ≤ n + l && n < 16 * f + 16) then 0 else o.wordAt n true
    let oldLim := if cfgEn tn.cfg then BitVec.ofInt 32 ((old.toInt * lim.1).tdiv gOne) else old
    let t := s.testWait true ch n o.last.toInt lim.2.toInt
    let run := t.running true ch
    let len := t.outFade ch
    let kind := t.outDry ch
    let a := if t.outSilent ch then 0 else if kind.isSome then min len o.a - 1 else min len (o.a + 1)
    let sh := if len = 16 then 4 else if len = 64 then 6 else 8
    let fades := fun (w : W32) =>
      let w := if run then w else 0
      let w := if a = len then w else BitVec.ofInt 32 (asrI (w.toInt * a) sh)
      let w := tn.nums.foldl sixteenth w
      if o.rateFade = some (n / 16) then fade16 w (15 - n % 16) else w
    let new := portOfDeck (fades lim.2)
    let oldW := portOfDeck (fades oldLim)
    let pick := fun (f : Feed) (w : W24) => match f with
      | .gangway g => gw.getD g 0
      | _ => w
    let w := match o.frames.find? (fun f => f.frame == n / 16) with
      | some f => match f.oldFeed with
        | some fo => mix16 (pick f.feed new.1).toInt (pick fo oldW.1).toInt (n % 16 + 1)
        | none => pick f.feed new.1
      | none => new.1
    let newly := kind.isSome && !o.dry
    let dry := kind.isSome || (o.dry && a < len)
    let o1 := { o.settle p with g := lim.1, a := a, dry := dry, last := lim.2 }
    let t := (t.setOut ch o1).limFlags ch new.2 (decide (lim.1 < gOne))
    let u : DryUnit := ⟨1, t.fld (F.TDMl_OCFG_GROUP (ch / 32))⟩
    let told := t.ports.outs.any (fun e => e.1 != ch && e.1 / 4096 == 0 && e.2.dry
      && t.fld (F.TDMl_OCFG_GROUP (e.1 / 32)) == u.unit)
    (if newly && !told then t.underrun u (kind.getD 1) p else t, w)

/-- Output channels with something to send: bound ones, those with words or a feed, destinations of overrides, and those of
transmit contexts, and one of each TDM group. -/
def State.liveOuts (s : State) : List Nat :=
  uniq (s.deck.outBind.map (·.1) ++ s.ports.outs.map (·.1) ++ s.ports.ovr.map (·.1)
    ++ s.net.ctxs.flatMap (fun e => if e.2.run && e.2.tx then e.2.chans.map (· + 8192) else [])
    ++ s.groupChans F.TDMl_OCFG_EN F.TDMl_OCFG_GROUP)

/-! ## TDM frames on the wire (R414) -/

/-- The level of FSYNC in BCLK cycle k of a frame, counted from its active edge: half a frame, or one BCLK. -/
def State.fsyncLevel (s : State) (g k : Nat) : Bool :=
  let fmt := s.fld (F.TDMg_GCFG_FMT g)
  let half := s.effSlots g * slotBits (s.fld (F.TDMg_GCFG_SW g)) / 2
  let first := decide (k < (if fmt = 2 ∧ s.fld (F.TDMg_GCFG_FSW g) = 0 then 1 else half))
  (first != (fmt == 0)) != s.on (F.TDMg_GCFG_FSINV g)

/-- The active edge of FSYNC rises: that of I2S falls, and FSINV inverts it. -/
def State.fsyncRises (s : State) (g : Nat) : Bool := (s.fld (F.TDMg_GCFG_FMT g) != 0) != s.on (F.TDMg_GCFG_FSINV g)

/-- Data is launched on rising BCLK, and sampled on falling BCLK. -/
def State.launchRises (s : State) (g : Nat) : Bool := s.on (F.TDMg_GCFG_BCINV g)

/-- The delay of slot 0 after the active edge, in BCLK cycles. -/
def State.dataDelay (s : State) (g : Nat) : Nat :=
  match s.fld (F.TDMg_GCFG_FMT g) with
  | 0 => 1
  | 1 => 0
  | _ => s.fld (F.TDMg_GCFG_DLY g)

/-- The slot and its bit that a lane carries in BCLK cycle k of a frame: the most significant bit first. -/
def State.slotAt (s : State) (g k : Nat) : Nat × Nat :=
  let w := slotBits (s.fld (F.TDMg_GCFG_SW g))
  let all := s.effSlots g * w
  let x := (k + all - s.dataDelay g) % all
  (x / w, w - 1 - x % w)

/-! ## AES3 frames on the wire (R423, R429, R430) -/

/-- The preamble of a subframe, as its eight half-bit cells: X, Y, or Z where a block begins. -/
def preamble (second block : Bool) : Byte := if second then 0xE4 else if block then 0xE8 else 0xE2

/-- Slots 4 to 31 of a subframe: the audio word, V, U at 0, C, and P, which makes them even. -/
def subframe (w : W24) (v c : Bool) : W32 :=
  let x : W32 := (w.setWidth 32) <<< 4 ||| flag v 28 ||| flag c 30
  x ||| flag ((bitsOf x 32).length % 2 == 1) 31

/-- The C bit of an AES3 output channel in the frame of an index: of the block that its subframe sends. -/
def State.txC (s : State) (ch n : Nat) : Bool :=
  let i := ch % 4096
  bit (s.reg (F.AESTXt_CSk (i / 2) (6 * (i % 2) + n % 192 / 32))) (n % 32)

/-- V of an AES3 output channel. -/
def State.txV (s : State) (ch : Nat) : Bool := s.on (F.AESTXt_CFG_VSTOP (ch % 4096 / 2)) && !s.running true ch

/-- The bits an output channel puts on its wire (R415, R416, R420, R429); none where nothing is sent: a master group and an
AES3 transmitter need MOUT (R564, R571). -/
def State.wireOf (s : State) (ch : Nat) (w : W24) : Option W32 :=
  match ch / 4096 with
  | 0 =>
    let lane := ch / 32
    let g := s.fld (F.TDMl_OCFG_GROUP lane)
    let carried := (s.running true ch && (look s.deck.outBind ch).isSome)
      || ((look s.ports.ovr ch).map (fun v => v.weight != 0)).getD false
    let clocks := !s.on (F.TDMg_GCFG_MASTER g) || s.clk.mout
    if !s.on (F.TDMl_OCFG_EN lane) || !s.grpRun g || !clocks || s.served 1 g || s.effSlots g ≤ ch % 32 then none
    else if s.on (F.TDMl_OCFG_HIZ lane) && !carried then none
    else some (slotOut (s.fld (F.TDMg_GCFG_SW g)) w)
  | 1 => if s.on (F.AESTXt_CFG_EN (ch % 4096 / 2)) && s.clk.mout then some (subframe w (s.txV ch) (s.txC ch (s.msi - 4))) else none
  | _ => some (w.setWidth 32)

/-- The output words of a period: after a clock failure 0, with the gangway's overlay on TDM lanes (R451); the balls carry
none while the TAP controls them (R565). -/
def State.outPeriod (s : State) (gw : List W24) : State :=
  let r := s.liveOuts.foldl (fun (a : State × SMap W32 × SMap (List W24)) ch =>
    let x := a.1.outProg ch gw
    let w := if s.clk.mute then (if ch / 4096 = 0 then x.1.overlay ch 0 else 0) else x.1.overlay ch x.2
    let wires := match x.1.wireOf ch w with
      | some v => ins a.2.1 ch v
      | none => a.2.1
    let tx := if ch / 4096 = 2 then ins a.2.2 (ch % 4096) ((w :: lookD a.2.2 [] (ch % 4096)).take 400) else a.2.2
    (x.1, wires, tx)) (s, [], s.net.txWords)
  let t := r.1
  let z := s.msi % 192 == 4
  let balls := if s.tapHolds then [] else r.2.1
  { t with ports := { t.ports with wires := balls, zTx := z },
           net := { t.net with txWords := r.2.2 } }

/-- The transmit channel-status blocks that wait take effect at a Z preamble (R346, R430). -/
def State.txBlocks (s : State) : State :=
  if s.msi % 192 = 4 then
    let t := s.ports.newTx.foldl (fun t e =>
      (List.range 6).foldl (fun t k => t.setReg (F.AESTXt_CSk (e.1 / 2) (6 * (e.1 % 2) + k)) (e.2.getD k 0)) t) s
    ({ t with ports := { t.ports with newTx := [] } }).release (fun w => match w with
      | .block _ => true
      | _ => false)
  else s

/-- The CRCC of a channel-status block (R426): one byte folded in. -/
def crccByte (crc b : Byte) : Byte :=
  (List.range 8).foldl (fun (c : Byte) _ => if c.getLsbD 0 then (c >>> 1) ^^^ 0xB8 else c >>> 1) (crc ^^^ b)

def crcc (bytes : List Byte) : Byte := (bytes.take 23).foldl crccByte 0xFF

/-- The block that a transmitter sends for 24 bytes given (R430). -/
def txBlock (ws : List W32) : List W32 :=
  let b := bytesLE ws
  if (b.getD 0 0).getLsbD 0 then wordsLE (b.take 23 ++ [crcc b]) else ws

/-! ## TDM slave groups (R418, R419) -/

/-- An instance enters a state: ACQUIRE with a new DPLL (R433). -/
def State.setAsrc (s : State) (n st : Nat) : State :=
  let d := if st = 2 then idleDpll else { lookD s.ports.dplls idleDpll n with off := 0 }
  { s.setFld (F.ASRCn_STAT_STATE n) st with ports := { s.ports with dplls := insD s.ports.dplls idleDpll n d } }

/-- A group changes state; a served one tells its instances (R433). -/
def State.asrcInput (s : State) (kind n : Nat) (up : Bool) : State :=
  (s.servers kind n).foldl (fun t i =>
    let st := t.fld (F.ASRCn_STAT_STATE i)
    if up then (if st = 1 then t.setAsrc i 2 else t)
    else if st = 0 then t else t.setAsrc i 1) s

def State.setGrpState (s : State) (g st : Nat) : State :=
  if s.fld (F.TDMg_GSTAT_STATE g) = st then s
  else ((s.setFld (F.TDMg_GSTAT_STATE g) st).asrcInput 1 g (st == 2)).gwCheck

/-- The time of k frames lies within a tolerance, in millionths, of k reference periods (R418). -/
def State.nearRef (s : State) (tol k time : Nat) : Bool :=
  let d : Int := (time * rateHz s.rate : Nat) - (k * secUnits : Nat)
  decide (d.natAbs * 1000000 ≤ tol * k * secUnits)

/-- The mean period of the last 64 frames lies within a tolerance; none before 64 frames. -/
def State.meanNear (s : State) (tol : Nat) (l : List Nat) : Option Bool :=
  if 64 ≤ l.length then some (s.nearRef tol 64 (l.take 64).sum) else none

/-- The place of an edge in its period, in 1/128 of it. -/
def State.edgePhase (s : State) (t48 : Nat) : Nat := t48 * rateHz s.rate % secUnits * 128 / secUnits

/-- The phase that an edge gives on entry to RUN (R419): a member of an aligned group keeps its first one unless the edge less
that phase falls within 16/128 of a period boundary. -/
def State.fixPhase (s : State) (g e : Nat) : Nat :=
  let fresh := (e + 64) % 128
  match (s.grp g).phi with
  | some f =>
    let x := (e + 128 - f) % 128
    if s.fld (F.TDMg_GCFG_AGRP g) ≠ 0 ∧ 16 ≤ x ∧ x ≤ 112 then f else fresh
  | none => fresh

/-- A slip's dry episode: L periods, at the inputs from the index of the slip (R410). -/
def State.slipDry (s : State) (g n : Nat) : State := s.setGrp g { s.grp g with slip := some n, dryLeft := s.grpFade g }

/-- A slip of a group at an index: counted, and a dry episode (R419). -/
def State.slip (s : State) (g n : Nat) : State := (s.bump (F.TDMg_GSTAT_SLIP g)).slipDry g n

/-- The words of a slave group's frame caught for an index. -/
def State.catchFrame (s : State) (g n : Nat) (words : List (Nat × W32)) : State :=
  let sw := s.fld (F.TDMg_GCFG_SW g)
  let k := s.msi - n
  let mine := words.filter (fun e => e.1 < 512 && s.fld (F.TDMl_ICFG_GROUP (e.1 / 32)) == g)
  let m := mine.foldl (fun m e => ins m e.1 (slotIn sw e.2)) (s.ports.caught.getD k [])
  { s with ports := { s.ports with caught := s.ports.caught.set k m } }

/-- A frame of an unserved slave group (R418, R419). A group that was served until now fixes its phase at its first frame (R436, log 156).
Without an earlier edge a frame has no period (log 170). -/
def State.slaveFrame (s : State) (g : Nat) (f : TdmIn) : State :=
  let now := s.countTo f.d4
  let per := (s.grp g).at_.map (now - ·)
  let x : TdmGrp := { s.grp g with at_ := some now }
  let st := s.fld (F.TDMg_GSTAT_STATE g)
  let bad := f.bclks != s.effSlots g * slotBits (s.fld (F.TDMg_GCFG_SW g))
  let e := s.edgePhase now
  let index := fun (phi : Nat) => (s.msi * 128 + e - phi) / 128
  let ps := (per.toList ++ x.periods).take 64
  let enter := fun (x : TdmGrp) =>
    let phi := s.fixPhase g e
    (((s.setGrp g { x with phi := some phi, got := [2 * index phi], released := false }).setFld (F.TDMg_GSTAT_PHASE g) phi).setGrpState
      g 2).catchFrame g (index phi) f.words
  if st = 1 then
    if !bad && per.any (s.nearRef 1000 1) then
      if x.good + 1 = 16 then enter { x with good := 0, bad := 0, periods := per.toList, slip := none, dryLeft := 0 }
      else s.setGrp g { x with good := x.good + 1 }
    else s.setGrp g { x with good := 0 }
  else if st = 2 then
    let phi := if x.got.isEmpty then s.fixPhase g e else x.phi.getD 0
    let x : TdmGrp := { x with phi := some phi }
    let s := s.setFld (F.TDMg_GSTAT_PHASE g) phi
    let n := index phi
    if bad then
      let t := s.bump (F.TDMg_GSTAT_BADFRM g)
      let t := t.setGrp g { x with bad := x.bad + 1, got := (2 * n + 1) :: x.got.take 7 }
      if x.bad + 1 = 4 then (t.setGrp g { t.grp g with good := 0, bad := 0 }).setGrpState g 1 else t
    else
      let twice := x.got.contains (2 * n) || x.got.contains (2 * n + 1)
      let t := s.setGrp g { x with bad := 0, periods := ps, got := (2 * n) :: x.got.take 7 }
      let t := if twice then t.slip g n else t.catchFrame g n f.words
      if s.meanNear 1000 ps == some false then t.setGrpState g 3 else t
  else if st = 3 then
    if s.meanNear 500 ps == some true then enter { x with periods := ps } else s.setGrp g { x with periods := ps }
  else s

/-- A period of a slave group has passed without a frame (R419). -/
def State.grpMissed (s : State) (g : Nat) : State :=
  let x := s.grp g
  let n := s.msi - 2
  let slave := !s.on (F.TDMg_GCFG_MASTER g) && !s.served 1 g && s.grpRun g
  if slave && 2 ≤ s.msi && x.got.any (fun i => i / 2 < n) && !x.got.contains (2 * n) && !x.got.contains (2 * n + 1) then
    s.slip g n
  else s

/-- A slip's episode runs on at the outputs. -/
def State.grpPeriod (s : State) (g : Nat) : State := s.setGrp g { s.grp g with dryLeft := (s.grp g).dryLeft - 1 }

/-! ## AES3 receivers (R424 to R428) -/

/-- The nominal rate within 0.5 % of which a measured rate lies; 0 for none (R427). -/
def nomOf (meas : Nat) : Nat :=
  let l := [(1, 32000), (2, 44100), (3, 48000), (4, 88200), (5, 96000), (6, 176400), (7, 192000)]
  ((l.find? (fun e => e.2 * 995 ≤ meas * 1000 && meas * 1000 ≤ e.2 * 1005)).map (·.1)).getD 0

/-- NOM changes: the RATECHG notice of R428. -/
def State.setNom (s : State) (n nom : Nat) : State :=
  let old := s.fld (F.AESRXn_STAT_NOM n)
  if old = nom then s
  else (s.setFld (F.AESRXn_STAT_NOM n) nom).notice nRATECHG
    [at32 1 28 ||| at32 n 24 ||| at32 old 3 ||| at32 nom 0,
     flag (s.on (F.AESRXn_STAT_LOCK n)) 31 ||| at32 (s.fld (F.AESRXn_STAT_MEAS n)) 0, lo32 s.tt.frame]

/-- Loss of lock (R424, R427, R433). -/
def State.loseLock (s : State) (n : Nat) : State :=
  let t := s.setFld (F.AESRXn_STAT_LOCK n) 0
  let t := t.setRx n { t.rx n with good := 0, viol := 0, bits := none, starts := [], near := 0, nearNom := 0 }
  (t.setNom n 0).asrcInput 0 n false

/-- Eight bits, the first lowest. -/
def byteOfBits (l : List Bool) : Byte := BitVec.ofNat 8 (wordOf ((List.range 8).filter (fun i => l.getD i false))).toNat

/-- A complete block of C bits stored, unless a professional block fails its CRCC (R426). -/
def State.storeBlock (s : State) (n sub : Nat) (bits : List Bool) : State :=
  let bytes := (List.range 24).map (fun b => byteOfBits ((bits.drop (8 * b)).take 8))
  let pro := (bytes.getD 0 0).getLsbD 0
  if pro && bytes.getD 23 0 != crcc bytes then s.setFld (F.AESRXn_STAT_CRCERR n) 1
  else
    let x := s.rx n
    let t := s.setRx n { x with blocks := x.blocks.set sub (wordsLE bytes) }
    if sub = 0 then t.setFld (F.AESRXn_STAT_PRO n) (if pro then 1 else 0) else t

/-- A subframe of a locked receiver (R425): the word, or the last one where parity fails. -/
def State.aesSub (s : State) (n sub : Nat) (f : AesSub) : State :=
  let x := s.rx n
  let x1 := { x with words := if f.parityGood then x.words.set sub f.word else x.words,
                     dry := x.dry.set sub (f.v && s.on (F.AESRXn_CFG_VPOL n)) }
  let t := s.setRx n x1
  let t := if f.parityGood then t else t.bump (F.AESRXn_ERR_PARITY n)
  if f.v then t.setFld (F.AESRXn_STAT_VSEEN n) 1 else t

/-- The C bits of a frame (R426). -/
def State.aesBits (s : State) (n : Nat) (f : AesIn) : State :=
  let x := s.rx n
  let bits := if f.z then some ([], []) else x.bits
  match bits with
  | none => s
  | some (a, b) =>
    let a1 := a ++ [f.sub1.c]
    let b1 := b ++ [f.sub2.c]
    let t := s.setRx n { x with bits := if a1.length = 192 then none else some (a1, b1) }
    if a1.length = 192 then (t.storeBlock n 0 a1).storeBlock n 1 b1 else t

/-- The frame rate in Hz of k frames in a time, rounded. -/
def rateOf (k time : Nat) : Nat := (2 * k * secUnits + time) / (2 * max 1 time)

/-- MEAS and NOM after a frame (R427); MEAS holds until 64 frames have been timed (log 169). -/
def State.aesMeas (s : State) (n : Nat) : State :=
  let x := s.rx n
  match x.starts.head?, x.starts[64]? with
  | some a, some b =>
    let meas := rateOf 64 (a - b)
    let t := s.setFld (F.AESRXn_STAT_MEAS n) (meas % 2 ^ 20)
    let nom := nomOf meas
    let near := if nom ≠ 0 ∧ nom = x.nearNom then min 64 (x.near + 1) else if nom = 0 then 0 else 1
    (t.setRx n { x with near := near, nearNom := nom }).setNom n (if near = 64 then nom else 0)
  | _, _ => s

/-- An AES3 frame (R424 to R427). -/
def State.aesFrame (s : State) (n : Nat) (f : AesIn) : State :=
  let now := s.countTo f.d4
  let last := (s.rx n).starts.head?
  let x := { s.rx n with starts := (now :: (s.rx n).starts).take 65 }
  let s := s.setRx n x
  let viols := [f.sub1, f.sub2].filter (fun u => !u.biphaseGood)
  let t := s.bumpBy (F.AESRXn_ERR_BIPHASE n) viols.length
  let run := if f.sub1.biphaseGood && f.sub2.biphaseGood then 0
    else if f.sub2.biphaseGood then 0
    else if f.sub1.biphaseGood then 1 else x.viol + 2
  let peak := if f.sub1.biphaseGood then 0 else x.viol + 1
  if t.on (F.AESRXn_STAT_LOCK n) then
    let t := t.setRx n { t.rx n with viol := run }
    if 8 ≤ run ∨ 8 ≤ peak then t.loseLock n
    else (((t.aesSub n 0 f.sub1).aesSub n 1 f.sub2).aesBits n f).aesMeas n
  else
    let inRange := last.all (fun a => let r := rateOf 1 (now - a); 28000 ≤ r && r ≤ 216000)
    let good := f.preambles && viols.isEmpty && inRange
    let k := if good then x.good + 1 else 0
    if k = 8 then
      let t := t.setRx n { t.rx n with good := 0, viol := 0, bits := none }
      (t.setFld (F.AESRXn_STAT_LOCK n) 1).asrcInput 0 n true
    else t.setRx n { t.rx n with good := k }

/-! ## Configurations that wait for their edge (R422, R436) -/

/-- A group's configuration applies: it passes through WAIT, or OFF; a master runs (R417, R422). A member of an aligned group keeps its
phase (R419). -/
def State.groupCfg (s : State) (g : Nat) (w : W32) : State :=
  if s.reg (F.TDMg_GCFG g) = w then s.setGrp g { s.grp g with newCfg := none }
  else
    let t := s.setReg (F.TDMg_GCFG g) w
    let kept := if bf w 16 13 ≠ 0 ∧ bf w 16 13 = s.fld (F.TDMg_GCFG_AGRP g) then (s.grp g).phi else none
    let t := t.setGrp g { idleGrp with phi := kept }
    let st := if !bit w 31 then 0 else if bit w 30 then 2 else 1
    (t.setGrpState g st).gwCheck

/-- The port configurations that wait for a stage edge (R422, R436); a group that no instance serves any more reads as 0 (log 156). -/
def State.portsEdge (s : State) : State :=
  let t := (List.range 4).foldl (fun t g => match (t.grp g).newCfg with
    | some w => t.groupCfg g w
    | none => t) s
  let t := t.ports.newLanes.foldl (fun t e => t.setReg (if e.1 then F.TDMl_OCFG e.2.1 else F.TDMl_ICFG e.2.1) e.2.2) t
  let t := (List.range 8).foldl (fun t n => match (t.rx n).newCfg with
    | some w =>
      let u := (t.setReg (F.AESRXn_CFG n) w).setRx n { t.rx n with newCfg := none }
      if bit w 31 || !u.on (F.AESRXn_STAT_LOCK n) then u else u.loseLock n
    | none => t) t
  let t := t.ports.newTxCfg.foldl (fun t e => t.setReg (F.AESTXt_CFG e.1) e.2) t
  let t := t.ports.newAsrc.foldl (fun t e =>
    match e.2 with
    | some w =>
      let u := t.setReg (F.ASRCn_CFG e.1) w
      let n := u.fld (F.ASRCn_CFG_INDEX e.1)
      let up := if bit w 0 then u.grpRun (n % 4) else u.on (F.AESRXn_STAT_LOCK n)
      let u := if bit w 0 then u.setFld (F.TDMg_GSTAT_ASRC (n % 4)) 1 else u
      u.setAsrc e.1 (if up then 2 else 1)
    | none =>
      let n := t.fld (F.ASRCn_CFG_INDEX e.1)
      let tdm := t.on (F.ASRCn_CFG_KIND e.1)
      let u := (t.setReg (F.ASRCn_CFG e.1) 0).setReg (F.ASRCn_STAT e.1) 0
      if tdm && !u.served 1 (n % 4) then
        (u.setFld (F.TDMg_GSTAT_ASRC (n % 4)) 0).setGrp (n % 4)
          { u.grp (n % 4) with released := true, at_ := none, periods := [], got := [], past := [] }
      else u) t
  { t with ports := { t.ports with newLanes := [], newTxCfg := [], newAsrc := [] } }.gwCheck

/-- Run states after an ENGINE reset (R405, R438). -/
def State.runReset (s : State) : State := s.resetRegs (F.TDM_RUNIn 0) 0x200

end Sys2Proof.Machine
end

