-- ==== Sys2Proof/Machine/Clocks.lean ====
section
/-! DEFINITION. Machine/Clocks.lean: crystal, root PLL, domain multiplexers, gates, monitors and the media PLL (R439 to
R458). -/

namespace Sys2Proof.Machine

/-! ## Domains and monitors (R441, R449) -/

/-- The divisors of D0 to D7. -/
def divOf (d : Nat) : Nat := [4, 4, 8, 8, 12, 12, 24, 48].getD d 48

/-- The edges that a domain or PLL0 (divisor 1) shows in a window of 32 us: 1,024 on SRC, else as PLL0 is locked or coasts
(R441, R449). -/
def windowEdges (div : Nat) (onRoot coast : Bool) : Nat :=
  if !onRoot then 1024 else (if coast then 115200 else 153600) / div

/-- A count lies within 2 % of what is expected. -/
def within2 (n e : Nat) : Bool := e * 98 ≤ n * 100 && n * 100 ≤ e * 102

/-- Edges in a window of 32 us as a frequency in units of 10 kHz, saturating (R452). -/
def measOf (n : Nat) : Nat :=
  min (2 ^ 20 - 1) (n * 25 / 8 + if n * 25 % 8 = 0 then 0 else (Config.measUp n).toNat)

/-- The CLKFAIL notice and its ALERT bit (R452, R307). -/
def State.clkFail (s : State) (source domain meas : Nat) : State :=
  (s.alertBit 2).notice nCLKFAIL [at32 source 28 ||| at32 domain 24 ||| at32 meas 0, lo32 s.tt.frame]

/-- The engine mutes (R451). -/
def State.muteAll (s : State) : State :=
  { s with clk := { s.clk with mute := true } }.clearReady muteFlds

/-- A domain's multiplexer has switched (R443, R444). -/
def State.muxDone (s : State) (d : Nat) : State :=
  if s.clk.toSrc.contains d then
    { s.setFld (ckmBit F.CKM_STAT_ONROOT d) 0 with clk := { s.clk with toSrc := s.clk.toSrc.erase d } }
  else
    { s.setFld (ckmBit F.CKM_STAT_ONROOT d) 1 with clk := { s.clk with moves := s.clk.moves.tail } }

/-- A multiplexer is switching. -/
def State.muxBusy (s : State) (d : Nat) : Bool := s.clk.toSrc.contains d || s.clk.moves.head? == some d

/-- The units of a failed domain become unready, and its multiplexer moves to SRC (R450). D3 keeps its units: the
controllers run at 32 MHz. -/
def State.domainFail (s : State) (d n : Nat) : State :=
  let t := s.setFld (ckmBit F.CKM_STAT_DFAIL d) 1
  let t := { t with clk := { t.clk with toSrc := t.clk.toSrc ++ [d] } }
  let t := t.clearReady (domainFlds d)
  let t := if d = 3 ∨ d = 5 then t else t.muteAll
  t.clkFail 2 d (measOf n)

/-- PLL0 coasts (R450). -/
def State.coast (s : State) : State :=
  ((s.setFld F.PLL0_STAT_LOCK 0).setFld F.PLL0_STAT_COAST 1).muteAll

/-- Consecutive bad windows of a clock: a window without an edge counts as two (R449). -/
def badCount (old n : Nat) (ok : Bool) : Nat := if ok then 0 else if n = 0 then 2 else min 2 (old + 1)

/-- What the counts of a window are held against. -/
def State.windowBad (s : State) (c : ClockCounts) : List Nat :=
  let locked := s.on F.PLL0_STAT_LOCK
  let coast := s.on F.PLL0_STAT_COAST
  let one := fun (i n : Nat) (judged ok : Bool) => if judged then badCount (s.clk.bad.getD i 0) n ok else 0
  (List.range 8).map (fun d =>
      let n := c.dom.getD d 0
      one d n (s.domOk d) (within2 n (windowEdges (divOf d) (s.on (ckmBit F.CKM_STAT_ONROOT d)) coast)))
    ++ [one 8 c.xo (s.on F.CKM_STAT_XOSTABLE) (796 ≤ c.xo && c.xo ≤ 804),
        one 9 c.pll0 locked (within2 c.pll0 (windowEdges 1 true coast))]

/-- The counts of a window shown (R439, R449). -/
def State.windowShow (s : State) (c : ClockCounts) : State :=
  let t := (List.range 8).foldl (fun t d => t.setFld (F.CKM_MONd_COUNT d) (min (2 ^ 17 - 1) (c.dom.getD d 0))) s
  let good := 796 ≤ c.xo && c.xo ≤ 804
  (t.setFld F.CKM_XO_COUNT (min 4095 c.xo)).setFld F.CKM_XO_GOOD
    (if good then min 256 (t.fld F.CKM_XO_GOOD + 1) else 0)

/-- The service class failures of a window (R450): the XO before PLL0, PLL0 before a domain, which fails while PLL0 is locked. -/
def State.windowJudge (s : State) (c : ClockCounts) : State :=
  let fails := fun i => s.clk.bad.getD i 0 == 2
  if fails 8 then
    ((s.setFld F.CKM_STAT_XOSTABLE 0).setFld F.CKM_STAT_XOFAIL 1).coast.clkFail 0 0 (measOf c.xo)
  else if fails 9 then s.coast.clkFail 1 0 (measOf c.pll0)
  else (List.range 7).foldl (fun t d =>
    if fails d && s.on F.PLL0_STAT_LOCK then t.domainFail d (c.dom.getD d 0) else t) s

/-! ## SRC trim (R442) -/

/-- The sampling frequency that a stored professional block gives in byte 0: 32, 44.1 or 48 kHz, as AES3 codes it. -/
def blockRate (blk : List W32) : Option Nat :=
  let w := wd blk 0
  if !bit w 0 then none
  else match bit w 6, bit w 7 with
    | false, true => some 48000
    | true, false => some 44100
    | true, true => some 32000
    | _, _ => none

/-- The receiver that trims SRC without the XO: the lowest locked one, where its block gives a rate. -/
def State.trimRx (s : State) : Option (Nat × Nat) :=
  match (List.range 8).find? (fun n => s.on (F.AESRXn_STAT_LOCK n)) with
  | some n => (blockRate ((s.rx n).blocks.getD 0 [])).map (fun r => (n, r))
  | none => none

/-- The trim code one step up, down or held: up where SRC is slow by more than 0.05 %. -/
def trimStep (t : Nat) (slow fast : Bool) : Nat := if slow then min 255 (t + 1) else if fast then t - 1 else t

/-- One comparison (R442). With the XO, count is the XO cycles in 32,000 SRC cycles; with a receiver, the SRC cycles in 192
of its blocks. -/
def State.srcTrim (s : State) (count : Nat) : State :=
  let t := s.fld F.CKM_SRC_TRIM
  if s.on F.CKM_STAT_XOSTABLE then
    let n := trimStep t (25000 * 10005 < count * 10000) (count * 10000 < 25000 * 9995)
    s.setReg F.CKM_SRC (at32 1 30 ||| at32 n 0)
  else match s.trimRx with
    | some (rx, r) =>
      let e := 32000000 * 36864 / r
      let n := trimStep t (count * 10000 < e * 9995) (e * 10005 < count * 10000)
      s.setReg F.CKM_SRC (at32 2 30 ||| at32 rx 27 ||| at32 n 0)
    | none => s.setReg F.CKM_SRC (at32 t 0)

/-! ## Gates (R446 to R448) -/

/-- The bits of CKG_ENn that exist. -/
def gateMask (n : Nat) : W32 := [0xFFFFFFFF, 0x007FFFFF, 0xFFFFFFFF, 0x0000FFFF].getD n 0

/-- Gates that are fixed open (R448). -/
def gateFixed (n b : Nat) : Bool := n == 1 && [2, 3, 4, 12, 15, 16, 19].contains b

/-- A channel of a lane runs and is bound, or the gangway uses it (R448). -/
def State.laneInUse (s : State) (out : Bool) (l : Nat) : Bool :=
  let mine := fun (ch : Nat) => ch < 512 && ch / 32 == l
  let bound := (if out then s.deck.outBind else s.deck.inBind).any (fun e => mine e.1 && s.running out e.1)
  bound || (if out then (List.range 64).any (fun o => s.fld (F.GW_OUTn_MODE o) != 0 && mine (s.fld (F.GW_OUTn_DST o)))
    else (List.range 32).any (fun i => mine (s.fld (F.GW_INn_SRC_SRC i))))

/-- A bound channel runs on an AES3 receiver or transmitter. -/
def State.aesBound (s : State) (out : Bool) (n : Nat) : Bool :=
  (if out then s.deck.outBind else s.deck.inBind).any (fun e => e.1 / 2 == 2048 + n && s.running out e.1)

/-- A mooring with EN 1 is bound to a link. -/
def State.linkUsed (s : State) (p : Nat → Bool) : Bool :=
  (List.range 8).any (fun m => s.on (F.MOOR_BINDm_EN m) && p (s.fld (F.MOOR_BINDm_LINK m)))

/-- The block of a gate is in use (R448). -/
def State.gateInUse (s : State) (n b : Nat) : Bool :=
  match n with
  | 0 => let st := (s.core b).state
    !(st == .idle || st == .halted || st == .retired || st == .off)
  | 1 =>
    match b with
    | 0 => s.nin * s.nbus != 0 || s.nin * s.nout != 0
    | 1 => !s.pn.spans.isEmpty
    | 5 => s.linkUsed (· < 4)
    | 6 => s.linkUsed (· == 4)
    | 7 => s.linkUsed (· == 5)
    | 8 => s.on (F.NETx_CTRL_EN 0)
    | 9 => s.on (F.NETx_CTRL_EN 1)
    | 10 => s.net.ctxs.any (fun e => e.2.run)
    | 11 => s.net.zones.any (fun e => e.2.valid)
    | 13 => bf (s.reg F.PWR_STAT) 13 12 == 0
    | 14 => insts.any (fun i => s.on (F.ASRCn_CFG_VALID i))
    | 17 => s.meters.any (fun e => e.2.en)
    | 18 => (List.range 4).any (fun i => s.on (F.MPLL_MCLKn_EN i) || s.on (F.TDMg_GCFG_MASTER i))
    | 20 => s.reg F.SCRB_EN0 != 0 || s.reg F.SCRB_EN1 != 0
    | 21 => s.on F.MARCH_STAT_RUN
    | 22 => s.side.debug
    | _ => false
  | 2 => s.laneInUse (16 ≤ b) (b % 16)
  | _ => if 8 ≤ b then s.aesBound true (b - 8)
    else s.aesBound false b || s.served 0 b || s.on (F.RSEL_INn_CFG_EN (2 + b))

/-- The clock domain of a gated block, by register and bit (chapter 0). -/
def gateDomain (n b : Nat) : Nat :=
  match n with
  | 0 => 0
  | 1 => [1, 1, 2, 3, 6, 6, 6, 6, 4, 4, 4, 4, 4, 5, 6, 6, 6, 2, 4, 3, 2, 2, 2].getD b 6
  | _ => 6

/-- A gate closes (R447). -/
def State.gateClose (s : State) (n b : Nat) : State :=
  let t := s.setReg (F.CKG_ENn n) (setBf (s.reg (F.CKG_ENn n)) b b 0)
  let t := { t with clk := { t.clk with closing := t.clk.closing.erase (n, b) } }
  let t := if t.clk.closing.isEmpty then t.setFld F.CKG_STAT_BUSY 0 else t
  t.release (fun w => w == .gate n b)

/-- CLOCK GATE (R334, R448): gates open at once and close when their ports are idle; the reply waits for those. -/
def State.gateSet (s : State) (pid n : Nat) (mask vals : W32) : State :=
  (bitsOf mask 32).foldl (fun t b =>
    if vals.getLsbD b then
      let u := { t with clk := { t.clk with closing := t.clk.closing.filter (· != (n, b)) } }
      let u := if u.clk.closing.isEmpty then u.setFld F.CKG_STAT_BUSY 0 else u
      (u.setReg (F.CKG_ENn n) (setBf (u.reg (F.CKG_ENn n)) b b 1)).release (fun w => w == .gate n b)
    else if t.clk.closing.contains (n, b) then t.addWait pid (.gate n b)
    else if !t.gateOpen n b then t
    else
      let u := { t with clk := { t.clk with closing := t.clk.closing ++ [(n, b)] } }
      (u.setFld F.CKG_STAT_BUSY 1).addWait pid (.gate n b)) s

/-! ## Media PLL (R453 to R458) -/

/-- The VCO frequency of a rate in MHz, rounded down; it is never whole (R453). -/
def vcoMhz (rate : Nat) : Nat := if rate % 2 = 0 then 2890 else 3145

/-- The band entry for a rate (R454). -/
def State.bandFor (s : State) : Option Nat :=
  (List.range 16).find? (fun k =>
    s.on (F.MPLL_BANDk_VALID k) && s.fld (F.MPLL_BANDk_FMIN k) ≤ vcoMhz s.rate
      && vcoMhz s.rate + 1 ≤ s.fld (F.MPLL_BANDk_FMAX k))

/-- The MPLL is not locked. -/
def State.mpllUnlock (s : State) : State :=
  ((s.mark F.MPLL_STAT_UNLK (s.on F.MPLL_STAT_LOCK)).setFld F.MPLL_STAT_LOCK 0).clearReady [F.SYS_READY_MPLL]

/-- A band selection (R454): MOUT stops until the MPLL has locked. -/
def State.mpllSelect (s : State) : State :=
  let t := (s.mpllUnlock.setFld F.MPLL_STAT_COAST 0)
  let t := { t with clk := { t.clk with band := s.bandFor, mout := false } }
  match s.bandFor with
  | some k => (t.setFld F.MPLL_STAT_NOBAND 0).setFld F.MPLL_STAT_BAND k
  | none => t.setFld F.MPLL_STAT_NOBAND 1

/-- The MPLL locks (R455). -/
def State.mpllLock (s : State) : State :=
  let t := { (s.setFld F.MPLL_STAT_LOCK 1).setFld F.MPLL_STAT_COAST 0 with clk := { s.clk with mout := true } }
  t.setReady [F.SYS_READY_MPLL]

/-- LOCKMON carries no pulse (R458). -/
def State.lockmonDark (s : State) : Bool :=
  s.on F.MPLL_STAT_COAST || s.clk.band.isNone || !s.gateOpen 1 18

/-- The ones of LOCKMON in 20,000 pulses, at a phase error in ps (R458). -/
def State.lockmonOnes (s : State) (e : Int) : Nat := if s.lockmonDark then 0 else 20000 - min e.natAbs 20000

/-- The multiples of MCLK outputs that take effect at a frame boundary (R456). -/
def State.mclkEdge (s : State) : State :=
  let t := s.clk.newMclk.foldl (fun t e => t.setFld (F.MPLL_MCLKn_MULT e.1) e.2) s
  { t with clk := { t.clk with newMclk := [] } }.release (fun w => w == Wait.mclk)

end Sys2Proof.Machine
end

