-- ==== Sys2Proof/Machine/Rsel.lean ====
section
/-! DEFINITION. Machine/Rsel.lean: the reference selector: inputs, decisions, switches, output phase and REALIGN (R459 to
R472). -/

namespace Sys2Proof.Machine

/-! ## Parameters (R459) -/

/-- The kind of an input: 0 PTP, 1 WCLK_IN and AESRX, 2 REF10M_IN, 3 PPS_IN. -/
def refKind (i : Nat) : Nat := if i = 0 then 0 else if i < 10 then 1 else if i = 10 then 2 else 3

/-- Bandwidth in mHz: default, lowest, highest. -/
def refBw (i : Nat) : Nat × Nat × Nat := [(100, 10, 1000), (5000, 100, 50000), (500, 10, 5000), (20, 1, 100)].getD (refKind i) (0, 0, 0)

/-- Window in 0.1 ppm: default, lowest, highest. -/
def refTol (i : Nat) : Nat × Nat × Nat := [(1000, 10, 5000), (500, 10, 5000), (50, 1, 1000), (10, 1, 100)].getD (refKind i) (0, 0, 0)

/-- The lock limit in ns; PTP's is that the servo is LOCKED. -/
def refLock (i : Nat) : Nat := [0, 20, 5, 50].getD (refKind i) 0

/-- A field's value, 0 selecting the default; none outside the range. -/
def refVal (v : Nat) (p : Nat × Nat × Nat) : Option Nat :=
  if v = 0 then some p.1 else if p.2.1 ≤ v ∧ v ≤ p.2.2 then some v else none

/-! ## Inputs (R460 to R462) -/

def refOff : Nat := 0
def refAbs : Nat := 1
def refOut : Nat := 2
def refWait : Nat := 3
def refQual : Nat := 4
def refDrift : Nat := 5

def State.refState (s : State) (i : Nat) : Nat := s.fld (F.RSEL_INn_STAT_STATE i)
def State.refEn (s : State) (i : Nat) : Bool := s.on (F.RSEL_INn_CFG_EN i)

/-- An input enters a state; WAIT and DRIFT start their times. -/
def State.setRef (s : State) (i st : Nat) : State :=
  let ms := if st = refWait then 100 * s.fld (F.RSEL_INn_CFG_WTR i)
    else if st = refDrift then 100 * s.fld (F.RSEL_INn_TOL_QT i) else 0
  let t := s.setFld (F.RSEL_INn_STAT_STATE i) st
  { t with rsel := { t.rsel with left := t.rsel.left.set i ms } }

/-- A measured rate is the engine rate x 2^k for a k from -2 to 2, within 0.5 % (R460). -/
def ratioOk (rate hz : Nat) : Bool :=
  (List.range 5).any (fun j => let e := rateHz rate * 2 ^ j
    995 * e ≤ 4000 * hz && 4000 * hz ≤ 1005 * e)

/-- The rate of a NOM code (R427). -/
def nomHz (c : Nat) : Nat := [0, 32000, 44100, 48000, 88200, 96000, 176400, 192000].getD c 0

/-- An input may be present, by what the engine itself knows of it (R460). -/
def State.refPresent (s : State) (i hz : Nat) : Bool :=
  if i = 0 then s.fld F.TIME_STAT_SERVO == svAcq || s.fld F.TIME_STAT_SERVO == svLock
  else if i = 1 then ratioOk s.rate hz
  else if i < 10 then
    s.on (F.AESRXn_STAT_LOCK (i - 2)) && ratioOk s.rate (nomHz (s.fld (F.AESRXn_STAT_NOM (i - 2))))
  else true

/-! ## Selection (R463, R464) -/

def selFree : Nat := 0
def selLocking : Nat := 1
def selLocked : Nat := 2
def selSwitch : Nat := 3
def selHold : Nat := 4

def State.selState (s : State) : Nat := s.fld F.RSEL_STAT_STATE

/-- An input is a candidate (R463). -/
def State.candidate (s : State) (i : Nat) : Bool :=
  s.refEn i && s.refState i == refQual && (s.fld F.RSEL_STAT_MODE != 2 || s.fld F.RSEL_STAT_FORCED == i)

/-- The better of two candidates: the lower rank, then the lower code. -/
def State.better (s : State) (a : Option Nat) (i : Nat) : Option Nat :=
  match a with
  | none => some i
  | some b => if s.fld (F.RSEL_INn_CFG_RANK i) < s.fld (F.RSEL_INn_CFG_RANK b) then some i else some b

/-- The best candidate. -/
def State.best (s : State) : Option Nat := ((List.range 12).filter s.candidate).foldl s.better none

/-- An input is lost: not qualified, or not enabled. -/
def State.refLost (s : State) (i : Nat) : Bool :=
  !(s.refEn i && (s.refState i == refQual || s.refState i == refDrift))

/-- The selector moves to a state with an input selected or targeted, and says so (R470). -/
def State.selMove (s : State) (st input cause : Nat) : State :=
  let old := s.selState
  let t := (s.setFld F.RSEL_STAT_STATE st).setFld F.RSEL_STAT_SEL input
  let ph := if input = 15 then 0 else s.reg (F.RSEL_INn_PH input)
  t.notice nREFSEL
    [at32 old 29 ||| at32 st 26 ||| at32 s.rsel.sel 20 ||| at32 input 16 ||| at32 cause 0, ph, lo32 s.tt.frame]

/-- HOLDOVER: the DCO's word is kept in DCO_HOLD (R404, R464). -/
def State.selHoldover (s : State) (cause : Nat) : State :=
  let t := (s.setReg F.DCO_HOLD (s.reg F.DCO_FREQ)).selMove selHold 15 cause
  { t with rsel := { t.rsel with sel := 15 } }

/-- No input is selected any more: HOLDOVER, or FREERUN where none ever was, in which every input in WAIT becomes QUAL at once
(R462). -/
def State.selIdle (s : State) (cause : Nat) : State :=
  if s.rsel.ever then s.selHoldover cause
  else
    let t := s.selMove selFree 15 cause
    (List.range 12).foldl (fun u i => if u.refState i = refWait then u.setRef i refQual else u)
      { t with rsel := { t.rsel with sel := 15 } }

/-- No input is selected any more; in FREERUN the best candidate is taken. -/
def State.selNone (s : State) (cause : Nat) : State :=
  let t := s.selIdle cause
  match t.best with
  | some i => if t.selState = selFree then t.selMove selSwitch i 1 else t
  | none => t

/-- The last measurement of a present input held against its window (R461, R462). -/
def State.refJudge (s : State) (i : Nat) : State :=
  let inside := (BitVec.ofNat 16 (s.fld (F.RSEL_INn_STAT_FOFS i))).toInt.natAbs ≤ s.fld (F.RSEL_INn_TOL_TOL i)
  let st := s.refState i
  let new := if inside then (if st = refDrift then refQual else if st ≤ refOut then refWait else st)
    else if st = refQual then refDrift else if st = refDrift then refDrift else refOut
  let t := if new = st then s else s.setRef i new
  if t.refState i = refWait ∧ t.selState = selFree then t.setRef i refQual else t

/-- The changes of INPUT and MODE in force (R342, R464): a new EN moves the input out of or into OFF, and a new window judges the
measurement that an input has. -/
def State.refApply (s : State) (regs : SMap W32) : State :=
  regs.foldl (fun t e =>
    if e.1 = F.RSEL_STAT then
      (t.setFld F.RSEL_STAT_MODE (bf e.2 17 16)).setFld F.RSEL_STAT_FORCED (bf e.2 15 12)
    else
      let i := (e.1 - F.RSEL_INn_CFG 0) / 32
      let was := t.refEn i
      let u := t.setReg e.1 e.2
      if u.refEn i = was then (if refOut ≤ u.refState i then u.refJudge i else u)
      else u.setRef i (if was then refOff else refAbs)) s

/-- A REALIGN, or a command that changes the selector, still waits for a switch. -/
def State.deferFlag (s : State) (frame : Nat) : State :=
  s.setFld F.RSEL_STAT_DEFER (if s.rsel.realigns.any (fun r => r.frame ≤ frame) || !s.rsel.newRegs.isEmpty then 1 else 0)

/-- The commands that waited for a switch apply as it ends (R342). -/
def State.refWaited (s : State) : State :=
  if s.rsel.newRegs.isEmpty then s
  else ({ s with rsel := { s.rsel with newRegs := [] } }.refApply s.rsel.newRegs).deferFlag (s.msi / 16)

/-- A switch whose target is lost ends with no input selected; what waited applies, and the selector decides at once. -/
def State.endSwitch (s : State) (cause : Nat) : State :=
  let t := s.refWaited
  match t.best with
  | some i => { t.selMove selSwitch i cause with rsel := { t.rsel with sel := 15 } }
  | none => t.selNone cause

/-- A decision (R463, R464), which after step 3 of a rate change waits for its completion where the selected input is lost (R472),
unless a command asks for it;
a cause of 2, 6 or 7 stands for what asked for it, else the loss or the better input does. The
firmware decides (R471). -/
def State.selDecide (s : State) (why : Option Nat) : State :=
  let st := s.selState
  if !s.firmware || (s.rsel.rateDue && (st == selLocking || st == selLocked) && s.refLost s.rsel.sel && why.isNone) then s
  else
    if st = selSwitch then (if s.refLost (s.fld F.RSEL_STAT_SEL) then s.endSwitch (why.getD 0) else s)
    else if st = selFree ∨ st = selHold then
      match s.best with
      | some i => s.selMove selSwitch i (why.getD 1)
      | none => s
    else if s.refLost s.rsel.sel then
      match s.best with
      | some i => s.selMove selSwitch i (why.getD 0)
      | none => s.selHoldover (why.getD 0)
    else match s.best with
      | some i =>
        if s.fld F.RSEL_STAT_MODE == 0
            && s.fld (F.RSEL_INn_CFG_RANK i) < s.fld (F.RSEL_INn_CFG_RANK s.rsel.sel) then
          s.selMove selSwitch i (why.getD 1)
        else s
      | none => s

/-- An input has changed: the end of the sample period decides, after all that changed in it (R473, log 154); a switch whose target is
lost ends at once (R464). -/
def State.selAsk (s : State) : State :=
  if s.selState = selSwitch ∧ s.refLost (s.fld F.RSEL_STAT_SEL) then s.selDecide none
  else { s with rsel := { s.rsel with due := true } }

/-- The decision of a sample period. -/
def State.selTick (s : State) : State :=
  if s.rsel.due then { s with rsel := { s.rsel with due := false } }.selDecide none else s

/-- PTP follows the servo: absent unless it is ACQUIRING or LOCKED, and locked with it (R459, R460, R464). -/
def State.ptpFollow (s : State) : State :=
  let sv := s.fld F.TIME_STAT_SERVO
  if s.refEn 0 && s.refState 0 != refAbs && !s.refPresent 0 0 then (s.setRef 0 refAbs).selAsk
  else if !s.firmware || s.fld F.RSEL_STAT_SEL != 0 || s.refLost 0 then s
  else if s.selState = selLocking ∧ sv = svLock then s.selMove selLocked 0 4
  else if s.selState = selLocked ∧ sv ≠ svLock then s.selMove selLocking 0 5
  else s

/-- A measurement of an input completes (R461, R462): its offset in 0.1 ppm, and for WCLK_IN its rate. -/
def State.refMeasured (s : State) (i : Nat) (offset : Int) (hz : Nat) : State :=
  if !s.refEn i then s
  else
    let s := if i = 1 then { s with rsel := { s.rsel with wclk := hz } } else s
    let s := s.setFld (F.RSEL_INn_STAT_FOFS i) (BitVec.ofInt 16 (satS 16 offset)).toNat
    (if s.refPresent i hz then s.refJudge i else s.setRef i refAbs).selAsk

/-! ## Switches and loops (R464 to R466) -/

/-- A command changes the selector: at once, or after the switch in progress (R464). -/
def State.refCommand (s : State) (regs : SMap W32) : State :=
  if s.selState = selSwitch then
    { s.setFld F.RSEL_STAT_DEFER 1 with
      rsel := { s.rsel with newRegs := regs.foldl (fun m e => ins m e.1 e.2) s.rsel.newRegs } }
  else (s.refApply regs).selDecide (some 2)

/-- The switch measurement completes (R465): the phase is absorbed, and commands that waited apply. -/
def State.switchDone (s : State) (a : Int) : State :=
  let i := s.fld F.RSEL_STAT_SEL
  let t := s.setReg (F.RSEL_INn_PH i) (BitVec.ofInt 32 a)
  let t := t.setFld F.RSEL_STAT_SWITCHES ((t.fld F.RSEL_STAT_SWITCHES + 1) % 256)
  let t := t.selMove selLocking i 3
  let regs := t.rsel.newRegs
  let t := { t with rsel := { t.rsel with sel := i, ever := true, good := 0, bad := 0, err := 0, at_ := t.time.t48 } }
  let t := t.refWaited.deferFlag (t.msi / 16)
  (t.selDecide (if regs.isEmpty then none else some 2)).ptpFollow

/-- A phase sample of the selected input, in ns (R464, R466): the loop writes its word, and the phase error is judged. -/
def State.refSample (s : State) (i : Nat) (phase : Int) : State :=
  let st := s.selState
  if !s.firmware || i == 0 || i != s.rsel.sel || !(st == selLocking || st == selLocked) || s.refLost i then s
  else
    let x := (phase - (s.reg (F.RSEL_INn_PH i)).toInt) * 2 ^ 16
    let t := s.setFreq (s.freq + loopStep (s.fld (F.RSEL_INn_BW_BW i)) x s.rsel.err (s.time.t48 - s.rsel.at_))
    let t := { t with rsel := { t.rsel with err := x, at_ := t.time.t48 } }
    let e := x.natAbs / 2 ^ 16
    let good := if e ≤ refLock i then s.rsel.good + 1 else 0
    let bad := if 10 * refLock i < e then s.rsel.bad + 1 else 0
    let put := fun (u : State) (g b : Nat) => { u with rsel := { u.rsel with good := g, bad := b } }
    if st = selLocking ∧ 16 ≤ good then put (t.selMove selLocked i 4) 0 0
    else if st = selLocked ∧ 4 ≤ bad then put (t.selMove selLocking i 5) 0 0
    else put t good bad

/-- A switch in progress is abandoned as the XO fails, and none begins in its place (R473). -/
def State.abandonSwitch (s : State) : State := if s.selState = selSwitch then s.refWaited.selIdle 0 else s

/-- The controllers have restarted (R471). -/
def State.selRestart (s : State) : State :=
  let s := s.refWaited
  match s.best with
  | some i => s.selMove selSwitch i 6
  | none => if s.selState = selHold then s else s.selHoldover 6

/-- Step 3 of a rate change: WCLK_IN and AES3 inputs judged against the new rate (R472). -/
def State.refRate (s : State) : State :=
  let t := ((List.range 9).map (· + 1)).foldl (fun t i =>
    if refOut ≤ t.refState i && !t.refPresent i t.rsel.wclk then t.setRef i refAbs else t) s
  { t with rsel := { t.rsel with rateDue := true, due := true } }

/-- The decision that a completed rate change owes (R472). -/
def State.refRateDone (s : State) : State :=
  let lost := (s.selState == selLocking || s.selState == selLocked) && s.refLost s.rsel.sel
  if s.rsel.rateDue then { s with rsel := { s.rsel with rateDue := false } }.selDecide (if lost then some 7 else none) else s

/-- A millisecond passes for the inputs' times (R462). -/
def State.refTick (s : State) : State := { s with rsel := { s.rsel with left := s.rsel.left.map (· - 1) } }

/-! ## Output phase (R468, R469) -/

/-- OPH of an output: 0 to 5 for WCLK_OUT, PPS_OUT and the FSYNC outputs. -/
def State.ophOf (s : State) (k : Nat) : Nat :=
  let st := s.selState
  let i := s.rsel.sel
  if !(st == selLocking || st == selLocked) || i == 0 || i == 15 then 0
  else
    let a := (s.reg (F.RSEL_INn_PH i)).toInt
    if k = 1 then (a % 1000000000).toNat
    else
      let x := (a * rateHz s.rate) % 1000000000
      (roundDiv (x * 1024) 1000000000).toNat % 1024

/-- A REALIGN at its boundary (R343, R469): a realigned group runs dry for the length of its fade (R410). -/
def State.realign (s : State) (outs : W32) : State :=
  (bitsOf outs 6).foldl (fun t k =>
    let new := t.ophOf k
    let u := t.setReg (F.RSEL_OPHk k) (BitVec.ofNat 32 new)
    if k < 2 then u else u.slipDry (k - 2) u.msi) s

/-- A frame boundary: the REALIGNs that have come due, unless a switch runs (R469). -/
def State.realignEdge (s : State) (frame : Nat) : State :=
  if s.selState = selSwitch then s.deferFlag frame
  else
    let due := s.rsel.realigns.filter (fun r => r.frame ≤ frame)
    let t := due.foldl (fun t r => t.realign r.outs) s
    let t := { t with rsel := { t.rsel with realigns := t.rsel.realigns.filter (fun r => frame < r.frame) } }
    let t := due.foldl (fun t r => t.release (fun w => w == .realign r.pid)) t
    if due.isEmpty then t else t.setFld F.RSEL_STAT_DEFER (if t.rsel.newRegs.isEmpty then 0 else 1)

end Sys2Proof.Machine
end

