-- ==== Sys2Proof/Machine/Banks.lean ====
section
/-! DEFINITION. Machine/Banks.lean: the banks: power, fill, raw mode, scrubbing, marches, and the wipe of the secure bank
(R485 to R509). -/

namespace Sys2Proof.Machine

/-! ## Banks and their power domains (R475, R502) -/

/-- The banks. -/
def allBanks : List Nat := List.range 40

/-- A bank serves: powered, filled, without a failed march (R498, R499); a bank that an ENGINE reset fills does not yet
(R552). -/
def State.bankServes (s : State) (b : Nat) : Bool :=
  s.bankOn b && s.on (F.BANK_STATb_READY b) && !s.pwr.refill.contains b

/-- The INDEX of an error in a bank (R489). -/
def State.eccIndex (s : State) (a : Nat) : Nat :=
  match bankOf a with
  | some 3 =>
    let c := xmCoord s.console ((a - 0x50000000) / 16)
    (if c.1 then 2 ^ 31 else 0) + c.2.1 * 65536 + c.2.2
  | some 4 => (a - 0x58000000) / 128
  | some 5 => 2 ^ 30 + (a - 0x5C000000) / 16
  | _ => 0

/-- A bank is expendable (R497). -/
def State.expendable (s : State) (b : Nat) : Bool :=
  match b with
  | 0 => false
  | 1 => false
  | 2 => false
  | 3 => s.nin * s.nbus == 0 && s.nin * s.nout == 0
  | 4 => s.pn.spans.isEmpty
  | 5 => s.pn.spans.isEmpty
  | 6 => s.net.ctxs.isEmpty
  | 7 => s.tt.active.isEmpty && (match s.tt.pend with
      | some p => p.phases.isEmpty
      | none => true) && s.deck.inBind.isEmpty && s.deck.outBind.isEmpty
  | b => (s.core (b - 8)).state == .idle || (s.core (b - 8)).state == .halted

/-- A fill writes every code word of a bank: its error marks go, and in fast start its lines are valid (R500, R501). -/
def State.fillMarks (s : State) (b : Nat) : State :=
  (s.clearMarks (bankBase b) (bankSize b)).validate (bankBase b) (bankSize b)

/-- The words of a bank written by a fill (R500); its error marks go. -/
def State.fillBank (s : State) (b : Nat) : State :=
  let t := s.fillMarks b
  match b with
  | 1 => { t with sec := { t.sec with keys := [], slots := [] }, mem := delRange t.mem (bankBase b) (bankSize b) }
  | 3 => { t with xm := { t.xm with entries := [] } }
  | 4 => { t with pn := { t.pn with fast := false, sections := [] } }
  | 5 => { t with pn := { t.pn with spans := [] } }
  | 6 => { t with net := { t.net with bank := [] }, ecc := { t.ecc with held := [] } }
  | 7 => { t with deck := { t.deck with words := [] } }
  | b => if 8 ≤ b then t.modCore (b - 8) (fun k => { k with mems := zeroMems })
    else { t with mem := delRange t.mem (bankBase b) (bankSize b) }

/-- An armed flip in a bank is dropped (R493). -/
def State.disarm (s : State) (b : Nat) : State :=
  if bankOf (s.reg F.ECC_FLIP_ADDR).toNat = some b then s.setFld F.ECC_FLIP_CTL_ARM 0 else s

/-! ## Raw mode (R492) -/

/-- A write of ECC_TEST_CTRL: a bank above 39 is reserved (R18); RAW is set only on an expendable bank. -/
def State.eccTestWrite (s : State) (v : W32) : State :=
  let b := if bf v 5 0 < 40 then bf v 5 0 else s.fld F.ECC_TEST_CTRL_BANK
  let t := if bit v 30 then s.setFld F.ECC_TEST_CTRL_REFUSED 0 else s
  let t := t.setFld F.ECC_TEST_CTRL_BANK b
  if !bit v 31 then t.setFld F.ECC_TEST_CTRL_RAW 0
  else if t.expendable b then t.setFld F.ECC_TEST_CTRL_RAW 1
  else (t.setFld F.ECC_TEST_CTRL_RAW 0).setFld F.ECC_TEST_CTRL_REFUSED 1

/-! ## Scrubbing (R490, R491) -/

/-- The code words of a bank, as the scrubber counts them. -/
def bankWords (b : Nat) : Nat :=
  if 8 ≤ b then 75776 else [262144, 65536, 0, 1048576, 524288, 8192, 1048576, 524288].getD b 0

/-- The address of a code word of a bank. -/
def wordAddr (b a : Nat) : Nat :=
  if 8 ≤ b then bankBase b +
    (if a < 8192 then 8 * a
     else if a < 40960 then 0x40000 + 4 * (a - 8192)
     else if a < 73728 then 0x80000 + 4 * (a - 40960)
     else if a < 74752 then 0xC0000 + 4 * (a - 73728)
     else 0xC1000 + 4 * (a - 74752))
  else bankBase b + (if b = 0 ∨ b = 3 ∨ b = 4 ∨ b = 5 then 8 * a else 4 * a)

/-- The code word of a bank that holds an address, as a number. -/
def wordIx (b a : Nat) : Nat :=
  let o := a - bankBase b
  if 8 ≤ b then
    (if o < 0x40000 then o / 8
     else if o < 0x80000 then 8192 + (o - 0x40000) / 4
     else if o < 0xC0000 then 40960 + (o - 0x80000) / 4
     else if o < 0xC1000 then 73728 + (o - 0xC0000) / 4
     else 74752 + (o - 0xC1000) / 4)
  else if b = 0 ∨ b = 3 ∨ b = 4 ∨ b = 5 then o / 8 else o / 4

/-- The first code word of a bank at or above number p that the scrubber reads: in fast start it passes over the lines whose valid
bits are clear (R490, R501); the number of words without one. -/
def State.scrubFrom (s : State) (b p : Nat) : Nat :=
  if !s.on (F.BANK_STATb_VB b) || s.ecc.full.contains b then p
  else
    let mine := s.ecc.lines.filter (fun l => bankOf (64 * l) == some b)
    let next := fun (l : Nat) =>
      let i := wordIx b (64 * l)
      if p ≤ i then i else if p < i + 64 / codeBytes (64 * l) then p else bankWords b
    mine.foldl (fun n l => min n (next l)) (bankWords b)

/-- The scrub enable of a bank; bank 2 has none. -/
def State.scrubOn (s : State) (b : Nat) : Bool :=
  b != 2 && (if b < 32 then (s.reg F.SCRB_EN0).getLsbD b else (s.reg F.SCRB_EN1).getLsbD (b - 32))

/-- The next word to scrub from word p of bank b on, as bank and word, and whether an enabled bank was passed over because it was not
ON. -/
def State.scrubNext (s : State) : Nat → Nat → Nat → Bool → Option (Nat × Nat) × Bool
  | 0, _, _, k => (none, k)
  | n + 1, b, p, k =>
    if 40 ≤ b then (none, k)
    else if !s.scrubOn b then s.scrubNext n (b + 1) 0 k
    else if !s.bankOn b then s.scrubNext n (b + 1) 0 true
    else if s.scrubFrom b p < bankWords b then (some (b, s.scrubFrom b p), k)
    else s.scrubNext n (b + 1) 0 k

/-- A lap ends after so many FAB cycles. -/
def State.scrubLap (s : State) (cycles : Nat) : State :=
  let t := (s.setReg F.SCRB_LAP (lo32 cycles)).mark F.SCRB_STAT_SKIP s.ecc.lapSkip
  { ((t.setFld F.SCRB_STAT_BANK 0).setFld F.SCRB_STAT_POS 0).setFld F.SCRB_STAT_RUN 0 with
    ecc := { t.ecc with lapSkip := false } }

/-- What the scrubber does with the word it reads; errors already known to the model count too. -/
def State.scrubRead (s : State) (a : Nat) (found : Finding) : State :=
  let bad := found == .uncorrectable || s.markAt a == some .bad
  let single := found == .single || s.markAt a == some .single
  if bad then
    let t := (s.setMark a (some .bad)).ueRecord a
    if s.ecc.known.contains a then t
    else { t with ecc := { t.ecc with known := a :: t.ecc.known } }.eccNotice ((bankOf a).getD 0) 1 6 a (t.eccIndex a)
  else if single then
    let t := (s.setMark a none).ceRecord a
    t.setReg F.SCRB_CNT (t.reg F.SCRB_CNT + 1)
  else s

/-- The scrubber reads one word (R490); cycles are the FAB cycles of the lap, should it end. -/
def State.scrubWord (s : State) (found : Finding) (cycles : Nat) : State :=
  let n := s.scrubNext 41 (s.fld F.SCRB_STAT_BANK) (s.fld F.SCRB_STAT_POS) s.ecc.lapSkip
  let s1 := { s with ecc := { s.ecc with lapSkip := n.2 } }
  match n.1 with
  | none => if s.on F.SCRB_STAT_RUN then s1.scrubLap cycles else s
  | some (b, p) =>
    let t := (s1.setFld F.SCRB_STAT_RUN 1).scrubRead (wordAddr b p) found
    let m := t.scrubNext 41 b (p + 1) t.ecc.lapSkip
    match m.1 with
    | some (nb, np) => { (t.setFld F.SCRB_STAT_BANK nb).setFld F.SCRB_STAT_POS np with ecc := { t.ecc with lapSkip := m.2 } }
    | none => { t with ecc := { t.ecc with lapSkip := m.2 } }.scrubLap cycles

/-! ## Spare rows and columns (R496) -/

/-- A sub-array of a bank as the maps of repairs name it. -/
def subKey (b sub : Nat) : Nat := bankBase b / 0x10000 + sub

/-- The rows and columns that a map of repairs holds for a bank. -/
def repairsOf (m : SMap (Nat × Nat)) (b : Nat) : Nat :=
  m.foldl (fun n (e : Nat × Nat × Nat) => if bankOf (0x10000 * e.1) == some b then n + e.2.1 + e.2.2 else n) 0

/-- Repairs of a failing sub-array: rows and columns are taken from the 2 spare rows and 2 spare columns that no repair, fused or
soft, uses yet; none are where they do not suffice. -/
def State.repair (s : State) (b : Nat) (f : SubFail) : State :=
  let k := subKey b f.sub
  let u := lookD s.otp.fused (0, 0) k
  let v := lookD s.ecc.soft (0, 0) k
  if f.rows + u.1 + v.1 ≤ 2 ∧ f.cols + u.2 + v.2 ≤ 2 then
    { s with ecc := { s.ecc with soft := insD s.ecc.soft (0, 0) k (v.1 + f.rows, v.2 + f.cols) } }
  else s

/-- The spares cover a failing sub-array, and it passes when it is marched once more (log 174). -/
def State.covers (s : State) (b : Nat) (f : SubFail) : Bool :=
  let u := lookD s.otp.fused (0, 0) (subKey b f.sub)
  let v := lookD s.ecc.soft (0, 0) (subKey b f.sub)
  f.rows + u.1 + v.1 ≤ 2 && f.cols + u.2 + v.2 ≤ 2 && !f.again

/-- A march of a bank with what it finds in its sub-arrays: the soft repairs, counted in REPAIRS, and whether it passes (R496,
R498). -/
def State.marched (s : State) (b : Nat) (fails : List SubFail) : State × Bool :=
  let mine := fails.filter (fun f => 0x10000 * f.sub < bankSize b)
  let r := mine.foldl (fun (x : State × Bool) f => (x.1.repair b f, x.2 && x.1.covers b f)) (s, true)
  (r.1.setFld (F.BANK_STATb_REPAIRS b) (min 255 (repairsOf r.1.ecc.soft b)), r.2)

/-- The repairs fused in production are loaded; FUSEREP counts them. -/
def State.fusesLoad (s : State) (b : Nat) : State :=
  (s.setFld (F.BANK_STATb_FUSEREP b) (min 255 (repairsOf s.otp.fused b))).setFld (F.BANK_STATb_REPAIRS b)
    (min 255 (repairsOf s.ecc.soft b))

/-- A power-on march starts without soft repairs. -/
def State.softDrop (s : State) (b : Nat) : State :=
  { s with ecc := { s.ecc with soft := s.ecc.soft.filter (fun (e : Nat × Nat × Nat) => bankOf (0x10000 * e.1) != some b) } }

/-! ## Marches (R494 to R498) -/

/-- A requested march starts. -/
def State.marchStart (s : State) (b : Nat) (pres : Bool) : State :=
  let t := s.setReg F.MARCH_STAT (flag true 31 ||| flag pres 30 ||| at32 b 24)
  let t := t.setReg (F.MARCH_RESb b) (at32 1 29)
  if pres then t else t.disarm b

/-- A requested march ends: a destructive one is followed by the fill. A failure names a code word. -/
def State.marchEnd (s : State) (fails : List SubFail) (addr : Nat) : State :=
  let b := s.fld F.MARCH_STAT_BANK
  let r := s.marched b fails
  let new := repairsOf r.1.ecc.soft b - repairsOf s.ecc.soft b
  let t := r.1.setReg F.MARCH_STAT (s.reg F.MARCH_STAT &&& 0x7FFFFFFF)
  let t := t.setReg (F.MARCH_RESb b) (flag true 31 ||| flag r.2 30 ||| at32 (min 255 new) 16)
  let t := if s.on F.MARCH_STAT_PRES then t else t.fillBank b
  if r.2 then t else t.eccNotice b 2 6 addr (t.eccIndex addr)

/-- A requested march is abandoned, and its bank filled; the secure bank is filled only at POR (R509, R510, log 47). -/
def State.marchAbandon (s : State) : State :=
  if s.on F.MARCH_STAT_RUN then
    let b := s.fld F.MARCH_STAT_BANK
    let t := (s.setFld F.MARCH_STAT_RUN 0).setFld (F.MARCH_RESb_RUN b) 0
    if b = 1 then t else t.fillBank b
  else s

/-! ## The secure bank (R503 to R509) -/

/-- The secure bank wiped: every key, hash and word of the firmware store is 0. -/
def State.wipeSecure (s : State) : State :=
  { s with sec := { s.sec with keys := [], slots := [], later := [] }, mem := delRange s.mem 0x30000000 0x40000 }.wrote 0x30000000 0x40000

/-- Tamper is detected while PD0 is powered (R504, R505): a wipe starts, or the CAUSE joins the one in progress. -/
def State.tamper (s : State) (cause : Nat) : State :=
  if s.pwr.por then s
  else
    let t := s.setFld F.SEC_STAT_CAUSE (s.fld F.SEC_STAT_CAUSE ||| cause)
    match s.sec.wipe with
    | some (c, f) => { t with sec := { t.sec with wipe := some (c ||| cause, f) } }
    | none =>
      let w := t.wipeSecure
      { w with sec := { w.sec with wipe := some (cause, s.tt.frame) } }

/-- A reader of the secure bank reads [a, a + n): single-bit errors are corrected; an uncorrectable word starts a wipe (R486, R487,
R504). -/
def State.secureRead (s : State) (a n : Nat) : State :=
  let t := s.fixSingles a n
  match t.badIn a n with
  | some w => (t.ueRecord w).tamper 8
  | none => t

/-- A tamper wipe completes (R505, R506). -/
def State.wipeDone (s : State) : State :=
  match s.sec.wipe with
  | none => s
  | some (c, f) =>
    let t := (({ s with sec := { s.sec with wipe := none } }.setFld F.SEC_STAT_WIPED 1).bump F.SEC_WIPES_WIPES).alertBit 3
    t.notice nTAMPER [at32 c 0, at32 (t.fld F.SEC_WIPES_WIPES) 0, lo32 f]

/-- SEC_STAT (R503). -/
def State.secStat (s : State) : W32 :=
  let keyed := if s.sec.wipe.isSome then [] else s.sec.keys.map (·.1)
  let slots := if s.sec.wipe.isSome then [] else s.sec.slots.map (·.1)
  flag s.sec.wipe.isSome 31 ||| (s.reg F.SEC_STAT &&& 0x400F0000) ||| at32 (wordOf keyed).toNat 8
    ||| at32 (wordOf slots).toNat 4

end Sys2Proof.Machine
end

