-- ==== Sys2Proof/Machine/Dram.lean ====
section
/-! DEFINITION. Machine/Dram.lean: the DRAM controller: training, refresh, patrol, errors, delay lines, players and
recorders (R513 to R540). -/

namespace Sys2Proof.Machine

/-! ## Capacity and errors (R513 to R518) -/

def dramBase : Nat := 0x100000000

/-- Installed and usable capacity in MiB of a density code. -/
def dramCap (d : Nat) : Nat × Nat :=
  [(2048, 1792), (3072, 2688), (4096, 3584), (6144, 5376), (8192, 7168)].getD d (0, 0)

/-- Usable bytes. -/
def State.dramBytes (s : State) : Nat := s.fld F.DRC_CAP_USE * 2 ^ 20

/-- Where a line of DRAM lies (R516): channel, bank, row, the column of its data and that of its check bytes, in bytes. -/
structure DramPlace where
  chan : Nat
  bank : Nat
  row : Nat
  col : Nat
  chk : Nat
  deriving DecidableEq, Repr

/-- The placement of line l (R516): 28 lines to a page of 2 KiB. -/
def dramPlace (l : Nat) : DramPlace :=
  { chan := l / 28 % 2, bank := l / 28 / 2 % 8, row := l / 28 / 16, col := l % 28 * 64, chk := 1792 + l % 28 * 8 }

/-- The line of a usable address. -/
def lineOf (a : Nat) : Nat := (a - dramBase) / 64

/-- The DRC serves its ports (R537). -/
def State.dramServes (s : State) : Bool := s.on F.SYS_READY_DRC

/-- An uncorrectable error met by a port (R518). -/
def State.dramUe (s : State) (a port : Nat) : State :=
  (((s.alertBit 5).setFld F.DRC_STAT_UE 1).setReg F.DRC_UELO (lo32 (codeWord a))).setReg F.DRC_UEHI
    (at32 port 16 ||| at32 (bf (hi32 a) 7 0) 0)

/-- A port reads [a, a + n): single-bit errors are corrected and counted, an uncorrectable one is recorded (R517, R518). -/
def State.dramScan (s : State) (a n port : Nat) : State :=
  if s.marks.isEmpty then s
  else
    let here := s.marks.filter (fun e => codeWord a ≤ e.1 && e.1 < a + n)
    here.foldl (fun t e => match e.2 with
      | .single => (t.setMark e.1 none).bump F.DRC_CE_CE
      | .bad => t.dramUe e.1 port) s

/-- A word at an address of DRAM as a pass reads it: an uncorrectable word and one beyond the capacity read as 0 (R477,
R537). -/
def State.dramWord (s : State) (a port : Nat) : State × W32 :=
  if dramBase + s.dramBytes ≤ a then (s.bump F.FAB_STAT_HOLE, 0)
  else
    let t := s.dramScan a 4 port
    (t, if t.bad a 4 then 0 else t.word a)

/-- Words stored by a port at addresses of DRAM, as one access: code words that they cover whole are replaced, others are read and
merged, which an uncorrectable one makes an error of (R517, R518). What lies beyond the capacity is dropped (R477). -/
def State.dramPut (s : State) (port : Nat) (ws : List (Nat × W32)) : State :=
  let fit := ws.filter (fun (e : Nat × W32) => e.1 < dramBase + s.dramBytes)
  let has := fun (a : Nat) => fit.any (fun (e : Nat × W32) => e.1 == a)
  let t := fit.foldl (fun t (e : Nat × W32) => t.setWord e.1 e.2) s
  let t := fit.foldl (fun t (e : Nat × W32) =>
    if e.1 % 8 = 0 ∧ has (e.1 + 4) then t.wrote e.1 8
    else if e.1 % 8 = 4 ∧ has (e.1 - 4) then t
    else (t.wrote e.1 4).dramScan e.1 4 port) t
  if fit.length < ws.length then t.bump F.FAB_STAT_HOLE else t

/-! ## Initialisation and training (R521, R522, R538) -/

/-- The steps start: all of them, for which what DPHY_STAT shows of an earlier training goes, or those that end a
self-refresh. -/
def State.trainStart (s : State) (short : Bool) : State :=
  let t := (s.setFld F.DRC_STAT_STATE (if short then 2 else 1)).setReg F.DPHY_STAT
    (if short then setBf (s.reg F.DPHY_STAT) 29 26 5 else at32 1 26)
  { t with dram := { t.dram with retried := false, short := short } }

/-- A step fails: once more from step 1, then FAIL. -/
def State.trainFail (s : State) (cause lane : Nat) : State :=
  let t := (s.setFld F.DPHY_STAT_CAUSE cause).setFld F.DPHY_STAT_LANE lane
  if s.dram.retried then (t.setFld F.DRC_STAT_STATE 6).setFld F.DPHY_STAT_FAIL 1
  else
    let u := ((t.setFld F.DRC_STAT_STATE 1).setFld F.DPHY_STAT_STEP 1).setFld F.DPHY_STAT_DONE 0
    { u with dram := { u.dram with retried := true, short := false } }

/-- Every step has passed. -/
def State.trainDone (s : State) : State :=
  let t := (List.range 4).foldl (fun t l => t.setReg (F.DPHY_TRKl l) 0) s
  let t := (((t.setFld F.DRC_STAT_STATE 4).setFld F.DRC_STAT_READY 1).setFld F.DPHY_STAT_DONE 1).setFld F.DPHY_STAT_STEP 0
  ({ t with dram := { t.dram with refreshes := [0, 0], lost := false } }).setReady [F.SYS_READY_DRC]

/-- The step in progress has passed. -/
def State.trainNext (s : State) : State :=
  let k := s.fld F.DPHY_STAT_STEP
  if k = 8 then
    ({ s with mem := delRange s.mem dramBase 0x200000000 }.clearMarks dramBase 0x200000000).trainDone
  else if k = 6 ∧ s.dram.short then s.trainDone
  else
    (s.setFld F.DPHY_STAT_STEP (k + 1)).setFld F.DRC_STAT_STATE (if k + 1 ≤ 2 then 1 else if k + 1 ≤ 7 then 2 else 3)

/-- The longest run of passing codes of a sweep, as its first code and its length; the first of several (log 173). The run in progress and the
longest so far go along from code c on. -/
def longestRun (pass : BitVec 256) : Nat → Nat → Nat × Nat → Nat × Nat → Nat × Nat
  | 0, _, _, best => best
  | n + 1, c, run, best =>
    if pass.getLsbD c then
      let r := if run.2 = 0 then (c, 1) else (run.1, run.2 + 1)
      longestRun pass n (c + 1) r (if best.2 < r.2 then r else best)
    else longestRun pass n (c + 1) (0, 0) best

/-- The eye of a lane: its longest run over codes 0 to 255. -/
def eyeOf (pass : BitVec 256) : Nat × Nat := longestRun pass 256 0 (0, 0) (0, 0)

/-- The code chosen in an eye: the midpoint of its run, rounded down. -/
def midpoint (e : Nat × Nat) : Nat := (2 * e.1 + e.2 - 1) / 2

/-- A sweep (R522): a lane whose longest run is below 24 codes fails; else each lane's code and eye width are kept. -/
def State.trainSweep (s : State) (lanes : List (BitVec 256)) (code width : Nat → Fld) : State :=
  let eye := fun (l : Nat) => eyeOf (lanes.getD l 0)
  match (List.range 4).find? (fun l => (eye l).2 < 24) with
  | some l => s.trainFail 2 l
  | none => ((List.range 4).foldl (fun t l =>
      (t.setFld (code l) (midpoint (eye l))).setFld (width l) (min 255 (eye l).2)) s).trainNext

/-- The DRC is in training: initialising, training or filling, with PD6 ON. -/
def State.training (s : State) : Bool :=
  let st := s.fld F.DRC_STAT_STATE
  1 ≤ st && st ≤ 3 && s.pd 6 == 0

/-- A step of R521 ends. -/
def State.trainStep (s : State) (r : TrainResult) : State :=
  let k := s.fld F.DPHY_STAT_STEP
  if !s.training then s
  else match r with
    | .failed cause lane => s.trainFail cause.toNat lane.toNat
    | .device a b =>
      if k ≠ 2 then s
      else if a = b ∧ a.toNat ≤ 4 then
        let c := dramCap a.toNat
        (((s.setFld F.DRC_STAT_DENS a.toNat).setFld F.DRC_CAP_INST c.1).setFld F.DRC_CAP_USE c.2).trainNext
      else s.trainFail 1 0
    | .sweep lanes =>
      if k = 5 then s.trainSweep lanes F.DPHY_LANEl_RD F.DPHY_LANEl_RDW
      else if k = 6 then s.trainSweep lanes F.DPHY_LANEl_WR F.DPHY_LANEl_WRW
      else s
    | .oscillator a b => if k = 7 then { s with dram := { s.dram with osc := [a, b] } }.trainNext else s
    | .passed => if k = 2 ∨ k = 5 ∨ k = 6 ∨ k = 7 then s else s.trainNext

/-! ## Refresh, tracking, patrol (R519, R520, R523) -/

/-- A signed byte of a field. -/
def State.drift (s : State) (f : Fld) : Int := (BitVec.ofNat 8 (s.fld f)).toInt

/-- The code of a lane moved, and its drift since training with it. -/
def State.moveCode (s : State) (code drift : Fld) (m : Int) : State :=
  let new := clampI 0 255 ((s.fld code : Int) + m)
  (s.setFld code new.toNat).setFld drift (BitVec.ofInt 8 (s.drift drift + new - s.fld code)).toNat

/-- The write code of lane l moves by at most one code toward the trained one plus the drift that the oscillator shows. LOW where
that leaves less than 8 codes to an edge of the eye, which has moved with the drift (R523). -/
def State.trackWrite (s : State) (l : Nat) (count : Nat) : State :=
  let o := s.dram.osc.getD (l / 2) (0, 0)
  let aim : Int := (s.fld (F.DPHY_LANEl_WR l) : Int) - s.drift (F.DPHY_TRKl_WDRIFT l) + ((count : Int) - o.1) * o.2 / 65536
  let t := s.moveCode (F.DPHY_LANEl_WR l) (F.DPHY_TRKl_WDRIFT l) (clampI (-1) 1 (aim - s.fld (F.DPHY_LANEl_WR l)))
  let left : Int := (s.fld (F.DPHY_LANEl_WRW l) / 2 : Nat) - (aim - t.fld (F.DPHY_LANEl_WR l)).natAbs
  t.mark (F.DPHY_TRKl_LOW l) (decide (left < 8))

/-- The read code of lane l moves by one code away from an edge of the eye that fails at W/2 - 8 codes from it. LOW where that leaves
less than 8 codes to an edge (R523). -/
def State.trackRead (s : State) (l : Nat) (eye : Nat × Nat) : State :=
  let c : Int := s.fld (F.DPHY_LANEl_RD l)
  let r : Int := (s.fld (F.DPHY_LANEl_RDW l) / 2 : Nat) - 8
  let pass := fun (x : Int) => decide ((eye.1 : Int) ≤ x ∧ x ≤ eye.2)
  let t := s.moveCode (F.DPHY_LANEl_RD l) (F.DPHY_TRKl_RDRIFT l)
    ((if pass (c - r) then 0 else 1) - (if pass (c + r) then 0 else 1))
  let new : Int := t.fld (F.DPHY_LANEl_RD l)
  t.mark (F.DPHY_TRKl_LOW l) (decide (new - eye.1 < 8 ∨ (eye.2 : Int) - new < 8))

/-- An all-bank refresh of a channel; every 64th one tracks drift. -/
def State.dramRefresh (s : State) (chB : Bool) (x : Track) : State :=
  if s.fld F.DRC_STAT_STATE ≠ 4 then s
  else
    let c := if chB then 1 else 0
    let n := s.dram.refreshes.getD c 0 + 1
    let t := { s with dram := { s.dram with refreshes := s.dram.refreshes.set c (n % 64) } }
    if n % 64 = 0 then
      [0, 1].foldl (fun t i => (t.trackWrite (2 * c + i) x.count).trackRead (2 * c + i) (x.eyes.getD i (0, 0))) t
    else t

/-- MR4 is read. -/
def State.mr4 (s : State) (rate : Nat) : State :=
  if s.fld F.DRC_STAT_STATE ≠ 4 then s
  else (s.setFld F.DRC_STAT_RATE rate).setFld F.DRC_STAT_DHOT (if rate = 7 then 1 else 0)

/-- The patrol reads its next line: each code word in which it finds an error counts or is recorded (R520, R517, R518). -/
def State.patrol (s : State) (singles bads : List Nat) : State :=
  let lines := s.dramBytes / 64
  if s.fld F.DRC_STAT_STATE ≠ 4 ∨ !s.on F.DRC_CTRL_PATROL ∨ lines = 0 then s
  else
    let a := dramBase + 64 * s.dram.patrol
    let t := { s with dram := { s.dram with patrol := (s.dram.patrol + 1) % lines } }
    let t := (uniq singles).foldl (fun t i => if (t.markAt (a + 8 * i)).isSome then t else t.setMark (a + 8 * i) (some .single)) t
    let t := (uniq bads).foldl (fun t i => t.setMark (a + 8 * i) (some .bad)) t
    t.dramScan a 64 7

/-! ## Delay lines (R529 to R533) -/

/-- A register of the snapshot taken at the last compute-stage edge (R532). -/
def State.snapReg (s : State) (a : Nat) : W32 := lookD s.dram.snap (regReset a) a
def State.snapFld (s : State) (f : Fld) : Nat := bf (s.snapReg f.reg) f.hi f.lo

/-- The lines, players and recorders with EN = 1, by number. -/
def enabledIn (m : SMap W32) (base n stride : Nat) : List Nat :=
  (sub m base (n * stride)).filterMap (fun e => if (e.1 - base) % stride = 0 ∧ bit e.2 31 then some ((e.1 - base) / stride) else none)
def dlOn (m : SMap W32) : List Nat := enabledIn m (F.DRC_DLn_W0 0) 1024 32
def playOn (m : SMap W32) : List Nat := enabledIn m (F.DRC_PLAYp_W0 0) 64 16
def capOn (m : SMap W32) : List Nat := enabledIn m (F.DRC_CAPc_W0 0) 32 16

/-- LEN of a line. -/
def State.dlLen (s : State) (n : Nat) : Nat := 16 * s.fld (F.DRC_DLn_W3_LEN16 n)

/-- The OSLOTs of a line. -/
def State.dlOut (s : State) (n : Nat) : List Nat :=
  s.fld (F.DRC_DLn_W0_OSLOT0 n) :: (if s.on (F.DRC_DLn_W0_T1EN n) then [s.fld (F.DRC_DLn_W1_OSLOT1 n)] else [])

/-- A descriptor breaks R531; outs are the OSLOTs of every enabled line and player. -/
def State.dlBroken (s : State) (outs : List Nat) (n : Nat) : Bool :=
  let wo := fun (slot : Nat) => s.kind slot == .work || s.kind slot == .out
  let mine := s.dlOut n
  !wo (s.fld (F.DRC_DLn_W0_ISLOT n)) || !mine.all wo
  || (s.on (F.DRC_DLn_W0_CV n) && !wo (s.fld (F.DRC_DLn_W1_CSLOT n)))
  || mine.any (fun o => 1 < outs.count o)
  || s.fld (F.DRC_DLn_W3_LEN16 n) < 2
  || s.dramBytes < 64 * s.fld (F.DRC_DLn_W2_BASE n) + 4 * s.dlLen n

/-- The address of a ring position by sample index. -/
def ringAddr (base len i : Nat) : Nat := dramBase + 64 * base + 4 * (i % len)

/-- The 16 words of index i up stored in a ring by a port (R517). -/
def State.ringPut (s : State) (port base len i : Nat) (w : Nat → W32) : State :=
  s.dramPut port ((List.range 16).map (fun j => (ringAddr base len (i + j), w j)))

/-- The ring positions of frame m - 1 of a line that its pass did not reach: they read as 0 later (R533). -/
def State.dlMiss (s : State) (m n : Nat) : State :=
  s.ringPut 0 (s.snapFld (F.DRC_DLn_W2_BASE n)) (16 * s.snapFld (F.DRC_DLn_W3_LEN16 n)) (16 * (m - 1)) (fun _ => 0)

/-- The delay of a tap (R529): from the control slot or the default, clamped. -/
def State.dlDelay (s : State) (m n t len : Nat) : State × Nat :=
  let cslot := s.snapFld (F.DRC_DLn_W1_CSLOT n)
  let s := if s.snapFld (F.DRC_DLn_W0_CV n) = 1 then s.deckScan cslot (m - 1) (some 5) else s
  let dflt := if t = 0 then s.snapFld (F.DRC_DLn_W4_DLY0 n) else s.snapFld (F.DRC_DLn_W5_DLY1 n)
  let raw := if s.snapFld (F.DRC_DLn_W0_CV n) = 1 ∧ s.deckValid cslot (m - 1) t then (s.deckGet cslot (m - 1) t).toNat else dflt
  let d := max 32 (min (len + 16) raw)
  (s.mark (F.DRC_DLn_W6_CLAMP n) (d != raw), d)

/-- A tap read into its slot (R529). -/
def State.dlTap (s : State) (m base len e d slot : Nat) : State :=
  (List.range 16).foldl (fun t (j : Nat) =>
    let x : Int := 16 * (m : Int) + (j : Int) + 16 - d
    if x < e then t.deckWrite slot m j false 0
    else
      let r := t.dramWord (ringAddr base len x.toNat) 0
      r.1.deckWrite slot m j false r.2) s

/-- The 16 input words of frame m stored in the ring of delay line n. -/
def State.dlStore (s : State) (m n : Nat) : State :=
  let islot := s.snapFld (F.DRC_DLn_W0_ISLOT n)
  let t := s.deckScan islot (m - 1) (some 5)
  t.ringPut 0 (s.snapFld (F.DRC_DLn_W2_BASE n)) (16 * s.snapFld (F.DRC_DLn_W3_LEN16 n)) (16 * (m - 1))
    (t.deckGet islot (m - 1))

/-- Tap t of delay line n in the pass of frame m; tap 0 shows its delay in DIN0. -/
def State.dlPlay (s : State) (m n t slot : Nat) : State :=
  let len := 16 * s.snapFld (F.DRC_DLn_W3_LEN16 n)
  let d := s.dlDelay m n t len
  let u := if t = 0 then d.1.setFld (F.DRC_DLn_W6_DIN0 n) (d.2 % 2 ^ 21) else d.1
  u.dlTap m (s.snapFld (F.DRC_DLn_W2_BASE n)) len (lookD s.dram.starts (16 * (m - 1)) n) d.2 slot

/-- One line of the pass of frame m (R529). -/
def State.dlRun (s : State) (m n : Nat) : State :=
  let t := (s.dlStore m n).dlPlay m n 0 (s.snapFld (F.DRC_DLn_W0_OSLOT0 n))
  if s.snapFld (F.DRC_DLn_W0_T1EN n) = 1 then t.dlPlay m n 1 (s.snapFld (F.DRC_DLn_W1_OSLOT1 n)) else t

/-! ## Players (R534) -/

/-- The positions of the next samples of a player, at most n, and the position after them. -/
def playPositions (len : Nat) (loop : Bool) : Nat → Nat → List Nat × Nat
  | 0, p => ([], p)
  | n + 1, p =>
    if p < len then let r := playPositions len loop n (p + 1); (p :: r.1, r.2)
    else if loop && len != 0 then let r := playPositions len loop n 1; (0 :: r.1, r.2)
    else ([], p)

/-- One player in the pass of frame m. -/
def State.playRun (s : State) (m p : Nat) : State :=
  let s := s.deckScan (s.snapFld (F.DRC_PLAYp_W0_CSLOT p)) (m - 1) (some 5)
  let w := s.deckGet (s.snapFld (F.DRC_PLAYp_W0_CSLOT p)) (m - 1) 0
  let run := bit w 31
  let loop := bit w 30
  let playing := s.on (F.DRC_PLAYp_W3_PLAY p)
  if !run && !playing then s
  else
    let len := s.snapFld (F.DRC_PLAYp_W2_LEN p)
    let base := dramBase + 64 * s.snapFld (F.DRC_PLAYp_W1_BASE p)
    let slot := s.snapFld (F.DRC_PLAYp_W0_OSLOT p)
    let from_ := if playing then s.fld (F.DRC_PLAYp_W3_POS p) else 0
    let r := playPositions len loop 16 from_
    let t := (r.1.zip (List.range 16)).foldl (fun t e =>
      let x := t.dramWord (base + 4 * e.1) 1
      x.1.deckWrite slot m e.2 false (if run then x.2 else fade16 x.2 (15 - e.2))) s
    let on := run && (r.2 < len || (loop && len != 0))
    (t.setFld (F.DRC_PLAYp_W3_PLAY p) (if on then 1 else 0)).setFld (F.DRC_PLAYp_W3_POS p) (if r.2 < len then r.2 else 0)

/-! ## The pass (R529, R533) and recorders (R535) -/

/-- The lines that run in the pass of the snapshot: enabled and without ERR. -/
def State.dlRunning (s : State) : List Nat := (dlOn s.dram.snap).filter (fun n => !s.on (F.DRC_DLn_W6_ERR n))

/-- The pass in progress ends: after D1 cycles, or cut by the edge after so many lines and then players. One that the DRC no longer
serves has no effect (R537). -/
def State.passDone (s : State) (cycles : Nat) (cut : Option Nat) : State :=
  match s.dram.pass with
  | none => s
  | some m =>
    let lines := s.dlRunning
    let t := { s with dram := { s.dram with pass := none } }
    if !s.dramServes then t
    else match cut with
    | none =>
      let t := (playOn t.dram.snap).foldl (fun t p => t.playRun m p) (lines.foldl (fun t n => t.dlRun m n) t)
      t.setFld F.DRC_DLPASS_PASS (min (2 ^ 20 - 1) cycles)
    | some k =>
      let t := (lines.take k).foldl (fun t n => t.dlRun m n) t
      let t := ((playOn t.dram.snap).take (k - lines.length)).foldl (fun t p => t.playRun m p) t
      ((lines.drop k).foldl (fun t n => t.dlMiss m n) t).setFld F.DRC_STAT_DLCUT 1

/-- The lines of recorders taken at the edge of frame m. -/
def State.capTake (s : State) (m : Nat) : State :=
  (capOn s.regs).foldl (fun t c =>
    let slot := t.fld (F.DRC_CAPc_W0_ISLOT c)
    let len := t.fld (F.DRC_CAPc_W2_LEN c)
    let f := if t.kind slot = .inp then m else m - 1
    if len = 0 ∨ t.kind slot = .free then t
    else
      let t := t.deckScan slot f none
      let r : RecLine := { c := c, index := 16 * f, words := t.deckWords slot f,
                           base := t.fld (F.DRC_CAPc_W1_BASE c), len := len }
      { t with dram := { t.dram with recs := t.dram.recs ++ [r] } }) s

/-- A line of a recorder leaves its queue. -/
def State.recDrop (s : State) (r : RecLine) : State := { s with dram := { s.dram with recs := s.dram.recs.erase r } }

/-- A line of a recorder reaches the DRC. -/
def State.capDone (s : State) (c : Nat) : State :=
  match s.dram.recs.find? (fun r => r.c == c) with
  | none => s
  | some r =>
    if !s.dramServes then s.recDrop r
    else
      let t := s.ringPut 2 r.base r.len r.index (fun j => r.words.getD j 0)
      (t.recDrop r).setReg (F.DRC_CAPc_W3 c) (lo32 (r.index + 15))

/-- A pass that has not ended stops at the edge (R533). -/
def State.passCut (s : State) : State := if s.dram.pass.isSome then s.passDone 0 (some 0) else s

/-- A rate change stops the passes; every line starts anew after it (R539). -/
def State.dramRate (s : State) : State :=
  let t := s.passCut
  { t with dram := { t.dram with starts := [] } }

/-- What the DRC does at the compute-stage edge of frame m (R529, R531 to R533, R535). -/
def State.dramEdge (s : State) (m : Nat) : State :=
  let s := s.passCut
  let on := dlOn s.regs
  if !s.dramServes then { s with dram := { s.dram with starts := s.dram.starts.filter (fun e => on.contains e.1) } }
  else
    let outs := on.flatMap s.dlOut ++ (playOn s.regs).map (fun p => s.fld (F.DRC_PLAYp_W0_OSLOT p))
    let s := on.foldl (fun t n => t.setFld (F.DRC_DLn_W6_ERR n) (if s.dlBroken outs n then 1 else 0)) s
    let runs := on.filter (fun n => !s.on (F.DRC_DLn_W6_ERR n))
    let starts := runs.foldl (fun a n => ins a n (lookD s.dram.starts (16 * (m - 1)) n)) []
    let snap := sub s.regs (F.DRC_DLn_W0 0) 0x9000
    { s with dram := { s.dram with snap := snap, pass := some m, starts := starts } }.capTake m

/-- An ENGINE reset of the DRC (R539). -/
def State.dramEngine (s : State) : State :=
  let t := s.resetRegs (F.DRC_DLn_W0 0) 0xA000
  { t with dram := { t.dram with snap := [], pass := none, starts := [], recs := [] } }

/-- Self-refresh, power-down and their end (R538). -/
def State.dramSleep (s : State) (off : Bool) : State :=
  let t := (s.setFld F.DRC_STAT_READY 0).clearReady [F.SYS_READY_DRC]
  let t := t.setFld F.DRC_STAT_STATE (if off then 0 else 5)
  let t := { t with dram := { t.dram with pass := none, recs := [], lost := t.dram.lost || off } }
  if off then { t with mem := delRange t.mem dramBase 0x200000000 }.clearMarks dramBase 0x200000000 else t

end Sys2Proof.Machine
end

