-- ==== Sys2Proof/Machine/Boot.lean ====
section
/-! DEFINITION. Machine/Boot.lean: bring-up, the reset classes, power domains, temperature, controller restarts and boot
(R541 to R564, R295, R296, R158, R205, R263). -/

namespace Sys2Proof.Machine

/-! ## Bring-up (R564) -/

def State.retired (s : State) (c : Nat) : Bool := (s.core c).state == .retired

/-- A bank serves, or belongs to a RETIRED berth. -/
def State.bankSettled (s : State) (b : Nat) : Bool := s.bankServes b || (8 ≤ b && s.retired (b - 8))

/-- Every bank of an ON domain has ended its power-on march and fill, one way or the other. -/
def State.banksEnded (s : State) : Bool :=
  allBanks.all (fun b => !s.bankOn b || s.bankSettled b || s.on (F.BANK_STATb_FAIL b))

/-- The functions that a bring-up finds ready. -/
def State.readyFlds (s : State) : List Fld :=
  let pll := s.on F.PLL0_STAT_LOCK
  let cond : List (Fld × Bool) :=
    [(F.SYS_READY_XO, s.on F.CKM_STAT_XOSTABLE), (F.SYS_READY_PLL0, pll),
     (F.SYS_READY_TIME, pll && s.domOk 4 && s.pd 5 == 0),
     (F.SYS_READY_TDM, pll && s.domOk 6), (F.SYS_READY_AES, pll && s.domOk 6), (F.SYS_READY_ASRC, pll && s.domOk 6),
     (F.SYS_READY_LIM, pll && s.domOk 6 && s.pwr.refill.isEmpty), (F.SYS_READY_MTR, pll && s.pd 4 == 0),
     (F.SYS_READY_QP0, pll && s.on (F.QPn_CTRL_EN 0)), (F.SYS_READY_QP1, pll && s.on (F.QPn_CTRL_EN 1)),
     (F.SYS_READY_TT, pll && s.domOk 2 && s.bankServes 7), (F.SYS_READY_XM, pll && s.domOk 1 && s.bankServes 3),
     (F.SYS_READY_PN, pll && s.domOk 1 && s.bankServes 4 && s.bankServes 5),
     (F.SYS_READY_SIGA, pll && s.domOk 0 && s.pd 2 == 0 && (List.range 16).all (fun c => s.bankSettled (8 + c))),
     (F.SYS_READY_SIGB, pll && s.domOk 0 && s.pd 3 == 0 && (List.range 16).all (fun c => s.bankSettled (24 + c))),
     (F.SYS_READY_STRM, pll && s.domOk 4 && s.bankServes 6), (F.SYS_READY_ZONE, pll && s.domOk 4 && s.bankServes 6),
     (F.SYS_READY_MEMT, pll && s.banksEnded),
     (F.SYS_READY_NETA, pll && s.domOk 4 && s.pd 5 == 0 && s.on (F.NETx_STAT_LINK 0)),
     (F.SYS_READY_NETB, pll && s.domOk 4 && s.pd 5 == 0 && s.on (F.NETx_STAT_LINK 1)),
     (F.SYS_READY_DRC, s.on F.DRC_STAT_READY && s.domOk 5),
     (F.SYS_READY_MPLL, s.on F.MPLL_STAT_LOCK), (F.SYS_READY_PTPLOCK, s.fld F.TIME_STAT_SERVO == svLock && pll && s.domOk 4 && s.pd 5 == 0 && (s.on (F.NETx_STAT_LINK 0) || s.on (F.NETx_STAT_LINK 1))),
     (F.SYS_READY_PCIE, s.fld F.PCIE_STAT_SPEED != 0)]
  (cond.filter (·.2)).map (·.1)

/-- The units that RESET ENGINE waits for are ready again (R335). -/
def State.engineDone (s : State) : State :=
  if s.pwr.engine.isNone && s.pwr.refill.isEmpty
      && [F.SYS_READY_TT, F.SYS_READY_XM, F.SYS_READY_PN, F.SYS_READY_SIGA, F.SYS_READY_SIGB].all (s.on ·)
  then s.release (fun w => w == .engineReset) else s

/-- Each function becomes ready as soon as what it waits for is; a muted engine and one held in reset wait. -/
def State.bringUp (s : State) : State :=
  if s.clk.mute || s.pwr.held then s else (s.setReady s.readyFlds).engineDone

/-! ## Power domains (R543 to R545) -/

def State.setPd (s : State) (p v : Nat) : State := s.setFld (pdFld p) v

/-- PD1 to PD7 in one state. -/
def State.setPds (s : State) (v : Nat) : State := [1, 2, 3, 4, 5, 6, 7].foldl (fun t p => t.setPd p v) s

/-- The SYS_READY bits of a domain's units. -/
def pdFlds (p : Nat) : List Fld :=
  match p with
  | 2 => [F.SYS_READY_SIGA]
  | 3 => [F.SYS_READY_SIGB]
  | 4 => [F.SYS_READY_TT, F.SYS_READY_XM, F.SYS_READY_PN, F.SYS_READY_MTR]
  | 5 => [F.SYS_READY_NETA, F.SYS_READY_NETB, F.SYS_READY_STRM, F.SYS_READY_ZONE, F.SYS_READY_TIME, F.SYS_READY_PTPLOCK]
  | 6 => [F.SYS_READY_DRC]
  | _ => []

/-- The banks and berths of a domain. -/
def pdBanks (p : Nat) : List Nat := allBanks.filter (fun b => bankPd b == p)
def pdBerths (p : Nat) : List Nat := all32.filter (fun c => bankPd (8 + c) == p)

/-- POWER starts a transition (R333). -/
def State.powerStart (s : State) (d target : Nat) : State :=
  let old := match look s.pwr.moving d with
    | some m => m.old
    | none => s.pd d
  let t := (s.setPd d 3).clearReady (pdFlds d)
  let t := (pdBanks d).foldl State.disarm t
  let t := if d = 6 ∧ old = 0 then t.dramSleep (target == 2) else t
  { t with pwr := { t.pwr with moving := ins t.pwr.moving d { old := old, target := target } } }

/-- A bank that has lost its contents (R502). -/
def State.bankLost (s : State) (b : Nat) : State := (s.fillBank b).setFld (F.BANK_STATb_READY b) 0

/-- Berths of a domain that returns to ON become IDLE, but for RETIRED ones (R545). -/
def State.berthsBack (s : State) (d : Nat) : State :=
  (pdBerths d).foldl (fun t c => if t.retired c then t else t.modCore c (fun k => { k with state := .idle })) s

/-- A domain reaches its new state (R543). A return from OFF fills the banks; a berth's bank reports by itself. -/
def State.powerDone (s : State) (d : Nat) : State :=
  match look s.pwr.moving d with
  | none => s
  | some m =>
    let t := { s with pwr := { s.pwr with moving := del s.pwr.moving d } }.setPd d m.target
    let t := if m.target = 2 then
        let u := (pdBanks d).foldl State.bankLost t
        if d = 6 ∧ m.old ≠ 2 then u.dramSleep true else u
      else if m.target = 0 ∧ m.old = 2 then
        let u := (pdBanks d).foldl (fun u b =>
          if 8 ≤ b then u else (u.fillBank b).setFld (F.BANK_STATb_READY b) (if u.on (F.BANK_STATb_FAIL b) then 0 else 1)) t
        u.berthsBack d
      else if m.target = 0 then t.berthsBack d
      else t
    let t := if d = 6 ∧ m.target = 0 ∧ !t.training ∧ t.fld F.DRC_STAT_STATE ≠ 4 then t.trainStart (!t.dram.lost) else t
    (t.bringUp).release (fun w => w == .domain d)

/-- POWER out of ON is refused (R538, R544, R502). -/
def State.powerBars (s : State) (d : Nat) : Bool :=
  let march := s.on F.MARCH_STAT_RUN && (pdBanks d).contains (s.fld F.MARCH_STAT_BANK)
  march || (match d with
    | 2 | 3 => (pdBerths d).any (fun c =>
        let st := (s.core c).state
        !(st == .idle || st == .halted || st == .retired) || s.designated c)
    | 4 => [3, 4, 5, 7].any (fun b => !s.expendable b)
    | 5 => !s.net.ctxs.isEmpty || !s.expendable 7 || (List.range 4).any (fun g => s.on (F.TDMg_GCFG_MASTER g))
    | 6 => !(dlOn s.regs).isEmpty || !(playOn s.regs).isEmpty || !(capOn s.regs).isEmpty || s.training
    | _ => false)

/-! ## Banks after power-on (R499 to R501) -/

/-- The boot ROM's first uncorrectable word (R487). -/
def State.romBad (s : State) : Option Nat :=
  (s.marks.find? (fun e => e.2 == .bad && e.1 / 0x40000 == 0x400)).map (·.1)

/-- The controllers stop booting and stay in reset. -/
def State.romStop (s : State) (a : Nat) : State :=
  let t := s.ueRecord a
  { t with ctl := { t.ctl with run := .off } }

/-- The boot ROM starts once banks 0 and 1 are ready (R557, R559, R562). -/
def State.bootStart (s : State) : State :=
  if s.ctl.run == .off && !s.on F.RST_GWDT_RUN && s.bankServes 0 && (s.on (F.BANK_STATb_READY 1) || s.on (F.BANK_STATb_FAIL 1)) then
    let sel := s.fld F.SYS_BOOT_BOOTSEL
    let run : CtlRun := if sel = 1 ∨ sel = 2 ∨ sel = 3 then .loader else .booting
    let t := s.setFld F.RST_GWDT_RUN 1
    { t with ctl := { t.ctl with run := run }, pwr := { t.pwr with guard := 100 * t.fld F.RST_GWDT_LIM } }
  else s

/-- A bank completes repair, march and fill (R499), or the refill of an ENGINE reset (R552). -/
def State.bankReady (s : State) (b : Nat) (fails : List SubFail) : State :=
  if 40 ≤ b || !s.bankOn b || s.pwr.held || !s.on F.PLL0_STAT_LOCK then s
  else if s.pwr.refill.contains b then
    { s with pwr := { s.pwr with refill := s.pwr.refill.erase b } }.bringUp
  else if s.on (F.BANK_STATb_READY b) || s.on (F.BANK_STATb_FAIL b) || (8 ≤ b && s.retired (b - 8)) then s
  else
    let r := ((s.softDrop b).fusesLoad b).marched b fails
    let t := if b = 1 then { r.1 with ecc := { r.1.ecc with march1 := false } } else r.1
    if r.2 then (((t.fillBank b).setFld (F.BANK_STATb_READY b) 1).bringUp).bootStart
    else if 8 ≤ b then (t.setCore (b - 8) (emptyCore .retired)).bringUp
    else ((t.setFld (F.BANK_STATb_FAIL b) 1).bringUp).bootStart

/-- Fast start: every bank but the secure one is ready at once (R501). -/
def State.fastBanks (s : State) : State :=
  let t := (allBanks.filter (fun b => b != 1 && !(8 ≤ b && s.retired (b - 8)))).foldl (fun t b =>
    (((t.clearMarks (bankBase b) (bankSize b)).fusesLoad b).setFld (F.BANK_STATb_READY b) 1).setFld (F.BANK_STATb_VB b) 1)
    { s with pn := idlePn true, ecc := { s.ecc with lines := [], full := [], march1 := false } }
  (t.fusesLoad 1).setFld (F.BANK_STATb_READY 1) 1

/-! ## MOORING reset (R295, R296) -/

/-- FLUSH packets whose marked packets have all been freed reply (R294). -/
def State.flushCheck (s : State) : State :=
  let marked := fun (id : Nat) => s.queues.any (fun e => e.2.landed.any (fun p => p.flush.contains id)
    || (match e.2.landing with
      | some l => l.flush.contains id
      | none => false))
  State.flushDue { s with ctl := { s.ctl with waits := s.ctl.waits.filter (fun w => w.2 != .flush || marked w.1) } }

/-- The rest of the transfers in progress on quay ports that a test names is discarded (R297). -/
def State.dropQuay (s : State) (p : QuayIn → Bool) : State :=
  { s with side := { s.side with quay := s.side.quay.map (fun e => (e.1, { e.2 with lost := e.2.lost || p e.2 })) } }

/-- The packets of a mooring end without a reply, those whose replies wait for an effect too; what has completed still takes effect,
a change of M0's own key at once (R295, R437, log 46). -/
def State.dropPackets (s : State) (m : Fin 8) : State :=
  let gone := ((s.ctl.stack ++ s.ctl.replies).filter (fun p => p.m == m)).map (·.id)
  let keys := (s.ctl.keyOps.filter (fun k => s.ctl.replies.any (fun p => p.m == m && p.id == k.1))).foldl (fun ks k =>
    match k.2 with
    | some v => ins ks 0 v
    | none => del ks 0) s.sec.keys
  { s with sec := { s.sec with keys := keys },
           ctl := { s.ctl with stack := s.ctl.stack.filter (fun p => p.m != m),
                               replies := s.ctl.replies.filter (fun p => p.m != m),
                               waits := s.ctl.waits.filter (fun w => !gone.contains w.1),
                               oldKey := s.ctl.oldKey.filter (fun k => !gone.contains k.1),
                               keyOps := s.ctl.keyOps.filter (fun k => !gone.contains k.1) } }

/-- A MOORING reset. Replies that stand in the output queue are kept (log 46). -/
def State.mooringReset (s : State) (m : Fin 8) : State :=
  let t := s.dropPackets m
  let t := (List.range 4).foldl (fun t c => t.setQueue m.val c (freshQueue (t.fld (F.LQ_CFGm_c_SIZE m.val c)))) t
  let mo := t.moors[m]
  let t := { t with moors := t.moors.set m { freshMoor with out := mo.out.filter (fun p => !p.notice), notify := mo.notify } }
  let t := t.setReg (F.PCIE_RTAILm m.val) (t.reg (F.PCIE_RHEADm m.val))
  let t := t.dropQuay (fun x => bf (wd x.words 1) 15 8 == m.val && 2 ≤ x.words.length)
  let t := t.sceneMooring (fun g => t.owns m ownScenes g)
  let t := t.defer 0 (.unclaim m)
  let t := (all32.filter (fun k => t.owns m ownTasks k)).foldl (fun t k => t.cancelUpdate k 3) t
  t.flushCheck

/-- MOORING resets of the moorings bound to a link that a test names. -/
def State.linkReset (s : State) (p : Nat → Bool) : State :=
  (allMoors.filter (fun m => p (s.fld (F.MOOR_BINDm_LINK m.val)))).foldl State.mooringReset s

/-! ## ENGINE reset (R335, R552) -/

/-- A started packet ends before its next instruction: an ENOTREADY record, its reply due when its waits end. Its units, where they are
not freed yet, are freed behind the reply (R556). -/
def State.stopPacket (s : State) (p : Pkt) : State :=
  let r : Rec := { op := (p.insns.head?.map (·.op)).getD 0, status := enotready, payload := [] }
  let q := { p with recs := p.recs ++ [r], insns := [] }
  { s with ctl := { s.ctl with stack := s.ctl.stack.filter (fun x => x.id != p.id), replies := s.ctl.replies ++ [q] } }

/-- A register of the SC block that DEVICE and ENGINE resets keep (R271). -/
def scKept (a : Nat) : Bool :=
  a == F.SC_SPARE || a == F.SC_FERRY_HOLD || (List.range 32).any (fun c => a == F.SCc_TEST c)

/-- The berths after a DEVICE or ENGINE reset: RETIRED and STANDBY ones stay so, designated ones become STANDBY (R205,
R263); tests in progress finish. -/
def State.berthsReset (s : State) : State :=
  all32.foldl (fun t c =>
    let st := (t.core c).state
    let new : Berth := if st == .retired then .retired
      else if st == .testing then .testing
      else if t.designated c || st == .standby then .standby else .idle
    t.setCore c (emptyCore new)) s

/-- The banks that an ENGINE reset fills. -/
def State.engineBanks (s : State) : List Nat :=
  allBanks.filter (fun b => (b == 3 || b == 4 || b == 5 || b == 7 || 8 ≤ b) && s.bankOn b && !(8 ≤ b && s.retired (b - 8)))

/-- What an ENGINE reset ends: replies that waited for the units it resets fall due; frames not reached
are free (log 15). -/
def State.engineReplies (s : State) : State :=
  let t := all32.foldl (fun t k => t.fillFree k) s
  t.release (fun w => match w with
    | .edge | .turn | .timetable | .taskStart _ | .taskStop _ | .ferry _ | .tandem _ | .spares | .fill _ | .channel _ _
    | .limiter _ => true
    | _ => false)

/-- The timetable and the deck after an ENGINE reset; frames and staged entries go on. -/
def State.idleFrame (s : State) : State :=
  { s with tt := { idleTt s.tt.frame s.tt.staged with edge := s.tt.edge },
           deck := emptyDeck }

/-- The core registers and the ferry after an ENGINE reset; no gain change waits. -/
def State.idleTasks (s : State) : State :=
  { s with regs := s.regs.filter (fun e => !(0x200000 ≤ e.1 && e.1 < 0x210000) || scKept e.1), ferry := idleFerry,
           ports := { s.ports with waits := [] } }

/-- Every limiter's gain goes to 1.0 behind the words that have left its lookahead delay line, which are those of the frame
three before this edge and less; what the line holds is cleared (R69). -/
def State.limClear (s : State) : State :=
  let f := fun (o : OutCh) => { o with cleared := some (s.msi / 16 - 3) }
  { s with ports := { s.ports with outs := s.ports.outs.map (fun e => (e.1, f e.2)) } }

/-- The fills of an ENGINE reset begin; every berth's memories, filled, hold no error (R205). -/
def State.engineFill (s : State) : State :=
  let t := (s.engineBanks.filter (· < 8)).foldl State.fillBank s
  let t := all32.foldl (fun u c => u.fillMarks (8 + c)) t
  { t with pwr := { t.pwr with engine := none, refill := t.engineBanks } }

/-- The resets of an ENGINE reset at edge e + 1 (R552), which starts the compute stage of a frame. -/
def State.engineApply (s : State) : State :=
  let t := s.sceneEngine.marchAbandon
  let t := (t.resetRegs 0x240000 0x10000).idleFrame
  let t := ((((t.xmReset.pnReset false).runReset).dramEngine.idleTasks).berthsReset).engineFill
  let t := t.clearReady [F.SYS_READY_TT, F.SYS_READY_XM, F.SYS_READY_PN, F.SYS_READY_SIGA, F.SYS_READY_SIGB, F.SYS_READY_LIM]
  (t.limClear.bump F.RST_CNT_ENGRST).engineReplies

/-! ## DEVICE reset and POR (R541, R542, R566, R511) -/

/-- The registers that fuses load (R12, R404, R442). -/
def State.fuseRegs (s : State) : State :=
  let mac := fun (t : State) (i : Nat) (m : BitVec 48) =>
    (t.setReg (F.NETx_MACHI i) (BitVec.ofNat 32 (bf m 47 32))).setReg (F.NETx_MACLO i) (BitVec.ofNat 32 (bf m 31 0))
  (mac (mac s 0 s.otp.macA) 1 s.otp.macB).setReg F.CKM_SRC (at32 s.otp.trim.toNat 0)

/-- A register that a DEVICE reset keeps. -/
def devKept (a : Nat) : Bool :=
  (a / 0x10000 == 9 || a / 0x10000 == 10) && a != F.RST_GWDT || a == F.SEC_WIPES || scKept a

/-- PD1 to PD7 are powered: PWRGOOD is high and no shutdown is in force. -/
def State.powered (s : State) : Bool := s.pwr.good && !s.pwr.tsd

/-- What the outside world holds and what the TAP and the fuses keep through every reset. -/
def State.outside (s t : State) : State :=
  { t with pending := s.pending, free := s.free, otp := s.otp, tap := s.tap,
           pcie := { t.pcie with host := s.pcie.host, msgs := s.pcie.msgs },
           net := { t.net with sentA := s.net.sentA, sentB := s.net.sentB } }

/-- The secure bank after a DEVICE reset, which marches it no more: it is ready at once, or failed as its march after POR has left
it; one still to be marched after POR is not ready yet (R499, R509, log 151). -/
def State.bankKept (s : State) (failed : Bool) : State :=
  if s.ecc.march1 then s
  else (s.fusesLoad 1).setFld (if failed then F.BANK_STATb_FAIL 1 else F.BANK_STATb_READY 1) 1

/-- A DEVICE reset with a cause for RST_STAT.LAST; it is held until DEVICE_RESET_RELEASE. -/
def State.deviceReset (s : State) (cause : Nat) : State :=
  let t := s.outside State.reset
  let t := { t with regs := s.regs.filter (fun e => devKept e.1), sec := s.sec, side := { (s.dropQuay (fun _ => true)).side with debug := false },
                    mem := sub s.mem 0x30000000 0x40000, marks := sub s.marks 0x30000000 0x40000,
                    ecc := { idleEcc with flips := sub s.ecc.flips 0x30000000 0x40000,
                                          known := s.ecc.known.filter (fun a => bankOf a == some 1),
                                          soft := s.ecc.soft, march1 := s.ecc.march1 },
                    pwr := { t.pwr with por := false, good := s.pwr.good, held := true, srcBad := s.pwr.srcBad, tsd := s.pwr.tsd,
                                        tsdAges := s.pwr.tsdAges, seen := s.pwr.seen, hot := s.pwr.hot, grad := s.pwr.grad,
                                        cool := s.pwr.cool, stay := s.pwr.stay } }
  let t := { t with cores := s.cores }.berthsReset
  let t := (t.fuseRegs.setPds (if t.powered then 0 else 2)).bankKept (s.on (F.BANK_STATb_FAIL 1))
  (t.setFld F.RST_STAT_LAST cause).bump F.RST_STAT_DEVCNT

/-- POR: nothing is kept but the fuses and the level of PWRGOOD (R542). -/
def State.porReset (s : State) : State :=
  let t := s.outside State.reset
  { t with pwr := { t.pwr with good := s.pwr.good } }

/-- VDD_AO has risen: POR ends, the fuses are loaded and the secure bank is filled (R509, R542). -/
def State.porEnd (s : State) : State :=
  let t := { s with pwr := { s.pwr with por := false } }
  t.fuseRegs.setPds (if t.powered then 0 else 2)

/-- A third shutdown within the hour waits for RESET_N or PWRGOOD (R551). -/
def State.tsdBlocked (s : State) : Bool := s.pwr.tsd && s.pwr.stay

/-- RESET_N or PWRGOOD low ends the wait after a third shutdown. -/
def State.unblock (s : State) : State :=
  if s.tsdBlocked then { s with pwr := { s.pwr with tsd := false, stay := false } } else s

/-- A POR or DEVICE reset is released: BOOTSEL is sampled (R558). -/
def State.releaseReset (s : State) (sel : Nat) : State :=
  if s.pwr.por || !s.pwr.held || !s.pwr.good || s.pwr.srcBad || s.pwr.tsd then s
  else
    let t := { s with pwr := { s.pwr with held := false, fast := sel == 4 } }
    let t := t.setFld F.SYS_BOOT_BOOTSEL sel
    (t.mark F.SYS_BOOT_BADSEL (decide (5 ≤ sel))).setFld F.SYS_BOOT_FAST (if sel = 4 then 1 else 0)

/-! ## Temperature (R548 to R551) -/

/-- The THERMAL notice and its ALERT bit (R549). -/
def State.thermal (s : State) (event sensor : Nat) (temp : Int) : State :=
  (s.alertBit 0).notice nTHERMAL
    [at32 event 28 ||| at32 sensor 24 ||| (BitVec.ofInt 16 temp).setWidth 32, lo32 s.tt.frame]

/-- A sensor of an ON domain read. -/
def State.readSensor (s : State) (i : Nat) (t : Temp) : State :=
  if s.pd i ≠ 0 then { s with pwr := { s.pwr with hot := s.pwr.hot.set i 0 } }
  else
    let old := BitVec.ofNat 16 (s.fld (F.PWR_TEMPs_PEAK i))
    let peak := if s.pwr.seen.contains i ∧ t.toInt ≤ old.toInt then old else t
    let u := (s.setFld (F.PWR_TEMPs_T i) t.toNat).setFld (F.PWR_TEMPs_PEAK i) peak.toNat
    let hot := if 1000 ≤ t.toInt then min 3 (u.pwr.hot.getD i 0 + 1) else 0
    { u with pwr := { u.pwr with seen := uniq (i :: u.pwr.seen), hot := u.pwr.hot.set i hot } }

/-- Time passes for what a millisecond counts: the guard watchdog, the selector's times, the shutdowns of the last hour. -/
def State.milli (s : State) : State :=
  let t := s.refTick
  { t with pwr := { t.pwr with guard := t.pwr.guard - 1,
                               tsdAges := (t.pwr.tsdAges.map (· + 1)).filter (· < 3600000) } }

/-- The sensors are read (R548, R549). -/
def State.tempSample (s : State) (temps : List Temp) : State :=
  if s.pwr.por then s
  else
    let t := ((List.range 8).foldl (fun t i => match temps[i]? with
      | some v => t.readSensor i v
      | none => t) s).milli
    let live := (List.range 8).filter (fun i => t.pd i == 0)
    let val := fun (i : Nat) => (BitVec.ofNat 16 (t.fld (F.PWR_TEMPs_T i))).toInt
    let hot := live.foldl (fun h i => if val h < val i then i else h) 0
    let low := live.foldl (fun m i => min m (val i)) (val hot)
    let max_ := val hot
    let grad := max_ - low
    let cool := decide ((BitVec.ofNat 16 (t.fld (F.PWR_TEMPs_T 0))).toInt < 760)
    let t := { t with pwr := { t.pwr with grad := if 240 < grad then min 3 (t.pwr.grad + 1) else 0,
                                          cool := if cool then min 1000 (t.pwr.cool + 1) else 0 } }
    let t := t.setFld F.PWR_STAT_HOT hot
    let t := if !t.on F.PWR_STAT_THERMAL && 840 ≤ max_ then (t.setFld F.PWR_STAT_THERMAL 1).thermal 0 hot max_
      else if t.on F.PWR_STAT_THERMAL && max_ < 800 then (t.setFld F.PWR_STAT_THERMAL 0).thermal 1 hot max_ else t
    if !t.on F.PWR_STAT_GRAD && 160 < grad then (t.setFld F.PWR_STAT_GRAD 1).thermal 2 hot grad
    else if t.on F.PWR_STAT_GRAD && grad < 120 then (t.setFld F.PWR_STAT_GRAD 0).thermal 3 hot grad else t

/-- MAX, as MGMT shows it. -/
def State.maxTemp (s : State) : Nat := s.fld (F.PWR_TEMPs_T (s.fld F.PWR_STAT_HOT % 8))

/-- A thermal or gradient shutdown (R550). -/
def State.shutdown (s : State) (gradient : Bool) : State :=
  if s.pwr.por || s.pwr.tsd || !(if gradient then s.pwr.grad == 3 else s.pwr.hot.contains 3) then s
  else
    let t := { s.setFld F.PWR_STAT_TSD 1 with
      pwr := { s.pwr with tsd := true, tsdAges := 0 :: s.pwr.tsdAges, stay := decide (2 ≤ s.pwr.tsdAges.length), cool := 0 } }
    t.deviceReset (if gradient then 7 else 6)

/-- PD0 releases the reset of a shutdown (R551); PD1 to PD7 are powered again. -/
def State.shutdownEnd (s : State) : State :=
  if !s.pwr.tsd || s.tsdBlocked then s
  else
    let t := { s with pwr := { s.pwr with tsd := false } }
    t.setPds (if t.powered then 0 else 2)

/-! ## Firmware images (R508, R560, R561) -/

/-- A firmware image: its bytes up to LENGTH. -/
def fwBytes (l : List Byte) : List Byte := l.take (wd (wordsLE (l.take 12)) 2).toNat

/-- An image passes the check of the boot ROM. -/
def State.fwOk (s : State) (l : List Byte) : Bool :=
  let h := wordsLE (l.take 64)
  let len := (wd h 2).toNat
  let b := l.take len
  let key := (b.drop (len - 128)).take 64
  h.length == 16 && wd h 0 == 0x5A594331 && wd h 1 == 0x00010000 && len ≤ 1835008 && 192 ≤ len && b.length == len
  && bf (wd h 3) 31 21 == 0 && bf (wd h 4) 31 21 == 0 && (h.drop 6).all (· == 0)
  && sha256 key == s.otp.fwkey
  && ecdsaVerify (sha256 (b.take (len - 64))) key (b.drop (len - 64))

/-- The binding block of a body (R561, R274, R353, R509). -/
def State.bindBlock (s : State) (body : List W32) (off : Nat) : State :=
  let w := fun i => wd body (off / 4 + i)
  if off = 0 ∨ 6 ≤ bf (w 0) 2 0 then s
  else
    let t := s.setReg (F.MOOR_BINDm 0) (flag true 31 ||| flag (bit (w 0) 30) 30 ||| at32 (bf (w 0) 2 0) 0)
    let eight := fun k => bytesLE ((List.range 8).map (fun i => w (k + i)))
    let keyed := bit (w 1) 0
    let t := if keyed && (t.key 0).isNone then { t with sec := { t.sec with keys := ins t.sec.keys 0 (eight 2) } } else t
    let slots := (List.range 4).filter (fun i => bit (w 1) (4 + i))
    (slots.zip (List.range slots.length)).foldl (fun t e =>
      if (look t.sec.slots e.1).isSome then t
      else { t with sec := { t.sec with slots := ins t.sec.slots e.1 (eight (2 + (if keyed then 8 else 0) + 8 * e.2)) } }) t

/-- The firmware starts from an image that has passed; binds says that it applies its binding block (R563). -/
def State.fwStart (s : State) (l : List Byte) : State :=
  let h := wordsLE (l.take 64)
  let b := fwBytes l
  let body := wordsLE ((b.take (b.length - 128)).drop 64)
  let t := s.setWords 0x20000000 body
  let t := (t.setFld F.FAB_CTRL_REMAP 1).setFld F.FAB_CTRL_LOCK 1
  let t := { t with ctl := { t.ctl with run := .firmware, version := wd h 5 } }
  let first := !t.ctl.bound
  let t := { t with ctl := { t.ctl with bound := true } }.setFld F.LQ_STAT_READY (if s.bankServes 2 then 1 else 0)
  if first then
    let t := t.bindBlock body (bf (wd h 4) 20 0)
    (t.setReady (F.SYS_READY_CTL :: (if s.bankServes 2 then [F.SYS_READY_LQ] else []))).selDecide none
  else t.setReady [F.SYS_READY_CTL]

/-- The boot ROM has read the image of boot flash: copy 0 starts, or copy 1 where that one fails R508; SOURCE shows which, and 3 where
both fail and the controllers stay in reset (R559). -/
def State.fromFlash (s : State) (c0 c1 : List Byte) : State :=
  if s.fwOk c0 then (s.setFld F.SYS_BOOT_SOURCE 0).fwStart c0
  else if s.fwOk c1 then (s.setFld F.SYS_BOOT_SOURCE 1).fwStart c1
  else { s.setFld F.SYS_BOOT_SOURCE 3 with ctl := { s.ctl with run := .off } }

/-- The boot ROM has read the flash (R559). -/
def State.bootFlash (s : State) (c0 c1 : List Byte) : State :=
  if s.ctl.run != .booting then s
  else if let some a := s.romBad then s.romStop a
  else s.fromFlash c0 c1

/-! ## Controller restarts (R554 to R556) -/

/-- An ALARM RAISE or CLEAR comes next in a packet. -/
def Pkt.alarmNext (p : Pkt) : Bool :=
  match p.insns with
  | i :: _ => i.op == 0x59 && i.mod.toNat < 2
  | [] => false

/-- The records of a packet without their payloads. -/
def Pkt.bare (p : Pkt) : Pkt := { p with recs := p.recs.map (fun r => { r with payload := [] }) }

/-- The region of CTL SRAM that a restart keeps. -/
def keptTop : Nat := 0x201E0000

/-- A controller restart with a cause for RST_CNT; an uncorrectable error at an address at or above keptTop loses the
replies and notices there. -/
def State.ctlRestart (s : State) (cause addr : Nat) : State :=
  if s.ctl.run == .off || s.pwr.held then s
  else
    let t := (s.bump F.RST_CNT_CTLRST).setFld F.RST_CNT_CTLCAUSE cause
    let t := { t.clearReady [F.SYS_READY_CTL] with ctl := { t.ctl with run := .restarting } }
    let t := (t.ctl.stack.filter (fun p => !p.alarmNext)).foldl State.stopPacket t
    let t := { t with ctl := { t.ctl with stack := t.ctl.stack.map Pkt.bare, replies := t.ctl.replies.map Pkt.bare } }
    let t := all32.foldl (fun t c =>
      if (t.core c).load.isSome && all32.all (fun k => (t.task k).upd != 1 || (t.task k).updBerth != c) then t.clearBerth c else t) t
    let t := all32.foldl (fun t k => if (t.task k).upd = 1 then t.cancelUpdate k 4 else t) t
    let t := { t with mem := delRange t.mem 0x20000000 0x1E0000, net := { t.net with tapQ := [] } }.clearMarks 0x20000000 0x1E0000
    let t := t.invalidate 0x20000000 0x1E0000
    let top := cause == 3 && keptTop ≤ addr
    let t := if top then
        let lose := fun (m : Moor) (quay : Bool) =>
          { m with out := if quay then [] else m.out.filter (fun p => !p.notice), lost := true }
        let ms := allMoors.foldl (fun v m => v.set m (lose v[m] (decide (4 ≤ t.fld (F.MOOR_BINDm_LINK m.val))))) t.moors
        { t with moors := ms, mem := delRange t.mem keptTop 0x20000 }.clearMarks keptTop 0x20000
      else t
    if cause = 3 then t.eccNotice 0 0 0 addr 0 else t

/-- A read by the controllers of [a, a + n) of CTL SRAM that meets an uncorrectable word restarts them (R487). -/
def State.ctlReadFault (s : State) (a : Nat) : State := (s.ueRecord a).ctlRestart 3 (codeWord a)

/-- A restart ends (R555): the firmware runs again, or the loader waits for it. The binding block is applied where it has not been
since the last POR or DEVICE reset (R563, log 137). -/
def State.ctlRestartDone (s : State) (c0 c1 : List Byte) : State :=
  if s.ctl.run != .restarting then s
  else if let some a := s.romBad then s.romStop a
  else
    let sel := s.fld F.SYS_BOOT_BOOTSEL
    if sel = 1 ∨ sel = 2 ∨ sel = 3 then
      State.flushDue { s.setFld F.LQ_STAT_READY 0 with ctl := { s.ctl with run := .loader } }
    else s.fromFlash c0 c1

/-- What the firmware takes up again after a restart (R400, R471), and the replies that waited. -/
def State.ctlResume (s : State) : State :=
  let sv := s.fld F.TIME_STAT_SERVO
  let t := if sv = svLock ∨ sv = svAcq then s.setServo svHold else s
  let t := if t.refEn 0 && !t.refPresent 0 0 then t.setRef 0 refAbs else t
  (t.selRestart.ptpFollow).flushDue

/-- GO written while the loader runs: the check of LEN bytes at CTL SRAM offset 0 and, where it passes, the start (R562);
after a controller restart the firmware takes up its work again. -/
def State.loaderGo (s : State) : State × Bool :=
  let l := (List.range (s.fld F.SYS_BOOT_LEN)).map (fun i => s.byte (0x20000000 + i))
  if s.ctl.run == .loader && s.fwOk l then
    let first := !s.ctl.bound
    let t := (s.setFld F.SYS_BOOT_SOURCE 2).fwStart l
    (if first then t else t.ctlResume, true)
  else (s, false)

end Sys2Proof.Machine
end

