-- ==== Sys2Proof/Machine/Effects.lean ====
section
/-! DEFINITION. Machine/Effects.lean: what a completed instruction does at its stage edge (R316), and the configuration as it
stands with every completed instruction counted. -/

namespace Sys2Proof.Machine

/-- A record that a failed SOS found bad, rewritten at the edge as the identity record (R134, R128). -/
def State.healSection (s : State) (n : Nat) : State :=
  if s.bad (sectionAddr n) 128 then
    let t := (s.pnLose n).setSection n idSection
    { t with pn := { t.pn with lost := t.pn.lost.erase n } }
  else s

/-- One deferred effect applied. -/
def State.applyEff (s : State) : Eff → State
  | .slotKind first count k => s.setKinds first count k
  | .bindIn slot chan => { s with deck := { s.deck with inBind := ins s.deck.inBind chan slot } }
  | .bindOut slot chan => { s with deck := { s.deck with outBind := ins s.deck.outBind chan slot } }
  | .unbind true chan => { s with deck := { s.deck with outBind := del s.deck.outBind chan } }
  | .unbind false chan => { s with deck := { s.deck with inBind := del s.deck.inBind chan } }
  | .xpt key gain r => s.xmEdit key (fun e => xmWrite e gain r)
  | .xblk stage2 src dst nsrc ndst r gains => s.xmBlock stage2 src dst nsrc ndst gains (fun e g => xmWrite e g r)
  | .xmode cfg => s.xmMode cfg
  | .xin n w => s.setReg (F.XM_INn n) w
  | .xbus n w => s.setReg (F.XM_BUSn n) w
  | .xout n w => s.setReg (F.XM_OUTn n) w
  | .sos sec glide clr g bq later => s.sosApply sec glide clr g bq later
  | .span n d => s.spanApply n d
  | .heal sec => s.healSection sec
  | .drop g hit => s.dropGroup g hit
  | .tparam t w ws => s.onPages t (fun m => m.direct w ws) [(0xC0000 + 4 * w, 4 * ws.length), (0xC1000 + 4 * w, 4 * ws.length)]
  | .claim m first last prio => s.claimZones m.val first last prio
  | .release m first last => s.claimZones m.val first last 0
  | .unclaim m => s.unclaim m.val
  | .chan out chan => s.waitStart out chan
  | .alarm m first last on => s.alarmEdge { m := m, first := first, last := last, on := on }

/-- Every deferred effect applied, in completion order (R361). -/
def State.applyAll (s : State) : State :=
  s.ctl.deferred.foldl (fun t e => t.applyEff e.2) { s with ctl := { s.ctl with deferred := [] } }

/-- The configuration that checks are made against (R316). -/
def State.settled (s : State) : State :=
  if s.ctl.deferred.isEmpty then s else s.applyAll

/-- A deferred effect whose reply waits for its edge. -/
def State.deferEdge (s : State) (pid : Nat) (es : List Eff) : State :=
  (es.foldl (fun t e => t.defer pid e) s).addWait pid .edge

end Sys2Proof.Machine
end

