-- ==== Sys2Proof/Machine/Views.lean ====
section
/-! DEFINITION. Machine/Views.lean: what a read of a peripheral register returns: the stored value, or for a field that shows a
unit's state that state; latched fields (R591) and fields that a read clears (R15). -/

namespace Sys2Proof.Machine

/-! ## Links -/

/-- A mooring's link is up (R272). -/
def State.linkUp (s : State) (m : Nat) : Bool :=
  let l := s.fld (F.MOOR_BINDm_LINK m)
  if l < 4 then s.pcie.bme.getD l false else s.on (F.QPn_CTRL_EN (l - 4))

/-- A mooring is attached (R272); M0 always is, once the landing queues are ready (R274). -/
def State.attached (s : State) (m : Nat) : Bool :=
  s.on F.LQ_STAT_READY && (m == 0 || (s.on (F.MOOR_BINDm_EN m) && s.linkUp m))

/-- Bytes of packets in a store (R304). -/
def storeBytes (l : List OutPkt) : Nat := l.foldl (fun b p => b + 4 * p.words.length) 0

/-- The packets from the front of a list that fit in n bytes. -/
def fitting : Nat → List (Fin 8 × OutPkt) → List (Fin 8 × OutPkt)
  | _, [] => []
  | n, p :: r => if 4 * p.2.words.length ≤ n then p :: fitting (n - 4 * p.2.words.length) r else []

/-- The replies and notices that wait for a quay port, the oldest first. -/
def State.quayWaiting (s : State) (n : Nat) : List (Fin 8 × OutPkt) :=
  let l := (allMoors.filter (fun m => s.fld (F.MOOR_BINDm_LINK m.val) == 4 + n)).flatMap
    (fun m => (s.moors[m]).out.map (fun p => (m, p)))
  l.mergeSort (fun a b => a.2.stamp ≤ b.2.stamp)

/-- The replies and notices that a quay port's store holds (R303, R304): the oldest that fit in its 32 KiB. -/
def State.quayStore (s : State) (n : Nat) : List (Fin 8 × OutPkt) := fitting 32768 (s.quayWaiting n)

/-- Bytes of a quay port's store in use (R304). -/
def State.quayBytes (s : State) (n : Nat) : Nat := storeBytes ((s.quayStore n).map (·.2))

/-- The replies that wait for a quay port fill its store (R291, R304); notices never hold back a packet (R309). -/
def State.quayFull (s : State) (n : Nat) : Bool :=
  32768 ≤ storeBytes (((s.quayWaiting n).filter (fun p => !p.2.notice)).map (·.2))

/-! ## Registers that show a unit's state -/

/-- A word with a bit for each position at which a test holds. -/
def bitsWhere (n : Nat) (p : Nat → Bool) : W32 := wordOf ((List.range n).filter p)

/-- Some register of n words from a base is not 0. -/
def State.anySet (s : State) (base n : Nat) : Bool := (sub s.regs base (4 * n)).any (fun e => e.2 != 0)

/-- RSEL_ registers. -/
def State.viewRsel (s : State) (a : Nat) (v : W32) (base i : Nat) : W32 :=
  if a = F.RSEL_STAT then setBf v 23 20 (s.best.getD 15)
  else if base = F.RSEL_INn_STAT 0 then
    setBf (setBf (setBf v 28 28 (s.fld (F.RSEL_INn_CFG_EN i))) 27 24 (s.fld (F.RSEL_INn_CFG_RANK i))) 23 16
      (min 255 (ceilDiv (s.rsel.left.getD i 0) 1000))
  else v

/-- TIME_ registers: a read of SECLO shows the counter; the others hold what it latched. -/
def State.viewTime (s : State) (a : Nat) (v : W32) : W32 :=
  if a = F.TIME_SECLO then lo32 s.seconds else v

/-- DCO_ registers (R397, R398). -/
def State.viewDco (s : State) (a : Nat) (v : W32) : W32 :=
  if a = F.DCO_STAT then
    setBf (setBf v 31 31 (if s.ptpSteers && s.hasMaster && !s.on F.TIME_STAT_STEPOK then 1 else 0)) 30 30
      (if s.otherSteers then 1 else 0)
  else v

/-- STRM_ registers. -/
def State.viewStrm (s : State) (a : Nat) (v : W32) (base i : Nat) : W32 :=
  if a = F.STRM_STAT then
    at32 (s.net.ctxs.filter (fun e => e.2.run && !e.2.tx)).length 10 ||| at32 (s.net.ctxs.filter (fun e => e.2.run && e.2.tx)).length 0
  else if base = F.STRMn_STAT 0 then s.strmStat i
  else v

/-- LQ_ registers (R284, R287). -/
def State.viewLq (s : State) (a : Nat) (v : W32) (base i j : Nat) : W32 :=
  if a = F.LQ_STAT then setBf v 30 30 (if s.queues.any (fun e => e.2.landing.any (fun l => !l.dropped && !l.viol)) then 1 else 0)
  else if base = F.LQ_PTRm_c 0 0 then at32 (s.queue i j).wr 16 ||| at32 (s.queue i j).rd 0
  else if base = F.LQ_LIMAm 0 then s.limA i
  else if base = F.LQ_LIMBm 0 then s.limB i
  else v

/-- MOOR_ registers. -/
def State.viewMoor (s : State) (v : W32) (base i : Nat) : W32 :=
  if base = F.MOOR_STATm 0 then
    v ||| flag (s.attached i) 31 ||| flag (s.moors[i]?.any (fun m => m.fenced)) 30 ||| flag (s.key i).isSome 29
  else if base = F.MOOR_SUBm 0 then match s.moors[i]? with
    | some m => m.subs.setWidth 32
    | none => 0
  else v

/-- QP_ registers. -/
def State.viewQp (s : State) (v : W32) (base i : Nat) : W32 :=
  if base = F.QPn_STAT 0 then
    let n := s.quayBytes i
    v ||| flag (s.on (F.QPn_CTRL_EN i) && n != 0) 31 ||| flag (32768 ≤ n) 24 ||| at32 (min 255 (ceilDiv n 128)) 0
  else v

/-- XM_ registers (R87). -/
def State.viewXm (s : State) (a : Nat) (v : W32) : W32 :=
  if a = F.XM_STAT then setBf v 23 23 (if s.anySet (F.XM_SATBn 0) 8 || s.anySet (F.XM_SATOn 0) 16 then 1 else 0)
  else if a = F.XM_DUR1 then lo32 (xmDur (s.nsrc false) (s.ndst false))
  else if a = F.XM_DUR2 then (if s.console then lo32 (xmDur (s.nsrc true) (s.ndst true)) else 0)
  else v

/-- PN_ registers. -/
def State.viewPn (s : State) (a : Nat) (v : W32) : W32 :=
  if a = F.PN_STAT then setBf v 17 17 (if s.anySet (F.PN_SATn 0) 128 then 1 else 0) else v

/-- The state that SCc_STAT.BERTH shows: a berth of a domain that is not ON is OFF (R166, R545). -/
def State.berthCode (s : State) (c : Nat) : Nat :=
  if s.bankOn (8 + c) then (s.core c).state.code else Berth.off.code

/-- SCc_STAT. -/
def State.scStat (s : State) (c : Nat) : W32 :=
  let k := s.core c
  let w : Option Nat := match k.wait with
    | some (.sync b) => some b
    | _ => none
  setBf (s.reg (F.SCc_STAT c)) 31 28 (s.berthCode c) ||| at32 k.task 23 ||| flag k.image.prot 22 ||| flag k.image.ferryok 21
    ||| flag (w.isSome || k.wait == some .frame) 20 ||| flag (k.wait == some .frame) 19 ||| at32 (w.getD 0) 15 ||| flag k.mems.psel 14

/-- SHSTATE (R240). -/
def ShState.code : ShState → Nat
  | .none => 0 | .filling => 1 | .ready => 2 | .stale => 3 | .noroom => 4

/-- SC_TFt. -/
def State.tfWord (s : State) (t : Nat) : W32 :=
  let r := s.task t
  at32 r.berth 27 ||| flag (r.berth != t) 26 ||| at32 r.sh.code 23 ||| at32 r.shBerth 18 ||| flag r.partner.isSome 17
    ||| flag r.solo 16 ||| at32 (r.partner.getD 0) 11 ||| at32 r.upd 8 ||| flag (r.rvwait && r.berth != t) 7

/-- SC_TFt_HOLD, in 0.1 s. -/
def State.tfHold (s : State) (t : Nat) : W32 := at32 (min 1023 (ceilDiv (s.task t).holdLeft 40000000)) 0

/-- SC_FSTAT. -/
def State.fstat (s : State) : W32 :=
  let f := s.ferry
  let busy := f.cur.any (fun j => !j.copied && (s.task j.task).applying.isEmpty) || !f.fills.isEmpty
    || f.tasks.toList.any (fun r => (r.sh == .filling && r.fillOn && !r.filled) || r.move.any (·.handed.isNone))
  let v := setBf (s.reg F.SC_FSTAT) 31 31 (if busy then 1 else 0)
  setBf (setBf (setBf v 30 26 ((f.cur.map (·.task)).getD 0)) 25 20 f.queue.length) 19 17 s.availCount

/-- SC_FAULTED mirrors SCc_FAULT.VALID. -/
def State.scFaulted (s : State) : W32 := bitsWhere 32 (fun c => s.on (F.SCc_FAULT_VALID c))

/-- SC_ registers. -/
def State.viewSc (s : State) (a : Nat) (v : W32) (base i j : Nat) : W32 :=
  let k := s.core i
  let started := [Berth.armed.code, Berth.active.code, Berth.halted.code].contains (s.berthCode i)
  if a = F.SC_ACTIVE then bitsWhere 32 (fun c => (s.core c).state == .active)
  else if a = F.SC_FAULTED then s.scFaulted
  else if a = F.SC_FSTAT then s.fstat
  else if base = F.SC_TFt 0 then s.tfWord i
  else if base = F.SC_TFt_HOLD 0 then s.tfHold i
  else if base = F.SCc_STAT 0 then s.scStat i
  else if base = F.SCc_PC 0 then lo32 (k.regs.pc % 8192)
  else if base = F.SCc_FRAME 0 then lo32 k.frame
  else if base = F.SCc_IMG 0 then k.image.layout
  else if base = F.SCc_WDLIM 0 then (if started then lo32 (wdLimit s.rate k.image.wdlim) else 0)
  else if base = F.SCc_RNGk 0 0 then
    (match k.ranges[j]? with
     | some r => flag true 31 ||| at32 r.1 16 ||| at32 (r.2 - 1) 0
     | none => 0)
  else v

/-- LIM_ registers (R56). -/
def State.viewLim (s : State) (a : Nat) (v : W32) (base i : Nat) : W32 :=
  if a = F.LIM_SUM then
    let l := sub s.regs (F.LIM_STATn 0) (4 * 1552)
    flag (l.any (fun e => bit e.2 0)) 1 ||| flag (l.any (fun e => bit e.2 1)) 0
  else if base = F.LIM_STATn 0 then
    let o := s.outCh (chanOfLim i)
    v ||| (if cfgEn o.eff then at32 (limGr o.g) 8 else 0)
  else v

/-- T_LO and T_HI of a group (R164): the scheduled sample while armed, else the last commit's. -/
def State.scnT (s : State) (g : Nat) : Nat :=
  let x := s.scene g
  match x.armed with
  | some a => a.t
  | none => match x.dropping.getLast? with
    | some a => a.t
    | none => x.lastT

/-- TT_ registers. -/
def State.viewTt (s : State) (a : Nat) (v : W32) (base i : Nat) : W32 :=
  let ph : Option Phase := s.tt.active[i]?
  let x := s.scene i
  if a = F.TT_STAT then v ||| flag s.tt.pend.isSome 0
  else if a = F.TT_FRAME_LO then lo32 s.tt.frame
  else if a = F.TT_BAROPEN then bitsWhere 16 s.barrierOpen
  else if base = F.TT_PHn_CFG 0 then (ph.map Phase.cfg).getD 0
  else if base = F.TT_PHn_ARG 0 then (ph.map (·.arg)).getD 0
  else if base = F.TT_PHn_DUR 0 then
    (match ph with
     | some p => if p.unit == .sc then lo32 p.allow else lo32 (s.tt.durs.getD i 0)
     | none => 0)
  else if a = F.TT_SCN_SUM then
    bitsWhere 16 (fun g => (s.scene g).isArmed) ||| (bitsWhere 16 (fun g => !(s.scene g).running.isEmpty)) <<< 16
  else if base = F.TT_SCNg_TLO 0 then lo32 (s.scnT i)
  else if base = F.TT_SCNg_STAT 0 then
    flag x.isArmed 31 ||| flag (!x.running.isEmpty) 30 ||| at32 (x.result.getD 0) 26 ||| flag x.result.isSome 25
      ||| at32 x.issuer.val 16 ||| at32 (min 65535 x.len) 0
  else if base = F.TT_SCNg_PXM 0 then
    lo32 (s.xm.entries.filter (fun e => e.2.pv && e.2.group.toNat == i)).length
  else if base = F.TT_SCNg_PSP 0 then
    at32 (s.pageCount i) 16
      ||| at32 (s.pn.sections.filter (fun e => e.2.pv && e.2.group.toNat == i)).length 0
  else v

/-- The state of a domain as PSTATE of its banks shows it, which has no code for a transition: the state that it leaves (R511, log 180). -/
def State.pdShown (s : State) (d : Nat) : Nat :=
  match look s.pwr.moving d with
  | some m => m.old
  | none => s.pd d

/-- The value of a register as a read shows it, before anything that the read clears. -/
def State.view (s : State) (a : Nat) : W32 :=
  let v := s.reg a
  match findRow a with
  | none => 0
  | some (r, i, j) =>
    match a / 0x10000 with
    | 0 => if a = F.SYS_ID then at32 0x1480 16 ||| at32 s.otp.grade.toNat 8 ||| at32 s.otp.step.toNat 0 else v
    | 6 => s.viewRsel a v r.base i
    | 7 => s.viewTime a v
    | 8 => s.viewDco a v
    | 10 =>
      if a = F.RST_STAT then setBf v 23 16 (min 255 s.pwr.tsdAges.length)
      else if a = F.RST_GWDT then setBf v 15 8 (min 255 (ceilDiv s.pwr.guard 100))
      else v
    | 11 => if r.base = F.BANK_STATb 0 then setBf v 27 26 (s.pdShown (bankPd i)) else v
    | 15 => if a = F.SEC_STAT then s.secStat else v
    | 16 => if a = F.LC_STATE then lo32 s.otp.lc else v
    | 21 => s.viewStrm a v r.base i
    | 22 => if a = F.ZONE_STAT then s.zoneStat else v
    | 23 => s.viewLq a v r.base i j
    | 24 => s.viewMoor v r.base i
    | 25 => if a = F.PCIE_STAT then v ||| (bitsWhere 4 (fun f => s.pcie.bme.getD f false)) <<< 28 else v
    | 26 => s.viewQp v r.base i
    | 30 => s.viewXm a v
    | 31 => s.viewPn a v
    | 32 => s.viewSc a v r.base i j
    | 34 => s.viewLim a v r.base i
    | 36 => s.viewTt a v r.base i
    | _ => v

/-! ## Gates (R446, R448) -/

/-- The gate of a register's block: register and bit of CKG_EN. -/
def regGate (a : Nat) : Option (Nat × Nat) :=
  match a / 0x10000 with
  | 5 => some (1, 18) | 6 => some (1, 19) | 7 => some (1, 12) | 8 => some (1, 12) | 13 => some (1, 20)
  | 14 => some (1, 21) | 17 => some (1, 13) | 18 => some (1, 13) | 19 => some (1, 8) | 20 => some (1, 9)
  | 21 => some (1, 10) | 22 => some (1, 11) | 23 => some (1, 4) | 24 => some (1, 4) | 25 => some (1, 5)
  | 26 => some (1, 6 + (a % 0x10000) / 0x100 % 2)
  | 29 => some (1, 14) | 30 => some (1, 0) | 31 => some (1, 1) | 33 => some (1, 16) | 34 => some (1, 15)
  | 36 => some (1, 2)
  | 27 =>
    match findRow a with
    | some (r, i, _) =>
      if r.base = F.TDMl_ICFG 0 then some (2, i) else if r.base = F.TDMl_OCFG 0 then some (2, 16 + i) else none
    | none => none
  | 28 =>
    match findRow a with
    | some (r, i, _) =>
      if r.base = F.AESTXt_CFG 0 ∨ r.base = F.AESTXt_CSk 0 0 then some (3, 8 + i) else some (3, i)
    | none => none
  | 32 => if 0x1000 ≤ a % 0x10000 then (findRow a).map (fun r => (0, r.2.1)) else none
  | _ => none

/-- A register takes accesses: its block's gate is open. -/
def State.regOpen (s : State) (a : Nat) : Bool :=
  match regGate a with
  | some g => s.gateOpen g.1 g.2
  | none => true

/-! ## Reads -/

/-- The offset of the owner table, in the peripheral region (R276). -/
def ownBase : Nat := 0x188000

/-- A word of the owner table. -/
def inOwn (a : Nat) : Bool := ownBase ≤ a && a < 0x180000 + 0xF4B4

/-- A register whose read shows a free value: the march's position, and while the MPLL runs on a band its phase error
(log 7). -/
def State.freeRead (s : State) (a : Nat) : Option Fld :=
  if a = F.MARCH_STAT ∧ s.on F.MARCH_STAT_RUN then some F.MARCH_STAT_POS
  else if a = F.MPLL_STAT ∧ s.clk.band.isSome then some F.MPLL_STAT_PERR
  else none

/-- What a read captures (R591). -/
def State.latch (s : State) (a : Nat) : State :=
  if a = F.TT_FRAME_LO then s.setReg F.TT_FRAME_HI (lo32 (s.tt.frame / 2 ^ 32 % 2 ^ 28))
  else if a = F.TIME_SECLO then
    ((((s.setReg F.TIME_SECHI (lo32 (s.seconds / 2 ^ 32))).setReg F.TIME_NS (lo32 s.nanos)).setReg F.TIME_FRAC
      (at32 s.frac 16)).setReg F.TIME_MSILO (lo32 s.msi)).setReg F.TIME_MSIHI (lo32 (s.msi / 2 ^ 32))
  else
    match findRow a with
    | some (r, g, _) =>
      if r.base = F.TT_SCNg_TLO 0 then s.setReg (F.TT_SCNg_THI g) (lo32 (s.scnT g / 2 ^ 32)) else s
    | none => s

/-- Fields of code RC after a read (R15). A sensor's PEAK starts again from the next reading. -/
def State.clearRc (s : State) (a : Nat) : State :=
  match findRow a with
  | some (r, i, _) =>
    if r.rc = 0 then s
    else
      let t := s.setReg a (s.reg a &&& ~~~(BitVec.ofNat 32 r.rc))
      if r.base = F.PWR_TEMPs 0 then { t with pwr := { t.pwr with seen := t.pwr.seen.erase i } } else t
  | none => s

/-- A read of a register by the fabric: the word, and the state after it. -/
def State.readReg (s : State) (a : Nat) : W32 × State :=
  if inOwn a then (lookD s.own 0 (a - 0x180000), s)
  else if !s.regOpen a then (0, s)
  else
    let w := s.view a
    match s.freeRead a with
    | some f =>
      let d := s.draw
      (setBf w f.hi f.lo (bf (Config.freeWord d.1) (f.hi - f.lo) 0), d.2)
    | none => (w, (s.latch a).clearRc a)

end Sys2Proof.Machine
end

