-- ==== Sys2Proof/Machine/RegWrites.lean ====
section
/-! DEFINITION. Machine/RegWrites.lean: writes of peripheral registers: access codes (R15), locks, reserved encodings (R18) and
what a write of a register does beyond storing it. -/

namespace Sys2Proof.Machine

/-- The owner-table bits of a word that exist (R276): bit 3 of each entry is reserved, and the last kinds have few entries. -/
def ownMask (off : Nat) : Nat :=
  if off = 0xF4B0 then 0x7
  else if (0xF498 ≤ off ∧ off < 0xF4A0) ∨ (0xF4AC ≤ off ∧ off < 0xF4B0) then 0 else 0x77777777

/-- A write of the owner table. -/
def State.writeOwn (s : State) (off : Nat) (v : W32) : State :=
  { s with own := insD s.own 0 off (v &&& BitVec.ofNat 32 (ownMask off)) }

/-- The fields of a register that a value gives a reserved encoding (R18). -/
def reservedIn (base : Nat) (a : Nat) (v : W32) : List (Nat × Nat) :=
  let l (c : Bool) (hi lo : Nat) : List (Nat × Nat) := if c then [(hi, lo)] else []
  if base = F.LIM_CFGn 0 then
    l (bf v 30 29 == 3) 30 29 ++ l (bf v 28 18 == 0 || 2000 < bf v 28 18) 28 18 ++ l (400 < bf v 8 0) 8 0
  else if a = F.GW_CTRL then l (bf v 1 0 == 3) 1 0
  else if base = F.GW_INn_SRC 0 then l (3 ≤ bf v 15 12) 15 0
  else if base = F.GW_INn_OPEN 0 then
    l (bf v 31 18 == 0 || 10000 < bf v 31 18) 31 18 ++ l (bf v 17 16 == 3) 17 16 ++ l (900 < bf v 9 0) 9 0
  else if base = F.GW_OUTn 0 then l (bf v 17 16 == 3) 17 16 ++ l (3 ≤ bf v 15 12) 15 0
  else if base = F.MOOR_BINDm 0 then l (6 ≤ bf v 2 0) 2 0
  else if base = F.LQ_CFGm_c 0 0 then l (8192 < bf v 29 16) 29 16
  else if base = F.NETx_CTRL 0 ∨ base = F.NETx_CTRL 1 then l (bf v 11 0 == 0 || bf v 11 0 == 4095) 11 0
  else if a = F.TDM_ZC then l (bf v 6 0 == 0 || 100 < bf v 6 0) 6 0
  else if a = F.RST_GWDT then l (bf v 23 16 < 10) 23 16
  else if base = F.PCIE_RCFGm 0 then l (bf v 4 0 < 12 || 22 < bf v 4 0) 4 0
  else []

/-- The value with its reserved encodings replaced by what the register holds. -/
def keepReserved (base a : Nat) (old v : W32) : W32 :=
  (reservedIn base a v).foldl (fun v f => setBf v f.1 f.2 (bf old f.1 f.2)) v

/-- The RWL fields of a block are locked (R15). -/
def State.locked (s : State) (a : Nat) : Bool :=
  match a / 0x10000 with
  | 1 => s.on F.FAB_CTRL_LOCK
  | 23 => s.on F.MOOR_CTRL_LOCK
  | 24 => s.on F.MOOR_CTRL_LOCK
  | 33 => s.on F.GW_CTRL_LOCK
  | _ => false

/-- A write by the access codes: what the register holds after it. -/
def State.byCodes (s : State) (r : RegRow) (a : Nat) (v : W32) : W32 :=
  let old := s.reg a
  let m := BitVec.ofNat 32 (r.rw ||| (if s.locked a then 0 else r.rwl))
  ((old &&& ~~~m) ||| (keepReserved r.base a old v &&& m)) &&& ~~~(v &&& BitVec.ofNat 32 r.w1c)

/-- Two ranges of units meet. -/
def unitsMeet (b1 n1 b2 n2 : Nat) : Bool := b1 < b2 + n2 && b2 < b1 + n1

/-- The queues of a mooring pass the check of R275: each ends within the landing RAM and meets no queue of an enabled
mooring. The queues of the mooring itself are not held against each other. -/
def State.queuesFit (s : State) (m : Nat) : Bool :=
  let cfg := fun (k c : Nat) => (s.fld (F.LQ_CFGm_c_BASE k c), s.fld (F.LQ_CFGm_c_SIZE k c))
  (List.range 4).all (fun c =>
    let q := cfg m c
    q.2 == 0 || (q.1 + q.2 ≤ 8192
      && (List.range 8).all (fun k => k == m || !s.on (F.MOOR_BINDm_EN k) || (List.range 4).all (fun d =>
        (cfg k d).2 == 0 || !unitsMeet q.1 q.2 (cfg k d).1 (cfg k d).2))))

/-- A write of MOOR_BINDm (R274, R275). -/
def State.bindWrite (s : State) (m : Fin 8) (v : W32) : State :=
  let a := F.MOOR_BINDm m.val
  if m = 0 ∨ s.locked a then s
  else
    let new := keepReserved (F.MOOR_BINDm 0) a (s.reg a) v &&& 0xC0000007
    if s.on (F.MOOR_BINDm_EN m.val) then
      if bit v 31 then s else (s.mooringReset m).setReg a new
    else if !bit v 31 then s.setReg a new
    else if s.queuesFit m.val then s.setReg a new
    else (s.setReg a (setBf new 31 31 0)).setFld F.LQ_STAT_CFGERR 1

/-- A write of LQ_CFGm_c (R275): ignored while the mooring is enabled; one that is taken empties the queue (log 159). -/
def State.queueWrite (s : State) (m c : Nat) (v : W32) : State :=
  let a := F.LQ_CFGm_c m c
  if s.locked a || s.on (F.MOOR_BINDm_EN m) then s
  else
    let t := s.setReg a (keepReserved (F.LQ_CFGm_c 0 0) a (s.reg a) v &&& 0x3FFF1FFF)
    t.setQueue m c (freshQueue (t.fld (F.LQ_CFGm_c_SIZE m c)))

/-- KICK (R557). -/
def State.kick (s : State) (v : W32) : State :=
  if bf v 7 0 = 0xA5 then { s with pwr := { s.pwr with guard := 100 * s.fld F.RST_GWDT_LIM } } else s

/-- A register of the PCIE block that takes writes through BAR0 only. -/
def barOnly (a : Nat) : Bool := a / 0x10000 == 25 && 0x1000 ≤ a % 0x10000

/-- A write of a peripheral register by the fabric, or through BAR0 where bar says so. GO of SYS_BOOT is not taken here. -/
def State.writeReg (s : State) (a : Nat) (v : W32) (bar : Bool) : State :=
  if !bar && inOwn a then s.writeOwn (a - 0x180000) v
  else if !s.regOpen a || barOnly a != bar then s
  else
    match findRow a with
    | none => s
    | some (r, i, j) =>
      let new := s.byCodes r a v
      if r.base = F.MOOR_BINDm 0 then (if h : i < 8 then s.bindWrite ⟨i, h⟩ v else s)
      else if r.base = F.LQ_CFGm_c 0 0 then s.queueWrite i j v
      else if r.base = F.LIM_CFGn 0 then s.limWrite i new
      else if a = F.ECC_TEST_CTRL then s.eccTestWrite v
      else if a = F.NETA_MDIO then (if s.on F.NETA_MDIO_GO then s else s.setReg a new)
      else if a = F.SYS_BOOT then (if s.ctl.run == .loader then s.setReg a new else s)
      else if a = F.RST_GWDT then (s.setReg a new).kick v
      else if a = F.GW_CTRL then
        let t := s.setReg a (new ||| (s.reg a &&& 0x100))
        if s.locked a || bf v 1 0 = 3 then t else t.setFld F.GW_STAT_DRIVER (if t.fld F.GW_CTRL_DRIVE = 2 then 1 else 0)
      else if a = F.FAB_CTRL then s.setReg a (new ||| (s.reg a &&& 2))
      else if a = F.MOOR_CTRL then s.setReg a (new ||| s.reg a)
      else if r.base = F.QPn_CTRL 0 then
        let f := if i = 0 then F.SYS_READY_QP0 else F.SYS_READY_QP1
        let t := s.setReg a new
        if bit new 0 then t.bringUp else t.clearReady [f]
      else if r.base = F.PN_SATn 0 then
        let hit := (spansIn s.pn.spans (32 * i) (32 * i + 31)).filter (fun e => bit v (e.1 % 32))
        hit.foldl (fun t e => (List.range e.2.count).foldl (fun t k =>
          t.editSection (e.2.first + k) (fun r => { r with sat := false })) t) (s.setReg a new)
      else s.setReg a new

end Sys2Proof.Machine
end

