-- ==== Sys2Proof/Machine/Access.lean ====
section
/-! DEFINITION. Machine/Access.lean: the address map (R475) as hosts and the debug port see it: the word at an address, which
moorings may read or write it (R326), and the readiness of units (R322). -/

namespace Sys2Proof.Machine

/-! ## Readiness (R322, R446) -/

def State.rdTT (s : State) : Bool := s.on F.SYS_READY_TT
def State.rdXM (s : State) : Bool := s.unit F.SYS_READY_XM (1, 0)
def State.rdPN (s : State) : Bool := s.unit F.SYS_READY_PN (1, 1)
def State.rdSTRM (s : State) : Bool := s.unit F.SYS_READY_STRM (1, 10)
def State.rdDRC (s : State) : Bool := s.unit F.SYS_READY_DRC (1, 13)
/-- The signal cores of a berth or of a task's home berth. -/
def State.rdSIG (s : State) (c : Nat) : Bool := s.unit (sigReady c) (0, c)

/-! ## Regions (R475) -/

/-- The bytes of the DRAM region; before MR8 has told the capacity, the largest one (R513, R537, log 152). -/
def State.dramSpan (s : State) : Nat := if s.dramBytes = 0 then (dramCap 4).2 * 2 ^ 20 else s.dramBytes

/-- The regions of the address map; a DRAM address beyond the usable capacity is a hole (R477). -/
inductive Region
  | windowZ
  | bootRom
  | ctlSram
  | secure
  | landing
  | xm
  | pn
  | spans
  | stream
  | sc
  | deck
  | periph
  | dram
  | hole
  deriving DecidableEq, Repr

def State.region (s : State) (a : Nat) : Region :=
  if a < 0x40000 then .windowZ
  else if 0x10000000 ≤ a ∧ a < 0x10040000 then .bootRom
  else if 0x20000000 ≤ a ∧ a < 0x20200000 then .ctlSram
  else if 0x30000000 ≤ a ∧ a < 0x30040000 then .secure
  else if 0x40000000 ≤ a ∧ a < 0x40080000 then .landing
  else if 0x50000000 ≤ a ∧ a < 0x50800000 then .xm
  else if 0x58000000 ≤ a ∧ a < 0x58400000 then .pn
  else if 0x5C000000 ≤ a ∧ a < 0x5C010000 then .spans
  else if 0x60000000 ≤ a ∧ a < 0x60400000 then .stream
  else if 0x70000000 ≤ a ∧ a < 0x72000000 then .sc
  else if 0x90000000 ≤ a ∧ a < 0x90200000 then .deck
  else if 0xA0000000 ≤ a ∧ a < 0xA0250000 then .periph
  else if dramBase ≤ a ∧ a < dramBase + s.dramSpan then .dram
  else .hole

def periphBase : Nat := 0xA0000000

/-! ## Words -/

/-- A word of the boot ROM, by offset (log 10). -/
def romWord (o : Nat) : W32 :=
  le32 (Config.bootRom o) (Config.bootRom (o + 1)) (Config.bootRom (o + 2)) (Config.bootRom (o + 3))

/-- A word of a berth's window, by offset (R168); offsets without a memory read 0. -/
def coreWindow (k : Core) (o : Nat) : W32 :=
  if o < 0x10000 then
    let w : W64 := lookD k.mems.prog 0 (o / 8)
    if o % 8 = 0 then w.setWidth 32 else w.extractLsb' 32 32
  else if 0x40000 ≤ o ∧ o < 0x60000 then lookD k.mems.x 0 ((o - 0x40000) / 4)
  else if 0x80000 ≤ o ∧ o < 0xA0000 then lookD k.mems.y 0 ((o - 0x80000) / 4)
  else if 0xC0000 ≤ o ∧ o < 0xC1000 then lookD k.mems.active 0 ((o - 0xC0000) / 4)
  else if 0xC1000 ≤ o ∧ o < 0xC2000 then lookD k.mems.inactive 0 ((o - 0xC1000) / 4)
  else 0

/-- A task's shadow lies in a berth (R237). -/
def State.shadowIn (s : State) (c t : Nat) : Bool :=
  let r := s.task t
  r.shBerth == c && (r.sh == .filling || r.sh == .ready || r.sh == .stale)

/-- The task whose shadow has a word of a berth's X or Y memory, and the word's address in the task's own memory (R238). -/
def State.shadowAt (s : State) (c : Nat) (y : Bool) (a : Nat) : Option (Nat × Nat) :=
  all32.findSome? (fun t =>
    let r := s.task t
    let im := (s.core r.berth).image
    let at_ := if y then r.yAt else r.xAt
    if s.shadowIn c t && at_ ≤ a && a < at_ + 16 * (if y then im.yslen else im.xslen) then
      some (t, (if y then im.ysbase else im.xsbase) + (a - at_))
    else none)

/-- The journal entries in a berth's program memory (R239). -/
def State.journalIn (s : State) (c : Nat) : List (Nat × Bool × Nat × W32) :=
  (all32.filter (s.shadowIn c)).flatMap (fun t =>
    ((s.task t).applying ++ (s.task t).journal).map (fun e => (t, e.y, e.addr, e.data)))

/-- A word of a berth's window: in a shadow berth, the shadows and the journal stand in its memories (R238, R239). -/
def State.scWord (s : State) (c o : Nat) : W32 :=
  let own := coreWindow (s.core c) o
  if o < 0x10000 then
    if all32.any (s.shadowIn c) then
      let w := Config.journalWord (o / 8) (s.journalIn c)
      if o % 8 = 0 then w.setWidth 32 else w.extractLsb' 32 32
    else own
  else if 0x40000 ≤ o ∧ o < 0x60000 then
    match s.shadowAt c false ((o - 0x40000) / 4) with
    | some e => lookD (s.task e.1).shX 0 e.2
    | none => own
  else if 0x80000 ≤ o ∧ o < 0xA0000 then
    match s.shadowAt c true ((o - 0x80000) / 4) with
    | some e => lookD (s.task e.1).shY 0 e.2
    | none => own
  else own

/-- A word of the stream bank: as a debug port has stored it, or a held port word, whose layout is not given. -/
def State.streamBankWord (s : State) (a : Nat) : W32 :=
  match look s.ecc.held a, look s.net.bank a with
  | some w, _ => w
  | none, some e => Config.streamWord e.1 e.2
  | none, none => 0

/-- The word that the memories hold at an address, whatever their codes say. The peripheral region is read by readReg. -/
def State.rawWord (s : State) (a : Nat) : W32 :=
  match s.region a with
  | .windowZ => if s.on F.FAB_CTRL_REMAP then s.word (0x20000000 + a) else romWord a
  | .bootRom => romWord (a - 0x10000000)
  | .ctlSram => s.word a
  | .landing => s.word a
  | .dram => s.word a
  | .xm => wd (xmWords (s.xmEntry ((a - 0x50000000) / 16))) (a % 16 / 4)
  | .pn => wd (sectionWords (s.section_ ((a - 0x58000000) / 128))) (a % 128 / 4)
  | .spans => wd (spanWords (look s.pn.spans ((a - 0x5C000000) / 16))) (a % 16 / 4)
  | .stream => s.streamBankWord a
  | .sc => s.scWord ((a - 0x70000000) / 0x100000) (a % 0x100000)
  | .deck => lookD s.deck.words 0 ((a - 0x90000000) / 4)
  | _ => 0

/-- The address of the memory that an address reaches: window Z shows CTL SRAM or the boot ROM. -/
def State.remapped (s : State) (a : Nat) : Nat :=
  if a < 0x40000 then (if s.on F.FAB_CTRL_REMAP then 0x20000000 + a else 0x10000000 + a) else a

/-- A read of one word by the controllers: none where the word is uncorrectable (R486, R487, R517). -/
def State.readWord (s : State) (a0 : Nat) : Option W32 × State :=
  let a := s.remapped a0
  match s.region a with
  | .periph => let r := s.readReg (a - periphBase); (some r.1, r.2)
  | .dram =>
    let t := s.dramScan a 4 4
    if t.bad a 4 then (none, t) else (some (t.word a), t)
  | _ =>
    match bankOf a with
    | some b =>
      if s.marching b then (none, s)
      else
        let t := s.fixSingles a 4
        if t.bad a 4 then (none, if b = 0 then t.ctlReadFault a else t.ueRecord a) else (some (t.rawWord a), t)
    | none => (some (s.rawWord a), s)

/-- Consecutive words read until the first uncorrectable one: the words, whether all were good, the state. -/
def State.readWords : Nat → Nat → State → List W32 × Bool × State
  | 0, _, s => ([], true, s)
  | n + 1, a, s =>
    let r := s.readWord a
    match r.1 with
    | none => ([], false, r.2)
    | some w =>
      let l := State.readWords n (a + 4) r.2
      (w :: l.1, l.2)

/-! ## Admission (R326) -/

/-- A mooring owns a crosspoint: its source and its destination (R94). -/
def State.ownsXpt (s : State) (m : Fin 8) (stage2 : Bool) (src dst : Nat) : Bool :=
  s.owns m (if stage2 then ownBuses else ownXmIn) src && s.owns m (if s.console && !stage2 then ownBuses else ownXmOut) dst

/-- A mooring owns the crosspoint of an entry of the bank. -/
def State.ownsEntry (s : State) (m : Fin 8) (key : Nat) : Bool :=
  let c := xmCoord s.console key
  s.ownsXpt m c.1 c.2.1 c.2.2

/-- The task whose window a berth's is: the one it holds, else the one at home there (R171; log 48). -/
def State.windowTask (s : State) (c : Nat) : Nat :=
  let k := s.core c
  if k.state == .loading || k.state == .armed || k.state == .active || k.state == .halted then k.task else c

/-- A word of DRAM lies in a window granted to a mooring (R536). -/
def State.inWindow (s : State) (m : Fin 8) (a : Nat) : Bool :=
  (List.range 16).any (fun k =>
    let b := dramBase + s.fld (F.DRC_WINk_BASE k) * 0x100000
    s.on (F.DRC_WINk_EN k) && s.fld (F.DRC_WINk_MOOR k) == m.val && b ≤ a && a < b + s.fld (F.DRC_WINk_SIZE k) * 0x100000)

/-- A mooring may read the word at an address. -/
def State.mayRead (s : State) (m : Fin 8) (a : Nat) : Bool :=
  match s.region a with
  | .secure => false
  | .periph => true
  | .hole => true
  | .xm => s.ownsEntry m ((a - 0x50000000) / 16)
  | .pn => s.owns m ownSections ((a - 0x58000000) / 128)
  | .spans => s.owns m ownSpans ((a - 0x5C000000) / 16)
  | .sc => s.owns m ownTasks (s.windowTask ((a - 0x70000000) / 0x100000))
  | .deck => s.owns m ownSlots ((a - 0x90000000) / 128)
  | .dram => m == 0 || s.inWindow m a
  | _ => m == 0

/-- A mooring may write the word at an address. -/
def State.mayWrite (s : State) (m : Fin 8) (a : Nat) : Bool :=
  match s.region a with
  | .periph => m == 0
  | .hole => true
  | .dram => m == 0 || s.inWindow m a
  | _ => false

/-- The addresses of n words from a. -/
def wordAddrs (a n : Nat) : List Nat := (List.range n).map (fun i => a + 4 * i)

/-- An access breaks R326: misaligned, across regions, or in a hole. -/
def State.badRange (s : State) (a n : Nat) : Bool :=
  a % 4 != 0 || s.region a == .hole || s.region a != s.region (a + 4 * (n - 1))

/-- The unit of a region is not ready (R322). -/
def State.regionDown (s : State) (a n : Nat) : Bool :=
  match s.region a with
  | .xm => !s.rdXM
  | .pn => !s.rdPN
  | .spans => !s.rdPN
  | .stream => !s.rdSTRM
  | .deck => !s.rdTT
  | .sc => ((List.range 32).filter (fun c => (a - 0x70000000) / 0x100000 ≤ c && c ≤ (a + 4 * (n - 1) - 0x70000000) / 0x100000)).any
      (fun c => !s.rdSIG c)
  | .landing => !s.on F.SYS_READY_LQ
  | .dram => !s.rdDRC
  | _ => false

/-! ## Writes -/

/-- The code words of a write that covers [a, a + n) of 8-byte code words: whole ones and the parts at its ends (R488). -/
def State.wroteRange (s : State) (a n : Nat) : State :=
  let lo := (a + 7) / 8 * 8
  let hi := (a + n) / 8 * 8
  let t := if a % 8 != 0 then s.wrote a 4 else s
  let t := if lo < hi then t.wrote lo (hi - lo) else t
  if (a + n) % 8 != 0 && lo ≤ hi then t.wrote hi 4 else t

/-- A write of words covers part of an uncorrectable code word (R488, R517): it cannot merge. -/
def State.badMerge (s : State) (a n : Nat) : Option Nat :=
  [a, a + 4 * n - 4].find? (fun e =>
    s.bad e 4 && !(codeWord e ≥ a && codeWord e + 8 ≤ a + 4 * n))

/-- Words written to consecutive registers, in ascending order (R327). -/
def State.writeRegs (s : State) (a : Nat) : List W32 → State
  | [] => s
  | w :: r => (s.writeReg a w false).writeRegs (a + 4) r

/-- Words written to DRAM through port P4. -/
def State.writeDram (s : State) (a : Nat) (ws : List W32) : State :=
  (s.setWords a ws).wroteRange a (4 * ws.length)

end Sys2Proof.Machine
end

