-- ==== Sys2Proof/Machine/Links.lean ====
section
/-! DEFINITION. Machine/Links.lean: packets landing in the queues (R283 to R289), the checks before execution (R290), the
dequeue order (R291, R292), and the links: PCIe, quay ports, MGMT. -/

namespace Sys2Proof.Machine

/-! ## Landing -/

/-- Words beyond this are not written (R286). -/
def maxPacket : Nat := 16400

/-- The landing RAM address of word i of a packet whose first unit has pointer p (R283, R284); word 0 is its landing word. -/
def State.landAddr (s : State) (m c p i : Nat) : Nat :=
  let size := s.fld (F.LQ_CFGm_c_SIZE m c)
  let q := (p + i / 16) % (2 * size)
  0x40000000 + 64 * (s.fld (F.LQ_CFGm_c_BASE m c) + (if q < size then q else q - size)) + 4 * (i % 16)

/-- A word written to the landing RAM. -/
def State.landWord (s : State) (m c p i : Nat) (w : W32) : State :=
  let a := s.landAddr m c p i
  (s.setWord a w).wroteParity a 4

/-- Words of a packet written from word i on. -/
def State.landWords (s : State) (m c p i : Nat) : List W32 → State
  | [] => s
  | w :: r => (s.landWord m c p i w).landWords m c p (i + 1) r

/-- Units of a packet of n words (R283). -/
def unitsOf (n : Nat) : Nat := (n + 16) / 16

/-- Units in use (R284). -/
def LandQ.use (q : LandQ) (size : Nat) : Nat := if size = 0 then 0 else (q.wr + 2 * size - q.rd) % (2 * size)

/-- Packets of a mooring and class may land from a link (R272, R273, R288); before the firmware, only those of the boot
loader (R562). Links: 0 to 3 PF0 to PF3, 4 and 5 the quay ports. -/
def State.landsFrom (s : State) (link m c : Nat) : Bool :=
  if s.on F.LQ_STAT_READY && s.ctl.run != .loader then
    s.attached m && s.fld (F.MOOR_BINDm_LINK m) == link && !(s.moors[m]?.any (fun x => x.fenced))
  else
    s.ctl.run == .loader && m == 0 && c == 2 && [9, 0, 4, 5].getD (s.fld F.SYS_BOOT_BOOTSEL) 9 == link

/-- A packet discarded before landing. -/
def State.badHdr (s : State) : State := s.bump F.LQ_STAT_BADHDR

/-- The header of a packet passes R285 for a mooring and class; no mooring is named where the packet names its own. -/
def State.headerOk (s : State) (link : Nat) (w0 w1 : W32) : Bool :=
  bf w0 31 24 == 0xA7 && bf w0 19 16 < 4 && bf w1 15 8 < 8 && s.landsFrom link (bf w1 15 8) (bf w0 19 16)

/-- A credit violation (R288): the mooring is fenced and told so. Notices that wait for it are not sent any more (log 111). -/
def State.violate (s : State) (m : Fin 8) (c : Nat) (seq : W16) : State :=
  let t := (s.setFld F.LQ_STAT_VIOL 1).alertBit 4
  let mo := t.moors[m]
  let t := { t with moors := t.moors.set m { mo with fenced := true, out := mo.out.filter (fun p => !p.notice) } }
  t.post m (packetWords t m (t.key m.val) c seq 0 eproto 0 false false []) false

def noLanding : Landing :=
  { words := [], tags := [], perr := false, ovr := false, checked := false, dropped := false, viol := false, flush := [] }

/-- Words from word n of a packet on land, those whose numbers are tagged as poisoned (R289). -/
def State.landPoisoned (s : State) (m c p n : Nat) (ws : List W32) (tags : List Nat) : State :=
  (tags.filter (fun k => n ≤ k && k < n + ws.length)).foldl (fun t k => t.setMark (t.landAddr m c p (1 + k)) (some .bad))
    (s.landWords m c p (1 + n) ws)

/-- Words arrive for the packet that is landing in a queue. Once 16 bytes are there its header is checked; then its words go
to the landing RAM while the queue has units (R285, R288; a CLASS that is not the aperture's, log 164). Words of a poisoned write stay
poisoned there, those too that waited for the header (R289, log 112). A packet that is discarded is no longer awaited by
FLUSH (R294). -/
def State.arrive (s : State) (link : Nat) (m : Fin 8) (c : Nat) (words : List W32) (how : Arrival) : State :=
  let q := s.queue m.val c
  let l := q.landing.getD noLanding
  let size := s.fld (F.LQ_CFGm_c_SIZE m.val c)
  if l.dropped || l.viol then s.setQueue m.val c { q with landing := some l }
  else
    let all := l.words ++ words
    let tags := if how = .poisoned then l.tags ++ (List.range words.length).map (· + l.words.length) else l.tags
    let l1 := { l with words := all, tags := tags, perr := l.perr || how != .whole, ovr := decide (maxPacket < all.length) }
    if all.length < 4 then s.setQueue m.val c { q with landing := some l1 }
    else if !l.checked && !(s.headerOk link (wd all 0) (wd all 1) && bf (wd all 1) 15 8 == m.val && bf (wd all 0) 19 16 == c) then
      (s.setQueue m.val c { q with landing := some { l1 with words := [], dropped := true, flush := [] } }).badHdr.flushCheck
    else
      let kept := min maxPacket all.length
      let room := size - q.use size
      if room < unitsOf kept then
        let fit := all.take (16 * room - 1)
        let t := if room = 0 then s else s.landPoisoned m.val c q.wr 0 fit tags
        ((t.setQueue m.val c { q with landing := some { l1 with words := [], viol := true, checked := true, flush := [] } }).violate
          m c ((wd all 0).setWidth 16)).flushCheck
      else
        let from_ := if l.checked then l.words.length else 0
        let t := s.landPoisoned m.val c q.wr from_ ((all.take maxPacket).drop from_) tags
        t.setQueue m.val c { q with landing := some { l1 with checked := true } }

/-- The packet landing in a queue ends: its landing word is written and WR advances (R285, R286). mismatch: the doorbell's length
differs; part: the transfer ended inside a word. -/
def State.endPacket (s : State) (m : Fin 8) (c : Nat) (mismatch part : Bool) : State :=
  let q := s.queue m.val c
  let l := q.landing.getD noLanding
  let s1 := s.setQueue m.val c { q with landing := none }
  if l.dropped || l.viol then s1
  else if l.words.length < 4 then s1.badHdr.flushCheck
  else
    let n := min maxPacket l.words.length
    let size := s.fld (F.LQ_CFGm_c_SIZE m.val c)
    let w : W32 := flag true 31 ||| flag l.perr 30 ||| at32 c 28 ||| flag l.ovr 27 ||| flag mismatch 26 ||| flag part 25 ||| at32 n 0
    let t := s1.landWord m.val c q.wr 0 w
    let p : Landed := { start := q.wr, units := unitsOf n, stamp := t.ctl.stamp, flush := l.flush }
    let t := t.setQueue m.val c { q with landing := none, landed := q.landed ++ [p], wr := (q.wr + unitsOf n) % (2 * size) }
    { t with ctl := { t.ctl with stamp := t.ctl.stamp + 1 } }

/-! ## PCIe (R298, R299) -/

/-- The PCIe block takes accesses: its gate is open and the link is up. -/
def State.pcieOpen (s : State) : Bool := s.gateOpen 1 5 && s.fld F.PCIE_STAT_SPEED != 0

/-- A BAR0 access to a mooring's aperture or registers is taken (R298). -/
def State.barTakes (s : State) (pf m c : Nat) : Bool :=
  if s.on F.LQ_STAT_READY && s.ctl.run != .loader then s.attached m && s.fld (F.MOOR_BINDm_LINK m) == pf else s.landsFrom pf m c

def State.stray (s : State) : State := s.bump F.PCIE_STAT_STRAY

/-- A write to an aperture. -/
def State.apertureWrite (s : State) (pf m : Nat) (mm : Fin 8) (c : Nat) (words : List W32) (how : Arrival) : State :=
  if !s.pcieOpen then s
  else if !s.barTakes pf m c then s.stray
  else s.arrive pf mm c words how

/-- A write of PCIE_DBm. -/
def State.doorbell (s : State) (pf : Nat) (m : Fin 8) (v : W32) : State :=
  let c := bf v 17 16
  if !s.pcieOpen then s
  else if !s.barTakes pf m.val c then s.stray
  else
    let n := (((s.queue m.val c).landing.getD noLanding).words).length
    s.endPacket m c (bf v 14 0 != n) false

/-- What an offset of BAR0 names (R298). -/
inductive BarAt
  | stat
  | aperture (m : Fin 8) (c : Nat)
  | reg (m : Fin 8) (i : Nat)
  | table (i : Nat)
  | pending (i : Nat)
  | none_

def barAt (off : Nat) : BarAt :=
  let m (n : Nat) : Fin 8 := ⟨n % 8, Nat.mod_lt _ (by decide)⟩
  if off = 0 then .stat
  else if 0x1000 ≤ off ∧ off < 0x9000 then .aperture (m (off / 0x1000 - 1)) (off % 0x1000 / 0x400)
  else if 0x9000 ≤ off ∧ off < 0x9200 ∧ off % 0x40 < 0x20 then .reg (m ((off - 0x9000) / 0x40)) (off % 0x40 / 4)
  else if 0xE000 ≤ off ∧ off < 0xE080 then .table ((off - 0xE000) / 4)
  else if 0xF000 ≤ off ∧ off < 0xF008 then .pending ((off - 0xF000) / 4)
  else .none_

/-- The engine address of register i of a mooring's block (R298). -/
def barReg (m i : Nat) : Nat :=
  match i with
  | 1 => F.LQ_LIMAm m
  | 2 => F.LQ_LIMBm m
  | _ => F.PCIE_DBm m + 4 * i

/-- A write of one word through BAR0, by its offset there. -/
def State.barWrite (s : State) (pf off : Nat) (v : W32) : State :=
  if !s.pcieOpen then s
  else
    match barAt off with
    | .aperture m c => s.apertureWrite pf m.val m c [v] .whole
    | .reg m 0 => s.doorbell pf m v
    | .reg m i => if !s.barTakes pf m.val 2 then s.stray else s.writeReg (barReg m.val i) v true
    | .table i => { s with pcie := { s.pcie with msix := insD s.pcie.msix 0 (32 * pf + i) v } }
    | _ => s

/-- The pending bits of a function's vectors: a message of that vector waits for the end of its spacing (log 113). -/
def State.msixPending (s : State) (pf : Nat) : W32 :=
  bitsWhere 8 (fun v => s.pcie.owed.any (fun m => s.fld (F.MOOR_BINDm_LINK m) == pf && s.fld (F.PCIE_RCFGm_VEC m) == v))

/-- A read of one word through BAR0, by its offset there. -/
def State.barRead (s : State) (pf off : Nat) : W32 × State :=
  if !s.pcieOpen then (0, s)
  else
    match barAt off with
    | .stat => s.readReg F.PCIE_STAT
    | .aperture m c => (0, if s.barTakes pf m.val c then s else s.stray)
    | .reg m i => if !s.barTakes pf m.val 2 then (0, s.stray) else s.readReg (barReg m.val i)
    | .table i => (lookD s.pcie.msix 0 (32 * pf + i), s)
    | .pending 0 => (s.msixPending pf, s)
    | _ => (0, s)

/-! ## Quay ports (R301 to R304) -/

/-- A quay port takes transfers. -/
def State.quayOpen (s : State) (n : Nat) : Bool := s.on (F.QPn_CTRL_EN n) && s.gateOpen 1 (6 + n)

/-- A transfer in progress on a quay port, or none. -/
def State.setQuay (s : State) (n : Nat) (x : Option QuayIn) : State :=
  { s with side := { s.side with quay := match x with
      | some x => ins s.side.quay n x
      | none => del s.side.quay n } }

/-- Words of a PACKET transfer arrive: once 16 bytes are there they go to the queue that the header names, or the packet is
discarded (R285). -/
def State.quayArrive (s : State) (n : Nat) (old : QuayIn) (words : List W32) : State :=
  let all := old.words ++ words
  let x : QuayIn := { words := all, lost := old.lost }
  if old.lost || all.length < 4 then s.setQuay n (some x)
  else if h : bf (wd all 1) 15 8 < 8 then
    let m : Fin 8 := ⟨bf (wd all 1) 15 8, h⟩
    let c := bf (wd all 0) 19 16
    if 4 ≤ old.words.length then (s.setQuay n (some x)).arrive (4 + n) m c words .whole
    else if s.headerOk (4 + n) (wd all 0) (wd all 1) then (s.setQuay n (some x)).arrive (4 + n) m c all .whole
    else (s.setQuay n (some { x with lost := true })).badHdr
  else (s.setQuay n (some { x with lost := true })).badHdr

/-- A PACKET transfer ends with QPn_CS_N rising: the packet that it carried ends (R285). -/
def State.quayEnd (s : State) (n : Nat) (part : Bool) : State :=
  match look s.side.quay n with
  | none => s
  | some x =>
    let t := s.setQuay n none
    let t := if part then t.bump (F.QPn_STAT_PART n) else t
    if x.lost then t
    else if x.words.length < 4 then t.badHdr
    else if h : bf (wd x.words 1) 15 8 < 8 then t.endPacket ⟨bf (wd x.words 1) 15 8, h⟩ (bf (wd x.words 0) 19 16) false part
    else t

/-- Words of a PACKET transfer, its first or further ones; ended says that QPn_CS_N rises after them. A transfer that has begun
goes on when the port is disabled (log 114). -/
def State.quayPacket (s : State) (n : Nat) (words : List W32) (part ended : Bool) : State :=
  if !s.quayOpen n && (look s.side.quay n).isNone then s
  else
    let t := s.quayArrive n (lookD s.side.quay ⟨[], false⟩ n) words
    if ended then t.quayEnd n part else t

/-- A REPLY transfer: the oldest packet is sent, and leaves where the transfer took it whole (R303). -/
def State.quayReply (s : State) (n : Nat) (whole : Bool) : State :=
  if !s.quayOpen n then s
  else
    match (if s.ctl.run == .restarting then [] else s.quayStore n) with
    | [] => { s with side := { s.side with data := [0] } }
    | (m, p) :: _ =>
      let t := { s with side := { s.side with data := p.words } }
      if whole then
        { t with moors := t.moors.set m { t.moors[m] with out := (t.moors[m]).out.erase p } }
      else t

/-- A STATUS transfer (R302). -/
def State.quayStatus (s : State) (n : Nat) : State :=
  if !s.quayOpen n then s
  else
    let len := match s.quayStore n with
      | [] => 0
      | p :: _ => p.2.words.length
    let fenced := bitsWhere 8 (fun m => s.moors[m]?.any (fun x => x.fenced))
    let mine := (List.range 8).filter (fun m => s.attached m && s.fld (F.MOOR_BINDm_LINK m) == 4 + n)
    let ws := (at32 len 16 ||| fenced) :: mine.flatMap (fun m => [s.limA m, s.limB m])
    { s with side := { s.side with data := ws } }

/-! ## Checks before execution (R290, R313) -/

/-- The instructions of an instruction area; none where R313 refuses it. -/
def parseInsns : Nat → List W32 → Option (List Insn)
  | _, [] => some []
  | 0, _ => none
  | n + 1, w :: r =>
    let c := bf w 23 16
    let ext := c == 255
    let k := if ext then bf (wd r 0) 15 0 else c
    let ops := if ext then r.drop 1 else r
    if (ext && (r.isEmpty || k < 255 || 16386 < k || bf (wd r 0) 31 16 != 0)) || ops.length < k then none
    else (parseInsns n (ops.drop k)).map (fun l => { op := bf w 31 24, mod := w.setWidth 16, ops := ops.take k } :: l)

/-- The words of a landed packet, without its landing word. -/
def State.packetAt (s : State) (m c : Nat) (p : Landed) : W32 × List W32 :=
  let lw := s.word (s.landAddr m c p.start 0)
  (lw, (List.range (bf lw 14 0)).map (fun i => s.word (s.landAddr m c p.start (i + 1))))

/-- The addresses of the words of a landed packet, its landing word among them, that are delivered with a poison tag (R289). -/
def State.poisoned (s : State) (m c : Nat) (p : Landed) (n : Nat) : List Nat :=
  ((List.range (n + 1)).map (fun i => s.landAddr m c p.start i)).filter (fun a => s.bad a 4)

/-- The instruction area of a packet. -/
def insnArea (ws : List W32) : List W32 := (ws.take (ws.length - (if bit (wd ws 1) 0 then 5 else 1))).drop 4

/-- An authenticated packet is next by R280. -/
def seqNext (last : Option W16) (seq : W16) : Bool :=
  match last with
  | none => true
  | some l => let d := (seq - l).toNat; 1 ≤ d && d ≤ 0x7FFF

/-- The tag of a packet matches under a key. -/
def tagOk (ws : List W32) (key : List Byte) : Bool :=
  wordsLE ((hmac key (bytesLE (ws.take (ws.length - 5)))).take 16) == (ws.drop (ws.length - 5)).take 4

/-- The status of a landed packet by R290: OK when it is to execute. -/
def State.packetStatus (s : State) (m : Fin 8) (c : Nat) (lw : W32) (ws : List W32) (poison : Bool) : Nat :=
  let w0 := wd ws 0
  let w1 := wd ws 1
  let auth := bit w1 0
  let len := bf w1 31 16
  let short := auth && decide (len < 9)
  let authBad := if auth then
      (match s.key m.val with
       | none => true
       | some k => short || !tagOk ws k || !seqNext ((s.moors[m]).last.getD c none) (w0.setWidth 16))
    else s.on (F.MOOR_BINDm_AUTHREQ m.val)
  (firstErr [(bit lw 27 || bit lw 26 || bit lw 25 || bf lw 14 0 != len || len < 5, ebadpkt),
    (bit lw 30 || poison, epoison),
    (bf w0 23 20 != 1 || bf w1 7 3 != 0 || wd ws 3 != 0
      || crc32c (bytesLE (ws.take (ws.length - 1))) != wd ws (ws.length - 1)
      || (!short && (parseInsns ws.length (insnArea ws)).isNone), ebadpkt),
    (authBad, eauth)]).getD stOk

/-! ## Dequeue (R291, R292) -/

/-- The bytes that a packet takes in a ring: it starts on a 64-byte boundary (R300). -/
def ringBytes (p : OutPkt) : Nat := ceilDiv (4 * p.words.length) 64 * 64

/-- Ring of a mooring: its size, the offset of TAIL, and what the next packet skips and needs. -/
def State.ringNeed (s : State) (m : Nat) (p : OutPkt) : Nat × Nat × Nat :=
  let size := 2 ^ s.fld (F.PCIE_RCFGm_LOG2 m)
  let off := s.fld (F.PCIE_RTAILm_TAIL m) % size
  let skip := if size < off + 4 * p.words.length then size - off else 0
  (off, skip, skip + ringBytes p)

/-- Free bytes of a mooring's ring. -/
def State.ringFree (s : State) (m : Nat) : Nat :=
  let size := 2 ^ s.fld (F.PCIE_RCFGm_LOG2 m)
  size - (s.fld (F.PCIE_RTAILm_TAIL m) + 2 * size - s.fld (F.PCIE_RHEADm_HEAD m) % (2 * size)) % (2 * size)

/-- The reply space of a mooring is full (R291): on a quay port its replies fill the store (R304); on PCIe the ring is off or
full (R300), with notices too (log 165). -/
def State.replyFull (s : State) (m : Fin 8) : Bool :=
  let l := s.fld (F.MOOR_BINDm_LINK m.val)
  if 4 ≤ l then s.quayFull (l - 4) else !s.on (F.PCIE_RCFGm_EN m.val) || s.ringFree m.val == 0

/-- The packet at the head of a queue may be dequeued: it is marked by FLUSH, or reply space is free and its FENCE, if set, has
been met. -/
def State.headReady (s : State) (m : Fin 8) (c : Nat) : Option Landed :=
  match (s.queue m.val c).landed with
  | [] => none
  | p :: _ =>
    let w1 := s.word (s.landAddr m.val c p.start 2)
    let fenceOk := !bit w1 2 ||
      (!(s.ctl.stack.any (fun x => x.m == m && x.stamp < p.stamp))
        && (List.range 4).all (fun d => (s.queue m.val d).landed.all (fun x => p.stamp ≤ x.stamp)))
    if !p.flush.isEmpty || (!s.replyFull m && fenceOk) then some p else none

/-- The moorings of a class in round-robin order, starting after the one served last. -/
def robin (last : Nat) : List (Fin 8) := (List.range 8).map (fun i => ⟨(last + 1 + i) % 8, Nat.mod_lt _ (by decide)⟩)

/-- The next packet to dequeue: the lowest class first, below that of the packet in progress. -/
def State.nextPacket (s : State) : Option (Fin 8 × Fin 4 × Landed) :=
  let top : Nat := match s.ctl.stack with
    | [] => 4
    | p :: _ => p.cls.val
  ([0, 1, 2, 3] : List (Fin 4)).findSome? (fun c =>
    if c.val < top then
      (robin (s.ctl.rr.getD c.val 0)).findSome? (fun m => (s.headReady m c.val).map (fun p => (m, c, p)))
    else none)

/-- At an instruction boundary, with no packet of a lower class ready, the running packet fails where its next instruction has a
reserved opcode, and so may the one that resumes after it (R292, R315). -/
def State.boundary (s : State) : State :=
  (List.range s.ctl.stack.length).foldl (fun t _ => if t.nextPacket.isSome then t else t.closeReserved) s

/-- A record added to the running packet, whose next instruction is done; the packet completes when it fails or has no
further instruction (R317, R318). -/
def State.record (s : State) (r : Rec) : State :=
  match s.ctl.stack with
  | [] => s
  | p :: rest =>
    let p1 := { p with recs := p.recs ++ [r], insns := p.insns.tail }
    let t := { s with ctl := { s.ctl with stack := p1 :: rest } }
    (if (r.status == stOk || r.status == stPending) && !p1.insns.isEmpty then t else t.completePacket).boundary

/-- A packet leaves its queue refused with a status (R290, R294). -/
def State.refusePacket (s : State) (m : Fin 8) (c : Fin 4) (p : Landed) (ws : List W32) (status : Nat) : State :=
  let pk : Pkt := { id := s.ctl.nextId, m := m, cls := c, auth := bit (wd ws 1) 0, seq := (wd ws 0).setWidth 16, tag := wd ws 2, noreply := bit (wd ws 1) 1,
                    units := p.units, stamp := p.stamp, insns := [], recs := [], status := status }
  let t := if status = eflushed then s else s.bump (F.MOOR_STATm_REFUSED m.val)
  let t := { t with ctl := { t.ctl with nextId := t.ctl.nextId + 1 } }
  ((t.freeUnits m.val c.val p.units).reply pk).flushCheck

/-- A packet is dequeued, read in full and started, or refused with the status of its first failed check (R290, R291, R294). A code
word of a mooring key that is bad is tamper of the secure bank, and each poisoned word of the landing RAM is recorded (R487). -/
def State.takePacket (s : State) (m : Fin 8) (c : Fin 4) (p : Landed) : State :=
  let q := s.queue m.val c.val
  let a := s.packetAt m.val c.val p
  let s1 := s.setQueue m.val c.val { q with landed := q.landed.tail }
  let s1 := { s1 with ctl := { s1.ctl with rr := s1.ctl.rr.set c.val m.val } }
  if !p.flush.isEmpty then s1.refusePacket m c p a.2 eflushed
  else
    let s1 := if bit (wd a.2 1) 0 then s1.secureRead (keyAddr m.val) 32 else s1
    let bad := s1.poisoned m.val c.val p (bf a.1 14 0)
    let s1 := bad.foldl State.ueRecord s1
    let st := s1.packetStatus m c.val a.1 a.2 (!bad.isEmpty)
    if st != stOk then s1.refusePacket m c p a.2 st
    else
      let w1 := wd a.2 1
      let pk : Pkt := { id := s1.ctl.nextId, m := m, cls := c, auth := bit w1 0, seq := (wd a.2 0).setWidth 16, tag := wd a.2 2,
                        noreply := bit w1 1, units := p.units, stamp := p.stamp,
                        insns := (parseInsns a.2.length (insnArea a.2)).getD [], recs := [], status := stOk }
      let mo := s1.moors[m]
      let s2 := if bit w1 0 then
          { s1 with moors := s1.moors.set m { mo with last := mo.last.set c.val (some pk.seq) } } else s1
      let s3 := { s2 with ctl := { s2.ctl with stack := pk :: s2.ctl.stack, nextId := s2.ctl.nextId + 1 } }
      if pk.insns.isEmpty then s3.completePacket else s3

/-- The controllers take the next packet, if one is ready (R291, R292). -/
def State.packetStart (s : State) : State :=
  if !s.commands then s
  else
    match s.nextPacket with
    | none => s.boundary
    | some (m, c, p) => (s.takePacket m c p).boundary

/-! ## Reply rings (R300) -/

/-- An MSI-X message of a mooring. -/
def State.message (s : State) (m : Nat) : State :=
  { s with pcie := { s.pcie with msgs := (s.fld (F.MOOR_BINDm_LINK m), s.fld (F.PCIE_RCFGm_VEC m)) :: s.pcie.msgs } }

/-- A ring update is signalled, at once or at the end of the mooring's spacing. -/
def State.signal (s : State) (m : Nat) : State :=
  if s.pcie.spacing.contains m then { s with pcie := { s.pcie with owed := uniq (s.pcie.owed ++ [m]) } }
  else if s.fld (F.PCIE_RCFGm_HOLD m) = 0 then s.message m
  else
    let t := s.message m
    { t with pcie := { t.pcie with spacing := t.pcie.spacing ++ [m] } }

/-- A mooring's spacing ends. -/
def State.spacingEnd (s : State) (m : Nat) : State :=
  if !s.pcie.spacing.contains m then s
  else
    let t := { s with pcie := { s.pcie with spacing := s.pcie.spacing.erase m } }
    if t.pcie.owed.contains m then { t with pcie := { t.pcie with owed := t.pcie.owed.erase m } }.signal m else t

/-- Words written to host memory. -/
def hostPuts (h : SMap W32) (a : Nat) : List W32 → SMap W32
  | [] => h
  | w :: r => hostPuts (ins h a w) (a + 4) r

/-- The oldest reply or notice of a mooring is written into its ring, where it fits (R300). -/
def State.replyDma (s : State) (m : Fin 8) : State :=
  let l := s.fld (F.MOOR_BINDm_LINK m.val)
  match (s.moors[m]).out with
  | [] => s
  | p :: rest =>
    if 4 ≤ l || s.ctl.run == .restarting || !s.pcieOpen || !s.pcie.bme.getD l false || !s.on (F.PCIE_RCFGm_EN m.val) then s
    else
      let n := s.ringNeed m.val p
      if s.ringFree m.val < n.2.2 then s
      else
        let size := 2 ^ s.fld (F.PCIE_RCFGm_LOG2 m.val)
        let base := (s.reg (F.PCIE_RBHm m.val)).toNat * 2 ^ 32 + (s.reg (F.PCIE_RBLm m.val)).toNat / 4096 * 4096
        let h := if n.2.1 = 0 then s.pcie.host else ins s.pcie.host (base + n.1) 0
        let at_ := base + (if n.2.1 = 0 then n.1 else 0)
        let t := { s with pcie := { s.pcie with host := hostPuts h at_ p.words },
                          moors := s.moors.set m { s.moors[m] with out := rest } }
        (t.setFld (F.PCIE_RTAILm_TAIL m.val) ((s.fld (F.PCIE_RTAILm_TAIL m.val) + n.2.2) % (2 * size))).signal m.val

/-- The PCIe link goes down: its moorings are reset (R296). -/
def State.pcieDown (s : State) : State :=
  let t := (s.linkReset (· < 4)).clearReady [F.SYS_READY_PCIE]
  (t.setFld F.PCIE_STAT_SPEED 0).setFld F.PCIE_STAT_WIDTH 0

/-! ## MGMT (R305 to R307) -/

/-- A MGMT register. -/
def State.mgmtReg (s : State) (i : Nat) : W32 :=
  match i with
  | 0 => s.reg F.SYS_READY
  | 1 => at32 s.maxTemp 0
  | 2 => s.scFaulted
  | 3 => at32 (all32.filter (fun c => (s.core c).state == .retired)).length 24 ||| (bitsWhere 8 s.attached) <<< 16
      ||| (bitsWhere 8 (fun m => s.moors[m]?.any (fun x => x.fenced))) <<< 8
  | 4 => at32 s.otp.lc 24 ||| at32 (s.fld F.TIME_STAT_SERVO) 16 ||| flag (s.on F.MPLL_STAT_LOCK) 9 ||| flag (s.on F.PLL0_STAT_LOCK) 8
  | 5 => s.side.alert
  | 6 => at32 0x1480 16 ||| at32 s.otp.step.toNat 0
  | _ => 0

/-- A read of MGMT register i clears the alert word where i is 0x05 (R306). -/
def State.mgmtSeen (s : State) (i : Byte) : State :=
  { s with side := { s.side with alert := if i = 5 then 0 else s.side.alert } }

/-- A read transfer of n whole registers and k further bytes: the index advances with every whole register (R305). A register
read in part shows its low bytes; log 92. -/
def State.mgmtRead (k : Nat) : Nat → State → List W32 → State
  | 0, s, l =>
    let i := s.side.mgmtIndex
    let w := s.mgmtReg i.toNat
    if k = 0 then { s with side := { s.side with data := l } }
    else
      let t := s.mgmtSeen i
      { t with side := { t.side with data := l ++ [at32 (bf w (8 * k - 1) 0) 0] } }
  | n + 1, s, l =>
    let i := s.side.mgmtIndex
    let t := s.mgmtSeen i
    State.mgmtRead k n { t with side := { t.side with mgmtIndex := i + 1 } } (l ++ [s.mgmtReg i.toNat])

end Sys2Proof.Machine
end

