-- ==== Sys2Proof/Machine/Cmd.lean ====
section
/-! DEFINITION. Machine/Cmd.lean: the operands of an instruction and the checks that many of them share (R190, R277, R311,
R316, R321 to R323). -/

namespace Sys2Proof.Machine

/-! ## Operands -/

/-- DEPLOYED (R507). -/
def lcDeployed : Nat := 2

/-- Operand word i, from 1; an absent one reads 0 (the count is checked). -/
def opw (q : Req) (i : Nat) : W32 := q.ops.getD (i - 1) 0

/-- Bits [hi:lo] of operand i. -/
def opf (q : Req) (i hi lo : Nat) : Nat := bf (opw q i) hi lo

/-- Operand word i is there: what it names is judged whatever the count is (R321). -/
def given (q : Req) (i : Nat) : Bool := i ≤ q.ops.length

/-- A modifier that is not reserved with n operand words. -/
def shape (ok : Bool) (q : Req) (n : Nat) : Bool := ok && q.ops.length == n

/-- Operand i sets a bit outside a mask. -/
def extra (q : Req) (i mask : Nat) : Bool := !within (opw q i) mask

/-! ## The frame of an instruction row -/

/-- The controllers come to an instruction row: they take instructions, and where the row is the next instruction of the
running packet no packet of a lower class is ready, since that one goes first (R292). -/
def State.serves (s : State) (op : Nat) (q : Req) : Bool := s.commands && !(s.isNext op q && s.nextPacket.isSome)

/-- The payload words that an instruction returns where it succeeds, by its operands (R312 and the chapters of R314). -/
def payloadLen (op k : Nat) (q : Req) : Nat :=
  match op, k with
  | 0x01, _ => q.ops.length
  | 0x02, _ => 4
  | 0x08, _ => opf q 2 29 16 + 1
  | 0x18, 1 => 4 * q.ops.length
  | 0x22, _ => (opf q 1 18 16 + 1) * [25, 6, 4].getD q.mod.toNat 0
  | 0x29, _ => 2
  | 0x2A, _ => 1
  | 0x30, 2 => 2
  | 0x30, 3 => 4
  | 0x32, 1 => opf q 2 9 0 + 1
  | 0x32, 2 => opf q 2 9 0 + 1
  | 0x33, 2 => 2
  | 0x33, 6 => 3
  | 0x34, 0 => 2
  | 0x34, 2 => 3
  | 0x35, 2 => 3
  | 0x40, 2 => 8
  | 0x41, 0 => 2
  | 0x41, 2 => opf q 1 24 16 + 1
  | 0x42, 3 => opf q 2 7 0 + 1
  | 0x48, 0 => 7
  | 0x4A, 2 => 13
  | 0x51, 2 => 1
  | 0x52, 1 => 6
  | 0x59, 2 => ceilDiv (opf q 2 7 0 + 1) 32
  | 0x60, 1 => opf q 2 7 0 + 1
  | 0x68, 1 => 1
  | 0x69, 1 => 2
  | _, _ => 0

/-- The record of an instruction carries its packet's reply past the limit of R320. A failed one is judged by the payload it
would have returned. -/
def State.tooLong (s : State) (p : Pkt) (op k : Nat) (q : Req) (r : Res) : Bool :=
  let n := if r.status = stOk ∨ r.status = stPending then r.payload.length else payloadLen op k q
  s.replyMax p.m < replyLen s p n

/-- A status that stands above ERANGE in every error table (R321). -/
def aboveRange (e : Nat) : Bool := e == eproto || e == eperm

/-- An instruction row: operation k of an opcode, for a request. It acts in its packet (enter); a reserved modifier
reaches the body with modOk false; a record beyond R320 fails with ERANGE at its rank; what the boot loader does not execute fails with
ENOTREADY (R562). A row that the controllers do not come to now does not occur, nor does one whose modifier
selects another row of the opcode: nothing happens (log 1). The body
gets the packet's number; a packet that it has ended gets no record. -/
def runInsn (op k : Nat) (q : Req) (s : State) (body : Nat → Bool → State → Res) : State :=
  if !s.serves op q || (modSel op q.mod).getD k != k then s
  else
    let s1 := s.enter op q
    match s1.ctl.stack with
    | [] => s
    | p :: _ =>
      if !s.executes op then s1.record { op := op, status := enotready, payload := [] }
      else
        let r := body p.id ((modSel op q.mod).isSome) s1
        if s.tooLong p op k q r && !aboveRange r.status then
          s1.record { op := op, status := erange, payload := [] }
        else if (r.st.ctl.stack.head?.map (·.id)) == some p.id then
          r.st.record { op := op, status := r.status, payload := r.payload }
        else r.st

/-- A frame in the form of R190: its two words name it, or are 0 for F + 2; none where it lies out of range. -/
def State.startFrame (s : State) (lo hi : W32) : Option Nat :=
  let k := lo.toNat + bf hi 27 0 * 2 ^ 32
  let f := s.tt.frame
  if k = 0 then some (f + 2) else if f + 2 ≤ k ∧ k ≤ f + 2 ^ 20 then some k else none

/-- The two words of a frame. -/
def frameWords (k : Nat) : List W32 := [lo32 k, at32 (bf (hi32 k) 27 0) 0]

/-- The two words of a sample index. -/
def indexWords (n : Nat) : List W32 := [lo32 n, hi32 n]

/-- n numbers from a. -/
def rangeFrom (a n : Nat) : List Nat := (List.range n).map (· + a)

/-- A gain or other 24-bit field of a word. -/
def w24 (w : W32) : W24 := w.setWidth 24

/-- An instruction that meets an uncorrectable error (R323, R487). -/
def Res.fault (s : State) (a : Nat) : Res := ⟨efault, [], s.ueRecord a⟩

/-- An instruction that reads records at addresses, each of n bytes: it meets the first uncorrectable error of them, or
acts on the state in which single-bit errors are corrected. A bank that marches answers with an error (R494, R323). -/
def reading (s : State) (as : List Nat) (n : Nat) (act : State → Res) : Res :=
  if as.any (fun a => (bankOf a).any s.marching) then Res.err s efault
  else if s.marks.isEmpty then act s
  else
    let t := as.foldl (fun t a => t.fixSingles a n) s
    match as.findSome? (fun a => t.badIn a n) with
    | some a => Res.fault t a
    | none => act t

/-- The life-cycle state once every accepted transition is programmed (R316, log 179). -/
def State.lcDue (s : State) : Nat := ((s.sec.fusing.getLast?).map (·.2)).getD s.otp.lc

/-- The hash in a program-signing key slot once every accepted transition has wiped the bank: only what SIGNKEY has put there since
stands (R316, R505). -/
def State.slotDue (s : State) (k : Nat) : Option (List Byte) :=
  if s.sec.fusing.isEmpty || s.sec.later.contains k then look s.sec.slots k else none

/-- The berths of a task that a completed TSTOP stops (R198). -/
def State.stopBerths (s : State) (t : Nat) : List Nat :=
  if s.ferrying t || !s.taskRuns t then [] else (s.task t).berth :: ((s.task t).partner.filter (fun _ => !(s.task t).solo)).toList

/-- The units as every completed instruction leaves them (R316): the deferred effects, and what waits in the units themselves:
configurations of lanes, groups and instances, RUN of channels, contexts behind a STOP, inputs of the selector behind a switch,
tasks that TSTOP stops, the designation of spares, and the domains that POWER moves. For the checks of CLOCK GATE, POWER, RATE and
MEMTEST. -/
def State.asked (s : State) : State :=
  let t := s.settled
  let t := t.ports.newLanes.foldl (fun t e => t.setReg (if e.1 then F.TDMl_OCFG e.2.1 else F.TDMl_ICFG e.2.1) e.2.2) t
  let t := (List.range 4).foldl (fun t g => match (t.grp g).newCfg with
    | some w => t.setReg (F.TDMg_GCFG g) w
    | none => t) t
  let t := t.ports.newAsrc.foldl (fun t e => t.setReg (F.ASRCn_CFG e.1) (e.2.getD 0)) t
  let t := t.ports.waits.foldl (fun t w => t.setFld (runFld w.out w.chan) (if w.run then 1 else 0)) t
  let t := t.refApply t.rsel.newRegs
  let t := t.pwr.moving.foldl (fun t e => t.setFld (pdFld e.1) e.2.target) t
  let t := t.ferry.stops.foldl (fun t e => (t.stopBerths e.1).foldl (fun t c => t.modCore c (fun k => { k with state := .idle })) t) t
  let t : State := match t.ferry.spareSet with
    | some mask =>
      let u := all32.foldl (fun (u : State) c => u.modCore c (fun (k : Core) =>
        if mask.getLsbD c && k.state == .idle then { k with state := .standby }
        else if !mask.getLsbD c && t.designated c && k.state == .standby then { k with state := .idle } else k)) t
      u.setReg F.SC_SPARE mask
    | none => t
  { t with net := { t.net with ctxs := t.net.ctxs.filterMap (fun (e : Nat × Ctx) =>
      e.2.settled.map (fun c => (e.1, { c with run := e.2.runs }))) } }

/-- The two timetables that a change of configuration is checked against: the active and the pending one. -/
def State.lists (s : State) : List (List Phase) := s.tt.active :: (s.tt.pend.map (·.phases)).toList

end Sys2Proof.Machine
end

