-- ==== Sys2Proof/Machine/CmdBasic.lean ====
section
/-! DEFINITION. Machine/CmdBasic.lean: NOP, ECHO, QUERY, MREAD, MWRITE, MFILL, RATE, SUBSCRIBE and FLUSH (R294, R308, R325 to
R332). -/

namespace Sys2Proof.Machine

/-- The error table of NOP. -/
def errsNop (q : Req) (ok : Bool) : List (Bool × Nat) :=
  [(!ok || 16386 < q.ops.length, erange)]

/-- NOP (R328). -/
def execNop (q : Req) (s : State) : Out :=
  done s (runInsn 0x00 0 q s (fun _ ok s => checked s (errsNop q ok) (fun _ => Res.ok s)))

/-- The error table of ECHO. -/
def errsEcho (q : Req) (ok : Bool) : List (Bool × Nat) :=
  [(!ok || 1024 < q.ops.length, erange)]

/-- ECHO (R328). -/
def execEcho (q : Req) (s : State) : Out :=
  done s (runInsn 0x01 0 q s (fun _ ok s => checked s (errsEcho q ok) (fun _ => Res.okP s q.ops)))

/-! ## QUERY (R329) -/

/-- Word 1 to 4 of QUERY DEVICE. -/
def State.deviceWords (s : State) (m : Fin 8) : List W32 :=
  [s.view F.SYS_ID, s.ctl.version, s.reg F.SYS_READY, at32 s.otp.lc 24 ||| at32 s.rate 21 ||| at32 m.val 0]

/-- The words of QUERY FRAME. -/
def State.frameNow (s : State) : List W32 := frameWords s.tt.frame ++ indexWords s.msi

/-- The words of QUERY SELF. -/
def State.selfWords (s : State) (m : Fin 8) : List W32 :=
  [s.view (F.MOOR_STATm m.val), s.view (F.MOOR_SUBm m.val), s.limA m.val, s.limB m.val]

/-- The error table of QUERY DEVICE. -/
def errsQueryDevice (q : Req) (ok : Bool) : List (Bool × Nat) :=
  [(!shape ok q 0, erange)]

def execQueryDevice (q : Req) (s : State) : Out :=
  done s (runInsn 0x02 0 q s (fun _ ok s => checked s (errsQueryDevice q ok) (fun _ => Res.okP s (s.deviceWords q.m))))

/-- The error table of QUERY FRAME. -/
def errsQueryFrame (q : Req) (ok : Bool) : List (Bool × Nat) :=
  [(!shape ok q 0, erange)]

def execQueryFrame (q : Req) (s : State) : Out :=
  done s (runInsn 0x02 1 q s (fun _ ok s => checked s (errsQueryFrame q ok) (fun _ => Res.okP s s.frameNow)))

/-- The error table of QUERY SELF. -/
def errsQuerySelf (q : Req) (ok : Bool) : List (Bool × Nat) :=
  [(!shape ok q 0, erange)]

def execQuerySelf (q : Req) (s : State) : Out :=
  done s (runInsn 0x02 2 q s (fun _ ok s => checked s (errsQuerySelf q ok) (fun _ => Res.okP s (s.selfWords q.m))))

/-! ## Memory access (R325 to R327) -/

/-- The address of operands 1 and 2. -/
def opAddr (q : Req) : Nat := (opw q 1).toNat + opf q 2 7 0 * 2 ^ 32

/-- MREAD: the words, or those before an uncorrectable one (R323). -/
def mreadAct (q : Req) (n : Nat) (s : State) : Res :=
  let r := State.readWords n (opAddr q) s
  if r.2.1 then Res.okP r.2.2 r.1 else ⟨efault, r.1, r.2.2⟩

/-- The error table of MREAD. -/
def errsMread (q : Req) (ok : Bool) (s : State) : List (Bool × Nat) :=
  let a := opAddr q
  let n := opf q 2 29 16 + 1
  let fit := shape ok q 2
  [(!clsIn q [1, 2, 3], eproto),
   (given q 2 && (wordAddrs a n).any (fun x => !s.mayRead q.m x), eperm),
   (!fit || extra q 2 0x3FFF00FF || s.badRange a n, erange),
   (s.regionDown a n, enotready)]

def execMread (q : Req) (s : State) : Out :=
  done s (runInsn 0x08 0 q s (fun _ ok s =>
    let n := opf q 2 29 16 + 1
    checked s (errsMread q ok s) (fun _ => mreadAct q n s)))

/-- n words stored from an address: in a bank or DRAM, or written to registers. A word that must merge with an
uncorrectable one makes an error (R323): it is stored merged and poisoned (R488), and no other word is written (R355). -/
def writeAct (a : Nat) (ws : List W32) (s : State) : Res :=
  if s.region a = .periph then Res.ok (s.writeRegs (a - periphBase) ws)
  else
    match s.badMerge a ws.length with
    | some e =>
      let t := s.writeDram e [wd ws ((e - a) / 4)]
      ⟨efault, [], (t.setMark e (some .bad)).dramScan e 4 4⟩
    | none => Res.ok (s.writeDram a ws)

/-- The checks that MWRITE and MFILL share for n words from an address. -/
def writeChecks (q : Req) (fit : Bool) (n : Nat) (s : State) : List (Bool × Nat) :=
  let a := opAddr q
  [(!clsIn q [1, 2], eproto),
   (given q 3 && (wordAddrs a n).any (fun x => !s.mayWrite q.m x), eperm),
   (!fit || extra q 2 0x000000FF || s.badRange a n, erange),
   (s.regionDown a n, enotready)]

/-- MWRITE while the boot loader runs: into CTL SRAM, or to SYS_BOOT, where GO starts the check (R562). -/
def loaderWrite (q : Req) (s : State) : Res :=
  let a := opAddr q
  let ws := q.ops.drop 2
  if s.region a = .ctlSram && s.region (a + 4 * (ws.length - 1)) = .ctlSram then
    Res.ok ((s.setWords a ws).wroteRange a (4 * ws.length))
  else if a = periphBase + F.SYS_BOOT && ws.length = 1 then
    let t := s.writeReg F.SYS_BOOT (wd ws 0) false
    if bit (wd ws 0) 31 then
      let r := t.loaderGo
      if r.2 then Res.ok r.1 else Res.err s eauth
    else Res.ok t
  else Res.err s enotready

/-- The error table of MWRITE; while the boot loader runs, M0 alone writes (R562). -/
def errsMwrite (q : Req) (ok : Bool) (s : State) : List (Bool × Nat) :=
  let n := q.ops.length - 2
  let fit := ok && 3 ≤ q.ops.length && q.ops.length ≤ 16386
  if s.ctl.run = .loader then
    [(!clsIn q [1, 2], eproto), (q.m != 0, eperm), (!fit || extra q 2 0x000000FF || s.badRange (opAddr q) n, erange)]
  else writeChecks q fit n s

def execMwrite (q : Req) (s : State) : Out :=
  doneMem s (runInsn 0x09 0 q s (fun _ ok s =>
    checked s (errsMwrite q ok s) (fun _ =>
      if s.ctl.run = .loader then loaderWrite q s else writeAct (opAddr q) (q.ops.drop 2) s)))

/-- The error table of MFILL. -/
def errsMfill (q : Req) (ok : Bool) (s : State) : List (Bool × Nat) :=
  let n := opf q 3 23 0 + 1
  let fit := shape ok q 4 && !extra q 3 0x00FFFFFF
  writeChecks q fit n s

def execMfill (q : Req) (s : State) : Out :=
  doneMem s (runInsn 0x0A 0 q s (fun _ ok s =>
    let n := opf q 3 23 0 + 1
    checked s (errsMfill q ok s) (fun _ => writeAct (opAddr q) (List.replicate n (opw q 4)) s)))

/-! ## RATE (R330, R331) -/

/-- The rate that stands once every accepted RATE has acted. -/
def State.rateDue (s : State) : Nat :=
  match s.rateChange with
  | none => s.rate
  | some c => c.next.getD c.target

/-- The configuration does not admit a rate (R330). -/
def State.rateBars (s : State) (r : Nat) : Bool :=
  capChan r < s.nin || capBus r < s.nbus || capOut r < s.nout
  || s.lists.any (fun l => !s.sizes.fits r l || !s.sizes.pnFits r l || pnOverlap l)
  || s.deck.inBind.any (fun e => !chanOk r e.1) || s.deck.outBind.any (fun e => !chanOk r e.1)
  || s.net.ctxs.any (fun e => capNet r < e.2.firstCh + e.2.count)
  || s.reg F.GW_ACT_LO != 0 || s.reg F.GW_ACT_HI != 0

/-- A RATE is accepted: it starts a change, replaces the target of one that has not stopped the ports, or follows one that
has. -/
def State.rateAccept (s : State) (pid code : Nat) : State :=
  match s.rateChange with
  | none =>
    { s with rateChange := some { target := code, step := .accepted, old := s.rate, at_ := 0, left := 0, next := none } }.addWait pid .newRate
  | some c =>
    if c.step = .accepted ∨ c.step = .fading then
      { s with rateChange := some { c with target := code } }.addWait pid .newRate
    else { s with rateChange := some { c with next := some code } }.addWait pid .rateNext

/-- The error table of RATE. -/
def errsRate (q : Req) (ok : Bool) (s : State) : List (Bool × Nat) :=
  let code := opf q 1 2 0
  [(!clsIn q [1, 2], eproto), (q.m != 0, eperm),
   (!shape ok q 1 || extra q 1 7 || 6 ≤ code, erange),
   (code != s.rateDue && s.asked.rateBars code, estate)]

def execRate (q : Req) (s : State) : Out :=
  done s (runInsn 0x10 0 q s (fun pid ok s =>
    let code := opf q 1 2 0
    checked s (errsRate q ok s) (fun _ => if code = s.rateDue then Res.ok s else Res.ok (s.rateAccept pid code))))

/-! ## SUBSCRIBE and FLUSH (R308, R294) -/

/-- The error table of SUBSCRIBE. -/
def errsSubscribe (q : Req) (ok : Bool) : List (Bool × Nat) :=
  [(!shape ok q 1 || extra q 1 0xFFFE, erange)]

/-- SUBSCRIBE: the notice codes that the mooring gets. -/
def execSubscribe (q : Req) (s : State) : Out :=
  done s (runInsn 0x7E 0 q s (fun _ ok s =>
    checked s (errsSubscribe q ok) (fun _ =>
      Res.ok { s with moors := s.moors.set q.m { s.moors[q.m] with subs := (opw q 1).setWidth 16 } })))

/-- The packets of a queue that FLUSH marks: those landed and the one landing. -/
def LandQ.flushed (l : LandQ) (pid : Nat) : LandQ :=
  { l with landed := l.landed.map (fun p => { p with flush := p.flush ++ [pid] }),
           landing := l.landing.map (fun x => { x with flush := x.flush ++ [pid] }) }

/-- FLUSH of the classes of a mask. -/
def State.flushQueues (s : State) (pid m : Nat) (mask : W32) : State :=
  ((bitsOf mask 4).foldl (fun t c => t.setQueue m c ((t.queue m c).flushed pid)) (s.addWait pid .flush)).flushCheck

/-- The error table of FLUSH. -/
def errsFlush (q : Req) (ok : Bool) : List (Bool × Nat) :=
  let m := opf q 1 10 8
  let fit := shape ok q 1
  [(given q 1 && q.m != 0 && m != q.m.val, eperm), (!fit || extra q 1 0x70F, erange)]

def execFlush (q : Req) (s : State) : Out :=
  done s (runInsn 0x7F 0 q s (fun pid ok s =>
    let m := opf q 1 10 8
    checked s (errsFlush q ok) (fun _ => Res.ok (s.flushQueues pid m (opw q 1 &&& 0xF)))))

end Sys2Proof.Machine
end

