-- ==== Sys2Proof/Machine/CmdFrame.lean ====
section
/-! DEFINITION. Machine/CmdFrame.lean: SLOTMAP, TIMETABLE, XPT, XBLK, XMODE, SOS, SPAN, SOSRD, TURN and DROP (R32 to R36, R44 to
R50, R94 to R102, R133 to R139, R148 to R163). -/

namespace Sys2Proof.Machine

/-! ## SLOTMAP -/

/-- A channel identifier names an entry of the owner table (R32, R276). -/
def chanNamed (ch : Nat) : Bool :=
  match ch / 4096 with
  | 0 => ch % 4096 < 512
  | 1 => ch % 4096 < 16
  | 2 => ch % 4096 < 1024
  | _ => false

/-- A mooring does not own a port channel that exists. -/
def State.chanBarred (s : State) (m : Fin 8) (out : Bool) (ch : Nat) : Bool := chanNamed ch && !s.ownsChan m out ch

/-- A slot of a range changes its kind while something refers to it (R35). -/
def State.kindBars (s : State) (first n : Nat) (k : SlotKind) : Bool :=
  (rangeFrom first n).any (fun i => s.kind i != k && (s.slotBound i || s.slotInSpan i || s.slotInXm i))

/-- The error table of SLOTMAP KIND. -/
def errsSlotmapKind (q : Req) (ok : Bool) (s : State) : List (Bool × Nat) :=
  let t := s.settled
  let first := opf q 1 13 0
  let n := opf q 2 13 0 + 1
  let k := kindOf (opf q 2 17 16)
  [(!clsIn q [1, 2], eproto),
   (ok && given q 1 && (rangeFrom first n).any (fun i => i < 16384 && !s.owns q.m ownSlots i), eperm),
   (!shape ok q 2 || extra q 1 0x3FFF || extra q 2 0x33FFF || 16384 < first + n, erange), (!s.rdTT, enotready),
   (s.marching 7, ebusy), (t.kindBars first n k, estate)]

/-- KIND. -/
def execSlotmapKind (q : Req) (s : State) : Out :=
  done s (runInsn 0x11 0 q s (fun pid ok s =>
    let first := opf q 1 13 0
    let n := opf q 2 13 0 + 1
    let k := kindOf (opf q 2 17 16)
    checked s (errsSlotmapKind q ok s) (fun _ => Res.ok (s.deferEdge pid [.slotKind first n k]))))

/-- The error table of BIND. -/
def errsBind (q : Req) (out : Bool) (ok : Bool) (s : State) : List (Bool × Nat) :=
  let t := s.settled
  let slot := opf q 1 29 16
  let ch := opf q 1 15 0
  let table := if out then t.deck.outBind else t.deck.inBind
  [(!clsIn q [1, 2], eproto),
   (ok && given q 1 && (!s.owns q.m ownSlots slot || s.chanBarred q.m out ch), eperm),
   (!shape ok q 1 || extra q 1 0x3FFFFFFF || !chanOk s.rateDue ch, erange), (!s.rdTT, enotready),
   ((look table ch).isSome || (!out && table.any (fun e => e.2 == slot)) || s.marching 7, ebusy),
   (t.kind slot != (if out then .out else .inp), estate)]

/-- BINDIN and BINDOUT. -/
def bindAct (q : Req) (out : Bool) (pid : Nat) (ok : Bool) (s : State) : Res :=
  let slot := opf q 1 29 16
  let ch := opf q 1 15 0
  checked s (errsBind q out ok s) (fun _ => Res.ok (s.deferEdge pid [if out then .bindOut slot ch else .bindIn slot ch]))

def execSlotmapBindin (q : Req) (s : State) : Out := done s (runInsn 0x11 1 q s (bindAct q false))
def execSlotmapBindout (q : Req) (s : State) : Out := done s (runInsn 0x11 2 q s (bindAct q true))

/-- The error table of SLOTMAP UNBIND. -/
def errsSlotmapUnbind (q : Req) (ok : Bool) (s : State) : List (Bool × Nat) :=
  let out := bit (opw q 1) 16
  let ch := opf q 1 15 0
  [(!clsIn q [1, 2], eproto), (ok && given q 1 && s.chanBarred q.m out ch, eperm),
   (!shape ok q 1 || extra q 1 0x1FFFF || !chanOk s.rateDue ch, erange), (!s.rdTT, enotready)]

/-- UNBIND: of a channel that is not bound it changes nothing. -/
def execSlotmapUnbind (q : Req) (s : State) : Out :=
  done s (runInsn 0x11 3 q s (fun pid ok s =>
    let t := s.settled
    let out := bit (opw q 1) 16
    let ch := opf q 1 15 0
    let bound := (look (if out then t.deck.outBind else t.deck.inBind) ch).isSome
    checked s (errsSlotmapUnbind q ok s) (fun _ => Res.ok (s.deferEdge pid (if bound then [.unbind out ch] else [])))))

/-! ## TIMETABLE -/

/-- A phase of an operand triple; none where a field is out of range (R47). -/
def phaseOf (cfg arg allow : W32) : Option Phase :=
  let argOk (u : PhUnit) : Bool :=
    match u with
    | .pn => within arg 0x0FFF0FFF && bf arg 11 0 ≤ bf arg 27 16
    | .sc => true
    | _ => arg == 0
  match unitOf (bf cfg 30 28) with
  | none => none
  | some u =>
    if bit cfg 31 && bf cfg 23 0 == 0 && argOk u && ((u == .sc) == (allow != 0)) then
      some { unit := u, barrier := bf cfg 27 24, arg := arg, allow := allow.toNat }
    else none

/-- The phases of operand words; none where one is out of range. -/
def phasesOf : List W32 → Option (List Phase)
  | [] => some []
  | a :: b :: c :: r =>
    match phaseOf a b c, phasesOf r with
    | some p, some l => some (p :: l)
    | _, _ => none
  | _ => none

/-- A list holds more than one phase of a matrix stage (R88). -/
def xmTwice (l : List Phase) : Bool :=
  1 < l.countP (fun p => p.unit == .xm1) || 1 < l.countP (fun p => p.unit == .xm2)

/-- A list breaks R48 or R126: an XM2 phase in GRID mode, a mask with a STANDBY, RETIRED or OFF berth, a range with a clash. -/
def State.listBars (s : State) (l : List Phase) : Bool :=
  (!s.console && l.any (fun p => p.unit == .xm2))
  || l.any (fun p => p.unit == .sc && (bitsOf p.arg 32).any (fun c =>
      let st := s.berthCode c
      st == Berth.standby.code || st == Berth.retired.code || st == Berth.off.code))
  || l.any (rangeClash s.pn.spans)

/-- A timetable waits for its start frame; the one it replaces has its reply (R49). -/
def State.loadTimetable (s : State) (pid start : Nat) (l : List Phase) : State :=
  let old := (s.tt.pend.map (·.pid)).toList
  let t := { s with tt := { s.tt with pend := some { start := start, phases := l, pid := pid } },
                    ctl := { s.ctl with waits := s.ctl.waits.filter (fun w => !(w.2 == Wait.timetable && old.contains w.1)) } }
  (t.addWait pid .timetable).flushDue

/-- The error table of TIMETABLE. -/
def errsTimetable (q : Req) (ok : Bool) (s : State) : List (Bool × Nat) :=
  let t := s.settled
  let n := opf q 3 4 0
  let fit := ok && 3 ≤ q.ops.length && q.ops.length == 3 + 3 * n && n ≤ 16
  let l := phasesOf (q.ops.drop 3)
  let ph := l.getD []
  let start := s.startFrame (opw q 1) (opw q 2)
  [(!clsIn q [1, 2], eproto), (q.m != 0, eperm),
   (!fit || extra q 2 0x0FFFFFFF || extra q 3 0x1F || l.isNone || !barriersRise ph || xmTwice ph || !t.sizes.fits s.rateDue ph
      || !t.sizes.pnFits s.rateDue ph || pnOverlap ph, erange),
   (!s.rdTT, enotready), (start.isNone, etime), (t.listBars ph, estate), (!ph.isEmpty && s.marching 7, ebusy)]

def execTimetable (q : Req) (s : State) : Out :=
  done s (runInsn 0x12 0 q s (fun pid ok s =>
    let l := phasesOf (q.ops.drop 3)
    let ph := l.getD []
    let start := s.startFrame (opw q 1) (opw q 2)
    checked s (errsTimetable q ok s) (fun _ => Res.ok (s.loadTimetable pid (start.getD 0) ph))))

/-! ## XPT and XBLK -/

/-- STAGE (R312). -/
def staged (q : Req) : Bool := bit q.mod 15

/-- A crosspoint as operand word 1 of a pair names it: its stage, source and destination. -/
structure Xp where
  stage2 : Bool
  src : Nat
  dst : Nat

def xpOf (w : W32) : Xp := ⟨bit w 31, bf w 25 16, bf w 8 0⟩
def Xp.key (x : Xp) : Nat := xmKey x.stage2 x.src x.dst

/-- The address of an entry. -/
def entryAddr (key : Nat) : Nat := 0x50000000 + 16 * key

/-- The source and destination of a crosspoint exist in a mode (R71). -/
def State.xpNamed (s : State) (x : Xp) : Bool :=
  if x.stage2 then x.src < 256 && x.dst < 512 else x.src < 1024 && x.dst < (if s.console then 256 else 512)

/-- A mooring does not own a crosspoint that exists. -/
def State.xpBarred (s : State) (m : Fin 8) (x : Xp) : Bool := s.xpNamed x && !s.ownsXpt m x.stage2 x.src x.dst

/-- A crosspoint lies outside the configured dimensions, or names a stage that GRID does not have (R102). -/
def State.xpOut (s : State) (x : Xp) : Bool :=
  (x.stage2 && !s.console) || s.nsrc x.stage2 ≤ x.src || s.ndst x.stage2 ≤ x.dst

/-- A staged write of group g does not apply to an entry (R84). -/
def xmBars (g : Nat) (e : XmEntry) : Bool := (e.pv && e.group.toNat != g) || e.df

/-- One instruction's staged writes name a record twice under different groups: the later would not apply (R84, R119). -/
def regrouped (l : List (Nat × Nat)) : Bool := l.any (fun a => l.any (fun b => a.1 == b.1 && a.2 != b.2))

/-- The pairs of operand words. -/
def pairsOf : List W32 → List (W32 × W32)
  | a :: b :: r => (a, b) :: pairsOf r
  | _ => []

/-- Group, r and gain of operand word 2 of a pair. -/
def xpGroup (w : W32) : Nat := bf w 31 28
def xpRamp (w : W32) : Nat := bf w 27 24

/-- A group field does not fit the STAGE bit (R312). -/
def groupBad (q : Req) (w : W32) : Bool := !staged q && xpGroup w != 0

/-- The error table of XPT SET. -/
def errsXptSet (q : Req) (ok : Bool) (s : State) : List (Bool × Nat) :=
  let t := s.settled
  let n := q.ops.length
  let fit := ok && n % 2 == 0 && 2 ≤ n && n ≤ 254
  let ps := pairsOf q.ops
  let xs := ps.map (fun p => xpOf p.1)
  let named := (pairsOf (q.ops ++ [0])).map (fun p => xpOf p.1)
  [(!clsIn q [0, 1, 2], eproto),
   (bf q.mod 1 0 == 0 && (named.any (t.xpBarred q.m)
      || (staged q && ps.any (fun p => !s.owns q.m ownScenes (xpGroup p.2)))), eperm),
   (!fit || ps.any (fun p => !within p.1 0x83FF01FF || 12 < xpRamp p.2 || groupBad q p.2) || xs.any t.xpOut, erange),
   (!s.rdXM, enotready),
   (staged q && (ps.any (fun p => xmBars (xpGroup p.2) (t.xmEntry (xpOf p.1).key))
      || regrouped (ps.map (fun p => ((xpOf p.1).key, xpGroup p.2)))), estate), (s.marching 3, ebusy)]

/-- XPT SET. -/
def execXptSet (q : Req) (s : State) : Out :=
  done s (runInsn 0x18 0 q s (fun pid ok s =>
    let ps := pairsOf q.ops
    let xs := ps.map (fun p => xpOf p.1)
    checked s (errsXptSet q ok s) (fun _ => reading s (xs.map (fun x => entryAddr x.key)) 16 (fun s =>
        if staged q then Res.ok (ps.foldl (fun u p =>
          let k := (xpOf p.1).key
          u.xmEdit k (fun e => xmStage e (xpGroup p.2) (w24 p.2) (xpRamp p.2))) s)
        else Res.ok (s.deferEdge pid (ps.map (fun p => .xpt (xpOf p.1).key (w24 p.2) (xpRamp p.2))))))))

/-- The error table of XPT READ. -/
def errsXptRead (q : Req) (ok : Bool) (s : State) : List (Bool × Nat) :=
  let t := s.settled
  let fit := ok && 1 ≤ q.ops.length && q.ops.length ≤ 255
  let xs := q.ops.map xpOf
  [(bf q.mod 1 0 == 1 && xs.any (t.xpBarred q.m), eperm),
   (!fit || staged q || q.ops.any (fun w => !within w 0x83FF01FF) || xs.any t.xpOut, erange), (!s.rdXM, enotready)]

/-- XPT READ: the four words of each entry. -/
def execXptRead (q : Req) (s : State) : Out :=
  done s (runInsn 0x18 1 q s (fun _ ok s =>
    let xs := q.ops.map xpOf
    checked s (errsXptRead q ok s) (fun _ => reading s (xs.map (fun x => entryAddr x.key)) 16 (fun s =>
        Res.okP s (xs.flatMap (fun x => xmWords (s.xmEntry x.key)))))))

/-- The block of an XBLK: its first crosspoint and its counts. -/
structure Blk where
  x : Xp
  nsrc : Nat
  ndst : Nat

def blkOf (q : Req) : Blk := ⟨xpOf (opw q 1), opf q 2 25 16 + 1, opf q 2 8 0 + 1⟩

/-- The crosspoints of a block. -/
def Blk.all (b : Blk) : List Xp :=
  (List.range (b.nsrc * b.ndst)).map (fun i => ⟨b.x.stage2, b.x.src + i % b.nsrc, b.x.dst + i / b.nsrc⟩)

/-- A crosspoint by its key lies in a block. -/
def Blk.has (b : Blk) (console : Bool) (key : Nat) : Bool :=
  let c := xmCoord console key
  c.1 == b.x.stage2 && b.x.src ≤ c.2.1 && c.2.1 < b.x.src + b.nsrc && b.x.dst ≤ c.2.2 && c.2.2 < b.x.dst + b.ndst

/-- The error table of XBLK. -/
def errsXblk (q : Req) (ok : Bool) (s : State) : List (Bool × Nat) :=
  let t := s.settled
  let n := q.ops.length
  let fill := bit q.mod 0
  let b := blkOf q
  let far : Xp := ⟨b.x.stage2, b.x.src + b.nsrc - 1, b.x.dst + b.ndst - 1⟩
  let fit := ok && (if fill then n == 4 else 4 ≤ n && n == 3 + b.nsrc * b.ndst && n ≤ 255)
  let w3 := opw q 3
  let g := xpGroup w3
  let gains := q.ops.drop 3
  let hit := t.xm.entries.filter (fun e => b.has t.console e.1)
  [(!clsIn q [1, 2], eproto),
   (given q 1 && (b.all.any (t.xpBarred q.m) || (staged q && given q 3 && !s.owns q.m ownScenes g)), eperm),
   (!fit || extra q 1 0x83FF01FF || extra q 2 0x03FF01FF || extra q 3 0xFF000000
      || gains.any (fun w => !within w 0x00FFFFFF) || 12 < xpRamp w3 || groupBad q w3 || t.xpOut far, erange),
   (!s.rdXM, enotready), (staged q && hit.any (fun e => xmBars g e.2), estate), (s.marching 3, ebusy)]

/-- XBLK. -/
def execXblk (q : Req) (s : State) : Out :=
  done s (runInsn 0x19 0 q s (fun pid ok s =>
    let t := s.settled
    let b := blkOf q
    let w3 := opw q 3
    let g := xpGroup w3
    let gains := q.ops.drop 3
    let bad := (s.marks.map (fun e => (e.1 - 0x50000000) / 16)).filter (fun k => b.has t.console k)
    checked s (errsXblk q ok s) (fun _ => reading s (bad.map entryAddr) 16 (fun s =>
        let gs := gains.map w24
        if staged q then
          Res.ok (s.xmBlock b.x.stage2 b.x.src b.x.dst b.nsrc b.ndst gs (fun e v => xmStage e g v (xpRamp w3)))
        else Res.ok (s.deferEdge pid [.xblk b.x.stage2 b.x.src b.x.dst b.nsrc b.ndst (xpRamp w3) gs])))))

/-! ## XMODE -/

/-- Dimensions break R71 at a rate. -/
def dimsBad (r : Nat) (w : W32) : Bool :=
  let nin := bf w 30 20
  let nbus := bf w 19 11
  let nout := bf w 10 1
  nin % 16 != 0 || nbus % 16 != 0 || nout % 16 != 0 || capChan r < nin || capOut r < nout
  || (if bit w 31 then capBus r < nbus else nbus != 0)

/-- The error table of XMODE MODE. -/
def errsXmodeMode (q : Req) (ok : Bool) (s : State) : List (Bool × Nat) :=
  let t := s.settled
  let cfg := opw q 1
  let z := { t.sizes with cfg := cfg }
  [(!clsIn q [1, 2], eproto), (ok && q.m != 0, eperm),
   (!shape ok q 1 || extra q 1 0xFFFFFFFE || dimsBad s.rateDue cfg || t.lists.any (fun l => !z.fits s.rateDue l), erange),
   (!s.rdXM, enotready),
   (!bit cfg 31 && t.lists.any (fun l => l.any (fun p => p.unit == .xm2)), estate), (s.marching 3, ebusy)]

/-- XMODE MODE. -/
def execXmodeMode (q : Req) (s : State) : Out :=
  done s (runInsn 0x1A 0 q s (fun pid ok s =>
    let cfg := opw q 1
    checked s (errsXmodeMode q ok s) (fun _ => Res.ok (s.deferEdge pid [.xmode cfg]))))

/-- A slot is WORK or OUT. -/
def State.workOut (s : State) (slot : Nat) : Bool := s.kind slot == .work || s.kind slot == .out

/-- The error table of XMODE INSLOT. -/
def errsXmodeInslot (q : Req) (ok : Bool) (s : State) : List (Bool × Nat) :=
  let t := s.settled
  let n := opf q 1 9 0
  let w := opw q 2
  let slot := bf w 13 0
  let valid := bit w 31
  [(!clsIn q [1, 2], eproto),
   (ok && given q 1 && (!s.owns q.m ownXmIn n || (valid && !s.owns q.m ownSlots slot)), eperm),
   (!shape ok q 2 || extra q 1 0x3FF || extra q 2 0xC0003FFF, erange), (!s.rdXM, enotready),
   (valid && (t.kind slot == .free || (bit w 30 && t.kind slot == .inp)), estate)]

/-- XMODE INSLOT. -/
def execXmodeInslot (q : Req) (s : State) : Out :=
  done s (runInsn 0x1A 1 q s (fun pid ok s =>
    let n := opf q 1 9 0
    let w := opw q 2
    checked s (errsXmodeInslot q ok s) (fun _ => Res.ok (s.deferEdge pid [.xin n w]))))

/-- A matrix destination other than one is bound to a slot (R90); outputs follow the buses. -/
def State.destBound (s : State) (slot not : Nat) : Bool :=
  (List.range 256).any (fun n => n != not && s.on (F.XM_BUSn_OVALID n) && s.fld (F.XM_BUSn_OSLOT n) == slot)
  || (List.range 512).any (fun n => 256 + n != not && s.on (F.XM_OUTn_VALID n) && s.fld (F.XM_OUTn_SLOT n) == slot)

/-- The error table of XMODE BUSSLOT. -/
def errsXmodeBusslot (q : Req) (ok : Bool) (s : State) : List (Bool × Nat) :=
  let t := s.settled
  let n := opf q 1 7 0
  let w := opw q 2
  let o := bf w 13 0
  let i := bf w 27 14
  [(!clsIn q [1, 2], eproto),
   (ok && given q 1 && (!s.owns q.m ownBuses n || (bit w 31 && !s.owns q.m ownSlots o)
      || (bit w 30 && !s.owns q.m ownSlots i)), eperm),
   (!shape ok q 2 || extra q 1 0xFF || extra q 2 0xEFFFFFFF, erange), (!s.rdXM, enotready),
   ((bit w 31 && t.kind o != .work) || (bit w 30 && t.kind i != .work), estate),
   (bit w 31 && t.destBound o n, ebusy)]

/-- XMODE BUSSLOT. -/
def execXmodeBusslot (q : Req) (s : State) : Out :=
  done s (runInsn 0x1A 2 q s (fun pid ok s =>
    let n := opf q 1 7 0
    let w := opw q 2
    checked s (errsXmodeBusslot q ok s) (fun _ => Res.ok (s.deferEdge pid [.xbus n w]))))

/-- The error table of XMODE OUTSLOT. -/
def errsXmodeOutslot (q : Req) (ok : Bool) (s : State) : List (Bool × Nat) :=
  let t := s.settled
  let n := opf q 1 8 0
  let w := opw q 2
  let slot := bf w 13 0
  [(!clsIn q [1, 2], eproto),
   (ok && given q 1 && (!s.owns q.m ownXmOut n || (bit w 31 && !s.owns q.m ownSlots slot)), eperm),
   (!shape ok q 2 || extra q 1 0x1FF || extra q 2 0x80003FFF, erange), (!s.rdXM, enotready),
   (bit w 31 && !t.workOut slot, estate), (bit w 31 && t.destBound slot (256 + n), ebusy)]

/-- XMODE OUTSLOT. -/
def execXmodeOutslot (q : Req) (s : State) : Out :=
  done s (runInsn 0x1A 3 q s (fun pid ok s =>
    let n := opf q 1 8 0
    let w := opw q 2
    checked s (errsXmodeOutslot q ok s) (fun _ => Res.ok (s.deferEdge pid [.xout n w]))))

/-! ## SOS and SOSRD -/

/-- A group of seven operand words: section, group, g and the biquad. -/
structure SosOp where
  w1 : W32
  w2 : W32
  bq : Biquad

def SosOp.sec (o : SosOp) : Nat := bf o.w1 14 0
def SosOp.grp (o : SosOp) : Nat := bf o.w2 31 28
def SosOp.g (o : SosOp) : Nat := bf o.w2 27 24

def sosOps : List W32 → List SosOp
  | a :: b :: b0 :: b1 :: b2 :: a1 :: a2 :: r => ⟨a, b, ⟨b0, b1, b2, a1, a2⟩⟩ :: sosOps r
  | _ => []

/-- The position of the first biquad that fails R110. -/
def firstUnstable (l : List SosOp) : Option Nat :=
  (l.zip (List.range l.length)).findSome? (fun e => if biquadStable e.1.bq then none else some e.2)

/-- The waiting direct and glide writes of a section have been followed by a staged one (R131). -/
def Eff.followed (sec : Nat) : Eff → Eff
  | .sos n glide clr g bq later => .sos n glide clr g bq (later || n == sec)
  | e => e

/-- A staged write of a biquad (R119, R131). -/
def State.sosStage (s : State) (o : SosOp) : State :=
  let l := lattice o.bq
  let s := { s with ctl := { s.ctl with deferred := s.ctl.deferred.map (fun (e : Nat × Eff) => (e.1, e.2.followed o.sec)) } }
  s.editSection o.sec (fun r => { secStage r o.grp l.1 l.2 o.g with bq := o.bq, kind := 3 })

/-- The bad records among those that an SOS names are to be rewritten at the next edge (R134). -/
def State.sosFault (s : State) (pid : Nat) (bad : List Nat) : State :=
  bad.foldl (fun t n => (t.ueRecord ((t.badIn (sectionAddr n) 128).getD 0)).defer pid (.heal n)) s

/-- The conditions of SOS that come after the stability of its biquads. -/
def errsSosState (q : Req) (s : State) : List (Bool × Nat) :=
  let t := s.settled
  let ops := sosOps q.ops
  [(staged q && (ops.any (fun o => let r := t.section_ o.sec; r.pv && r.group.toNat != o.grp)
      || regrouped (ops.map (fun o => (o.sec, o.grp)))), estate),
   (s.marching 4, ebusy)]

/-- What SOS does in a state without an uncorrectable error in the records it names. -/
def State.sosDo (s : State) (q : Req) (glide : Bool) (pid : Nat) : State :=
  let ops := sosOps q.ops
  if staged q then ops.foldl State.sosStage s
  else
    let t := ops.foldl (fun t o => t.sosKeep o.sec glide o.bq) s
    t.deferEdge pid (ops.map (fun o => .sos o.sec glide (bit q.mod 2) o.g o.bq false))

/-- SOS once its operands are in range: stability, then the state of the sections, then their records. -/
def sosAct (q : Req) (glide : Bool) (pid : Nat) (s : State) : Res :=
  let ops := sosOps q.ops
  match firstUnstable ops with
  | some i => ⟨eunstable, [BitVec.ofNat 32 i], s⟩
  | none =>
    checked s (errsSosState q s) (fun _ =>
      let s1 := ops.foldl (fun u o => u.fixSingles (sectionAddr o.sec) 128) s
      let bad := uniq ((ops.map SosOp.sec).filter (fun n => s1.bad (sectionAddr n) 128))
      if !bad.isEmpty then ⟨efault, [], s1.sosFault pid bad⟩ else Res.ok (s1.sosDo q glide pid))

/-- The error table of SOS. -/
def errsSos (q : Req) (glide : Bool) (ok : Bool) (s : State) : List (Bool × Nat) :=
  let n := q.ops.length
  let fit := ok && n % 7 == 0 && 7 ≤ n && n ≤ 252
  let ops := sosOps q.ops
  let bad (o : SosOp) : Bool :=
    !within o.w1 0x7FFF || !within o.w2 0xFF000000 || (!staged q && o.grp != 0) || (!glide && o.g != 0)
  [(!clsIn q [1, 2], eproto),
   ((sosOps (q.ops ++ List.replicate 6 0)).any (fun o => !s.owns q.m ownSections o.sec)
      || (staged q && (sosOps (q.ops ++ List.replicate 5 0)).any (fun o => !s.owns q.m ownScenes o.grp)), eperm),
   (!fit || ops.any bad || (if glide then bit q.mod 2 else staged q), erange), (!s.rdPN, enotready)]

/-- DIRECT and GLIDE. -/
def sosBody (q : Req) (glide : Bool) (pid : Nat) (ok : Bool) (s : State) : Res :=
  checked s (errsSos q glide ok s) (fun _ => sosAct q glide pid s)

def execSosDirect (q : Req) (s : State) : Out := done s (runInsn 0x20 0 q s (sosBody q false))
def execSosGlide (q : Req) (s : State) : Out := done s (runInsn 0x20 1 q s (sosBody q true))

/-- The words that a SOSRD modifier selects of a record. -/
def sosWords (mod : Nat) (r : Section) : List W32 :=
  let l := sectionWords r
  match mod with
  | 0 => l.take 25
  | 1 => (l.drop 25).take 6
  | _ => (l.drop 20).take 4

/-- The error table of SOSRD. -/
def errsSosrd (q : Req) (ok : Bool) (s : State) : List (Bool × Nat) :=
  let first := opf q 1 14 0
  let n := opf q 1 18 16 + 1
  let ns := rangeFrom first n
  [(!clsIn q [1, 2, 3], eproto),
   (given q 1 && ns.any (fun i => i < 32768 && !s.owns q.m ownSections i), eperm),
   (!shape ok q 1 || extra q 1 0x77FFF || 32768 < first + n, erange), (!s.rdPN, enotready)]

def execSosrd (q : Req) (s : State) : Out :=
  done s (runInsn 0x22 0 q s (fun _ ok s =>
    let first := opf q 1 14 0
    let n := opf q 1 18 16 + 1
    let ns := rangeFrom first n
    checked s (errsSosrd q ok s) (fun _ => reading s (ns.map sectionAddr) 128 (fun s =>
        Res.okP s (ns.flatMap (fun i => sosWords q.mod.toNat (s.section_ i)))))))

/-! ## SPAN -/

/-- Valid spans under which R47 or R125, or R126, fails for a timetable. -/
def State.spansRange (s : State) (spans : SMap Span) : Bool :=
  let z := { s.sizes with spans := spans }
  s.lists.any (fun l => !z.fits s.rateDue l || !z.pnFits s.rateDue l)
def State.spansClash (s : State) (spans : SMap Span) : Bool := s.lists.any (fun l => l.any (rangeClash spans))

/-- The span that operands 2 and 3 describe. -/
def spanOf (q : Req) : Span :=
  { first := opf q 2 14 0, count := opf q 2 20 16 + 1, ilag := bit (opw q 3) 31, oslot := opf q 3 29 16, islot := opf q 3 13 0 }

/-- Slots of a kind that R107 does not permit. -/
def State.spanKinds (s : State) (d : Span) : Bool :=
  s.kind d.islot == .free || !s.workOut d.oslot || d.islot == d.oslot || (d.ilag && s.kind d.islot == .inp)

/-- A span meets another valid span: a section or the OSLOT. -/
def State.spanTaken (s : State) (n : Nat) (d : Span) : Bool :=
  s.pn.spans.any (fun e => e.1 != n
    && ((e.2.first < d.first + d.count && d.first < e.2.first + e.2.count) || e.2.oslot == d.oslot))

/-- The error table of SPAN DEFINE. -/
def errsSpanDefine (q : Req) (ok : Bool) (s : State) : List (Bool × Nat) :=
  let t := s.settled
  let n := opf q 1 11 0
  let d := spanOf q
  let spans := ins t.pn.spans n d
  [(!clsIn q [1, 2], eproto),
   (given q 1 && (!s.owns q.m ownSpans n
      || (ok && given q 2 && (rangeFrom d.first d.count).any (fun i => i < 32768 && !s.owns q.m ownSections i))
      || (ok && given q 3 && (!s.owns q.m ownSlots d.islot || !s.owns q.m ownSlots d.oslot))), eperm),
   (!shape ok q 3 || extra q 1 0xFFF || extra q 2 0x801F7FFF || extra q 3 0xBFFF3FFF || 32768 < d.first + d.count
      || t.spansRange spans, erange),
   (!s.rdPN, enotready), (t.spanKinds d || t.spansClash spans, estate), (t.spanTaken n d || s.marching 4 || s.marching 5, ebusy)]

def execSpanDefine (q : Req) (s : State) : Out :=
  done s (runInsn 0x21 0 q s (fun pid ok s =>
    let n := opf q 1 11 0
    let d := spanOf q
    checked s (errsSpanDefine q ok s) (fun _ => Res.ok (s.deferEdge pid [.span n (some d)]))))

/-- The error table of SPAN DELETE. -/
def errsSpanDelete (q : Req) (ok : Bool) (s : State) : List (Bool × Nat) :=
  let t := s.settled
  let n := opf q 1 11 0
  let spans := del t.pn.spans n
  let valid := (look t.pn.spans n).isSome
  [(!clsIn q [1, 2], eproto), (given q 1 && !s.owns q.m ownSpans n, eperm),
   (!shape ok q 1 || extra q 1 0xFFF || (valid && t.spansRange spans), erange), (!s.rdPN, enotready),
   (valid && t.spansClash spans, estate), (s.marching 5, ebusy)]

/-- DELETE: of a span that is not valid it changes nothing. -/
def execSpanDelete (q : Req) (s : State) : Out :=
  done s (runInsn 0x21 1 q s (fun pid ok s =>
    let t := s.settled
    let n := opf q 1 11 0
    let valid := (look t.pn.spans n).isSome
    checked s (errsSpanDelete q ok s) (fun _ => Res.ok (s.deferEdge pid (if valid then [.span n none] else [])))))

/-! ## TURN and DROP -/

/-- The error table of TURN. -/
def errsTurn (q : Req) (fit : Bool) (t : Nat) (s : State) : List (Bool × Nat) :=
  let g := opf q 1 3 0
  let f := s.tt.frame
  [(!clsIn q [0, 1, 2], eproto), (given q 1 && !s.owns q.m ownScenes g, eperm), (!fit || extra q 1 0xF, erange),
   (!s.rdTT, enotready), (t % 16 != 0 || t / 16 < f + 2 || f + 2 ^ 20 < t / 16, etime),
   ((s.settled.scene g).armed.isSome, ebusy)]

/-- TURN of a group at a sample (R148, R149); its payload is T. -/
def turnAct (q : Req) (fit : Bool) (t : Nat) (s : State) : Res :=
  let g := opf q 1 3 0
  checked s (errsTurn q fit t s) (fun _ => Res.okP (s.arm g { t := t, issuer := q.m }) (indexWords t))

def execTurnAt (q : Req) (s : State) : Out :=
  done s (runInsn 0x29 0 q s (fun _ ok s =>
    turnAct q (shape ok q 3) ((opw q 2).toNat + (opw q 3).toNat * 2 ^ 32) s))

def execTurnNext (q : Req) (s : State) : Out :=
  done s (runInsn 0x29 1 q s (fun _ ok s => turnAct q (shape ok q 1) (16 * (s.tt.frame + 2)) s))

/-- The error table of DROP. -/
def errsDrop (q : Req) (ok : Bool) (s : State) : List (Bool × Nat) :=
  let g := opf q 1 3 0
  [(!clsIn q [1, 2], eproto), (given q 1 && !s.owns q.m ownScenes g, eperm),
   (!shape ok q 1 || extra q 1 0xF, erange), (!s.rdTT, enotready)]

/-- DROP; its payload says whether it cancels an armed TURN. -/
def execDrop (q : Req) (s : State) : Out :=
  done s (runInsn 0x2A 0 q s (fun pid ok s =>
    let g := opf q 1 3 0
    let hit := (s.settled.scene g).armed
    checked s (errsDrop q ok s) (fun _ => Res.okP (s.deferEdge pid [.drop g hit]) [flag hit.isSome 0])))

end Sys2Proof.Machine
end

