-- ==== Sys2Proof/Machine/CmdNet.lean ====
section
/-! DEFINITION. Machine/CmdNet.lean: STREAM, SCTL, ZONE, NTAP, TIME, PTPCFG, REFSEL, REALIGN and ALARM (R336 to R343, R347,
R363 to R403, R459 to R469). -/

namespace Sys2Proof.Machine

/-! ## STREAM (R336, R370 to R373) -/

/-- The context that an operand record describes. -/
def defCtx (q : Req) : Ctx := newCtx (q.ops.drop 1)

/-- A mooring does not own a network channel that a record names. -/
def State.ctxBarred (s : State) (m : Fin 8) (c : Ctx) : Bool :=
  c.chans.any (fun i => i < 1024 && !s.ownsChan m c.tx (8192 + i))

/-- A context runs, with every completed instruction counted (R316). -/
def State.ctxRuns (s : State) (n : Nat) : Bool := (s.ctx n).any Ctx.runs

/-- A context is defined, with every completed instruction counted. -/
def State.ctxDefined (s : State) (n : Nat) : Bool := (s.ctx n).any (fun c => c.settled.isSome)

/-- What is asked of a context while its STOP is under way (log 129). -/
def Ctx.then_ (c : Ctx) (f : CtxNext → CtxNext) : Ctx :=
  { c with follow := some (f (c.follow.getD { record := some c.record, start := none })) }

/-- DEFINE takes effect: at once, or after the STOP that is under way. UNDERRUN and LOST stay until a STATUS reads them (R337). -/
def State.defineCtx (s : State) (n : Nat) (r : List W32) : State :=
  match s.ctx n with
  | some c =>
    s.setCtx n (if c.run then c.then_ (fun _ => { record := some r, start := none })
      else { newCtx r with under := c.under, lost := c.lost })
  | none => s.setCtx n (newCtx r)

/-- DELETE takes effect: at once, or after the STOP that is under way. -/
def State.deleteCtx (s : State) (n : Nat) : State :=
  match s.ctx n with
  | some c =>
    if c.run then s.setCtx n (c.then_ (fun _ => { record := none, start := none }))
    else { s with net := { s.net with ctxs := del s.net.ctxs n } }
  | none => s

/-- The error table of STREAM DEFINE. -/
def errsStreamDefine (q : Req) (ok : Bool) (s : State) : List (Bool × Nat) :=
  let n := opf q 1 8 0
  let c := defCtx q
  [(!clsIn q [1, 2], eproto), (ok && given q 1 && (!s.owns q.m ownStreams n || given q 3 && s.ctxBarred q.m c), eperm),
   (!shape ok q 9 || extra q 1 0x1FF || recordRange s.rateDue c, erange), (!s.rdSTRM, enotready),
   (s.ctxRuns n || s.recordClash n c, estate), (s.marching 6, ebusy)]

def execStreamDefine (q : Req) (s : State) : Out :=
  done s (runInsn 0x40 0 q s (fun _ ok s =>
    let n := opf q 1 8 0
    checked s (errsStreamDefine q ok s) (fun _ => Res.ok (s.defineCtx n (q.ops.drop 1)))))

/-- The error table of STREAM DELETE. -/
def errsStreamDelete (q : Req) (ok : Bool) (s : State) : List (Bool × Nat) :=
  let n := opf q 1 8 0
  [(!clsIn q [1, 2], eproto), (ok && given q 1 && !s.owns q.m ownStreams n, eperm),
   (!shape ok q 1 || extra q 1 0x1FF, erange), (!s.rdSTRM, enotready), (s.ctxRuns n, estate)]

def execStreamDelete (q : Req) (s : State) : Out :=
  done s (runInsn 0x40 1 q s (fun _ ok s =>
    let n := opf q 1 8 0
    checked s (errsStreamDelete q ok s) (fun _ => Res.ok (s.deleteCtx n))))

/-- The error table of STREAM READ. -/
def errsStreamRead (q : Req) (ok : Bool) (s : State) : List (Bool × Nat) :=
  let n := opf q 1 8 0
  [(!clsIn q [1, 2, 3], eproto), (ok && given q 1 && !s.owns q.m ownStreams n, eperm),
   (!shape ok q 1 || extra q 1 0x1FF, erange), (!s.rdSTRM, enotready)]

/-- READ: the words of a context that is not defined are free (log 7). -/
def execStreamRead (q : Req) (s : State) : Out :=
  done s (runInsn 0x40 2 q s (fun _ ok s =>
    let n := opf q 1 8 0
    checked s (errsStreamRead q ok s) (fun _ => match (s.ctx n).bind Ctx.settled with
        | some c => Res.okP s c.record
        | none => Res.okP { s with free := s.free + 8 } ((rangeFrom s.free 8).map Config.freeWord))))

/-! ## SCTL (R337, R369, R383) -/

/-- A START: at once, or after the STOP that is under way (log 129). -/
def State.startAsk (s : State) (n k : Nat) : State :=
  match s.ctx n with
  | some c => if c.run then s.setCtx n (c.then_ (fun f => { f with start := some k })) else s.startCtx n k
  | none => s

/-- The error table of SCTL START. -/
def errsSctlStart (q : Req) (ok : Bool) (s : State) : List (Bool × Nat) :=
  let n := opf q 1 8 0
  let start := s.startFrame (opw q 2) (opw q 3)
  [(!clsIn q [0, 1, 2], eproto), (ok && given q 1 && !s.owns q.m ownStreams n, eperm),
   (!shape ok q 3 || extra q 1 0x1FF || extra q 3 0x0FFFFFFF, erange), (!s.rdSTRM, enotready), (start.isNone, etime),
   (!s.ctxDefined n || s.ctxRuns n, estate)]

def execSctlStart (q : Req) (s : State) : Out :=
  done s (runInsn 0x41 0 q s (fun pid ok s =>
    let n := opf q 1 8 0
    let start := s.startFrame (opw q 2) (opw q 3)
    let k := start.getD 0
    checked s (errsSctlStart q ok s) (fun _ => Res.okP ((s.startAsk n k).addWait pid (.frame k)) (frameWords k))))

/-- A context is to stop at the next stage edge; where a START waits for a STOP under way, that START goes. -/
def State.stopCtx (s : State) (n : Nat) (cut : Bool) : State :=
  match s.ctx n with
  | some c =>
    s.setCtx n (if c.stopReq.isSome || c.stop.isSome then c.then_ (fun f => { f with start := none })
      else { c with stopReq := some cut })
  | none => s

/-- The error table of SCTL STOP. -/
def errsSctlStop (q : Req) (ok : Bool) (s : State) : List (Bool × Nat) :=
  let n := opf q 1 8 0
  [(!clsIn q [0, 1, 2], eproto), (ok && given q 1 && !s.owns q.m ownStreams n, eperm),
   (!shape ok q 1 || extra q 1 0x101FF, erange), (!s.rdSTRM, enotready), (!s.ctxRuns n, estate)]

def execSctlStop (q : Req) (s : State) : Out :=
  done s (runInsn 0x41 1 q s (fun pid ok s =>
    let n := opf q 1 8 0
    checked s (errsSctlStop q ok s) (fun _ => Res.ok ((s.stopCtx n (bit (opw q 1) 16)).addWait pid .edge))))

/-- A path delivered or sent a packet in the last frame. -/
def State.pathFrame (s : State) (c : Ctx) (b : Bool) : Bool :=
  if c.tx then s.pathLive c b
  else (if b then c.pathB else c.pathA).any (fun p => s.msi ≤ p + 16)

/-- The SCTL status word. -/
def State.sctlWord (s : State) (n : Nat) : W32 :=
  match s.ctx n with
  | none => 0
  | some c =>
    flag c.run 31 ||| flag (s.ctxHold c) 30 ||| flag (c.run && s.pathFrame c false) 29 ||| flag (c.run && s.pathFrame c true) 28
      ||| flag c.under 27 ||| at32 c.lost 0

/-- What STATUS clears. -/
def State.sctlClear (s : State) (n : Nat) : State :=
  match s.ctx n with
  | some c => s.setCtx n { c with under := false, lost := 0 }
  | none => s

/-- The error table of SCTL STATUS. -/
def errsSctlStatus (q : Req) (ok : Bool) (s : State) : List (Bool × Nat) :=
  let ns := rangeFrom (opf q 1 8 0) (opf q 1 24 16 + 1)
  [(!clsIn q [1, 2, 3], eproto), (ok && given q 1 && ns.any (fun n => n < 512 && !s.owns q.m ownStreams n), eperm),
   (!shape ok q 1 || extra q 1 0x1FF01FF || ns.any (512 ≤ ·), erange), (!s.rdSTRM, enotready)]

def execSctlStatus (q : Req) (s : State) : Out :=
  done s (runInsn 0x41 2 q s (fun _ ok s =>
    let ns := rangeFrom (opf q 1 8 0) (opf q 1 24 16 + 1)
    checked s (errsSctlStatus q ok s) (fun _ => Res.okP (ns.foldl State.sctlClear s) (ns.map s.sctlWord))))

/-! ## ZONE (R338, R386, R387) -/

/-- Another valid entry holds a transmit channel. -/
def State.chanZoned (s : State) (n chan : Nat) : Bool := s.net.zones.any (fun e => e.1 != n && e.2.valid && e.2.chan == chan)

/-- The error table of ZONE BIND. -/
def errsZoneBind (q : Req) (ok : Bool) (s : State) : List (Bool × Nat) :=
  let n := opf q 1 12 0
  let ch := opf q 2 15 0
  [(!clsIn q [1, 2], eproto), (q.m != 0, eperm),
   (!shape ok q 2 || extra q 1 0x1FFF || ch / 4096 != 2 || capNet s.rateDue ≤ ch % 4096, erange), (!s.rdZONE, enotready),
   ((s.settled.zone n).alarm || s.chanZoned n ch, estate)]

def execZoneBind (q : Req) (s : State) : Out :=
  done s (runInsn 0x42 0 q s (fun _ ok s =>
    let n := opf q 1 12 0
    let ch := opf q 2 15 0
    checked s (errsZoneBind q ok s) (fun _ => Res.ok (s.zoneBindTo n (bit (opw q 2) 31) (opf q 2 29 27) ch))))

/-- A valid entry of a range belongs to neither the mooring nor, with M0, everyone. -/
def State.zonesBarred (s : State) (m : Fin 8) (first last : Nat) : Bool :=
  m != 0 && s.net.zones.any (fun e => first ≤ e.1 && e.1 ≤ last && e.2.valid && e.2.owner != m.val)

/-- The error tables of CLAIM, with n operands, and of RELEASE. -/
def errsClaim (q : Req) (n : Nat) (fit : Bool) (ok : Bool) (s : State) : List (Bool × Nat) :=
  let first := opf q 1 12 0
  let last := opf q 2 12 0
  [(!clsIn q [0, 1, 2], eproto), (ok && given q 2 && s.zonesBarred q.m first last, eperm),
   (!shape ok q n || extra q 1 0x1FFF || extra q 2 0x1FFF || last < first || !fit, erange), (!s.rdZONE, enotready)]

def errsZoneClaim (q : Req) (ok : Bool) (s : State) : List (Bool × Nat) :=
  let p := opf q 3 7 0
  errsClaim q 3 (!extra q 3 0xFF && p != 0 && p != 255) ok s

def errsZoneRelease (q : Req) (ok : Bool) (s : State) : List (Bool × Nat) := errsClaim q 2 true ok s

def execZoneClaim (q : Req) (s : State) : Out :=
  done s (runInsn 0x42 1 q s (fun pid ok s =>
    checked s (errsZoneClaim q ok s) (fun _ =>
      Res.ok (s.deferEdge pid [.claim q.m (opf q 1 12 0) (opf q 2 12 0) (opf q 3 7 0)]))))

def execZoneRelease (q : Req) (s : State) : Out :=
  done s (runInsn 0x42 2 q s (fun pid ok s =>
    checked s (errsZoneRelease q ok s) (fun _ => Res.ok (s.deferEdge pid [.release q.m (opf q 1 12 0) (opf q 2 12 0)]))))

/-- The error table of ZONE READ. -/
def errsZoneRead (q : Req) (ok : Bool) (s : State) : List (Bool × Nat) :=
  let first := opf q 1 12 0
  let n := opf q 2 7 0 + 1
  [(!clsIn q [1, 2, 3], eproto), (!shape ok q 2 || extra q 1 0x1FFF || extra q 2 0xFF || 8192 < first + n, erange),
   (!s.rdZONE, enotready)]

def execZoneRead (q : Req) (s : State) : Out :=
  done s (runInsn 0x42 3 q s (fun _ ok s =>
    let first := opf q 1 12 0
    let n := opf q 2 7 0 + 1
    checked s (errsZoneRead q ok s) (fun _ => Res.okP s ((rangeFrom first n).map (fun i => (s.zone i).word)))))

/-! ## NTAP (R339, R402) -/

/-- The ready bit of a network port. -/
def netReady (b : Bool) : Fld := if b then F.SYS_READY_NETB else F.SYS_READY_NETA

/-- The error table of NTAP SEND. -/
def errsNtapSend (q : Req) (ok : Bool) (s : State) : List (Bool × Nat) :=
  let b := bit (opw q 1) 0
  let len := opf q 1 27 16
  [(!clsIn q [1, 2, 3], eproto), (q.m != 0, eperm),
   (!shape ok q (1 + ceilDiv len 4) || extra q 1 0x0FFF0001 || len < 60 || 1518 < len, erange),
   (!s.unit (netReady b) (1, if b then 9 else 8), enotready)]

def execNtapSend (q : Req) (s : State) : Out :=
  done s (runInsn 0x44 0 q s (fun _ ok s =>
    let b := bit (opw q 1) 0
    let len := opf q 1 27 16
    checked s (errsNtapSend q ok s) (fun _ => Res.ok (s.sentLast b (.tap ((bytesLE (q.ops.drop 1)).take len))))))

/-- Bytes as words, the last one filled with zeros. -/
def padWords (l : List Byte) : List W32 := wordsLE (l ++ List.replicate ((4 - l.length % 4) % 4) 0)

/-- The payload of RECV. -/
def Net.tapWords (n : Net) : List W32 :=
  match n.tapQ with
  | [] => [0]
  | (b, f) :: r => (flag (!r.isEmpty) 31 ||| at32 f.length 16 ||| at32 n.tapDrop 8 ||| flag b 0) :: padWords f

/-- The error table of NTAP RECV. -/
def errsNtapRecv (q : Req) (ok : Bool) : List (Bool × Nat) :=
  [(!clsIn q [1, 2, 3], eproto), (q.m != 0, eperm), (!shape ok q 0, erange)]

def execNtapRecv (q : Req) (s : State) : Out :=
  done s (runInsn 0x44 1 q s (fun _ ok s =>
    checked s (errsNtapRecv q ok) (fun _ =>
      Res.okP { s with net := { s.net with tapQ := s.net.tapQ.tail, tapDrop := 0 } } s.net.tapWords)))

/-- The error table of NTAP FILTER. -/
def errsNtapFilter (q : Req) (ok : Bool) : List (Bool × Nat) :=
  [(!clsIn q [1, 2, 3], eproto), (q.m != 0, eperm),
   (!shape ok q 2 || extra q 1 0xF || extra q 2 0x8003FFFF || opf q 2 17 16 == 3, erange)]

def execNtapFilter (q : Req) (s : State) : Out :=
  done s (runInsn 0x44 2 q s (fun _ ok s =>
    checked s (errsNtapFilter q ok) (fun _ =>
      Res.ok { s with net := { s.net with filters := ins s.net.filters (opf q 1 3 0) (opw q 2) } })))

/-! ## TIME and PTPCFG (R340, R341, R394, R396) -/

/-- The time unit is ready. -/
def State.rdTIME (s : State) : Bool := s.on F.SYS_READY_TIME

/-- The payload of GET. -/
def State.timeWords (s : State) : List W32 :=
  indexWords s.seconds ++ [lo32 s.nanos, at32 s.frac 16] ++ indexWords (msiOf s.rate s.time.t48) ++ [at32 (s.fld F.TIME_STAT_SERVO) 0]

/-- The error table of TIME GET. -/
def errsTimeGet (q : Req) (ok : Bool) (s : State) : List (Bool × Nat) :=
  [(!shape ok q 0, erange), (!s.rdTIME, enotready)]

def execTimeGet (q : Req) (s : State) : Out :=
  done s (runInsn 0x48 0 q s (fun _ ok s =>
    checked s (errsTimeGet q ok s) (fun _ => Res.okP s s.timeWords)))

/-- Profile 4 is in force. -/
def State.servoOff (s : State) : Bool := s.fld F.TIME_CFG_PROFILE == 4

/-- The error table of TIME STEP. -/
def errsTimeStep (q : Req) (ok : Bool) (s : State) : List (Bool × Nat) :=
  [(!clsIn q [1, 2], eproto), (q.m != 0, eperm),
   (!shape ok q 4 || 999999999 < (opw q 3).toNat || extra q 4 0xFFFF0000, erange), (!s.rdTIME, enotready),
   (!s.servoOff, estate)]

def execTimeStep (q : Req) (s : State) : Out :=
  done s (runInsn 0x48 1 q s (fun _ ok s =>
    checked s (errsTimeStep q ok s) (fun _ =>
      Res.ok (s.stepTime ((opw q 1).toNat + (opw q 2).toNat * 2 ^ 32) (opw q 3).toNat (opf q 4 31 16)))))

/-- The error table of TIME FREQ. -/
def errsTimeFreq (q : Req) (ok : Bool) (s : State) : List (Bool × Nat) :=
  [(!clsIn q [1, 2], eproto), (q.m != 0, eperm), (!shape ok q 1, erange), (!s.rdTIME, enotready),
   (!s.servoOff, estate)]

def execTimeFreq (q : Req) (s : State) : Out :=
  done s (runInsn 0x48 2 q s (fun _ ok s =>
    checked s (errsTimeFreq q ok s) (fun _ => Res.ok (s.setFreq (opw q 1).toInt))))

/-- A signed byte of operand 3 of PTPCFG. -/
def ptpLog (q : Req) (hi lo : Nat) : Int := (BitVec.ofNat 8 (opf q 3 hi lo)).toInt

/-- A value lies outside the range of its profile (R394). -/
def ptpRange (q : Req) : Bool :=
  let sync := ptpLog q 7 0
  let ann := ptpLog q 15 8
  let dly := ptpLog q 23 16
  let tmo := opf q 3 31 24
  let out (x lo hi : Int) : Bool := x < lo || hi < x
  let rest (a b c d e f : Int) : Bool :=
    127 < opf q 1 23 16 || out sync a b || out ann c d || out dly e f || tmo < 2 || 10 < tmo
  match opf q 1 2 0 with
  | 0 => rest (-1) 1 0 4 0 5
  | 1 => rest (-4) 1 0 4 (-3) 5
  | 2 => rest (-7) (-1) (-3) 1 sync (sync + 5)
  | 3 => rest (-5) 1 (-3) 1 (-3) 5
  | _ => false

/-- A port after PTPCFG (log 134): one that the profile or the mask leaves out, or a master's in role 0, listens. -/
def State.ptpPortSet (s : State) (b : Bool) : State :=
  let st := s.fld (portFld b)
  let out := s.servoOff || !(s.fld F.TIME_CFG_PORTS).testBit (netIx b)
  if 5 ≤ st && (out || (s.fld F.TIME_CFG_ROLE == 0 && (st == 5 || st == 6))) then s.setPort b 4 else s

/-- PTPCFG takes effect: the servo restarts with STEPOK set, or is off. -/
def State.ptpSet (s : State) (q : Req) : State :=
  let t := s.setReg F.TIME_CFG (opw q 1)
  let t := { t with time := { t.time with prio := opw q 2, ivals := opw q 3, first := true } }
  let t := (t.setFld F.TIME_STAT_STEPOK 1).setServo (if opf q 1 2 0 = 4 then svOff else svFree)
  let t := (t.ptpPortSet false).ptpPortSet true
  (if t.time.gm.isSome && !t.hasMaster then t.masterChange none else t).ptpFollow

/-- The error table of PTPCFG. -/
def errsPtpcfg (q : Req) (ok : Bool) (s : State) : List (Bool × Nat) :=
  [(!clsIn q [1, 2], eproto), (q.m != 0, eperm),
   (!shape ok q 3 || extra q 1 0xFF0F07 || extra q 2 0xFFFF || 4 < opf q 1 2 0 || opf q 1 9 8 == 3 || ptpRange q, erange),
   (!s.rdTIME, enotready), (opf q 1 9 8 == 2 && opf q 1 11 10 != 3, estate)]

def execPtpcfg (q : Req) (s : State) : Out :=
  done s (runInsn 0x49 0 q s (fun _ ok s =>
    checked s (errsPtpcfg q ok s) (fun _ => Res.ok (s.ptpSet q))))

/-! ## REFSEL and REALIGN (R342, R343, R459, R464) -/

/-- The registers that INPUT writes; none where a value is out of its range. -/
def refselRegs (q : Req) : Option (SMap W32) :=
  let i := opf q 1 3 0
  match refVal (opf q 2 19 0) (refBw i), refVal (opf q 3 15 0) (refTol i), refVal (opf q 3 31 16) (40, 1, 6000),
      refVal (opf q 4 15 0) (100, 1, 6000) with
  | some bw, some tol, some qt, some wtr =>
    some [(F.RSEL_INn_CFG i, flag (bit (opw q 1) 4) 31 ||| at32 (opf q 1 11 8) 24 ||| at32 wtr 0), (F.RSEL_INn_BW i, at32 bw 0),
          (F.RSEL_INn_TOL i, at32 qt 16 ||| at32 tol 0)]
  | _, _, _, _ => none

/-- The error table of REFSEL INPUT. -/
def errsRefselInput (q : Req) (ok : Bool) (s : State) : List (Bool × Nat) :=
  let regs := refselRegs q
  [(!clsIn q [1, 2], eproto), (q.m != 0, eperm),
   (!shape ok q 4 || extra q 1 0xF1F || 11 < opf q 1 3 0 || extra q 2 0xFFFFF || extra q 4 0xFFFF || regs.isNone, erange),
   (!s.rdTIME, enotready)]

def execRefselInput (q : Req) (s : State) : Out :=
  done s (runInsn 0x4A 0 q s (fun _ ok s =>
    let regs := refselRegs q
    checked s (errsRefselInput q ok s) (fun _ => Res.ok (s.refCommand (regs.getD [])))))

/-- The error table of REFSEL MODE. -/
def errsRefselMode (q : Req) (ok : Bool) (s : State) : List (Bool × Nat) :=
  [(!clsIn q [1, 2], eproto), (q.m != 0, eperm),
   (!shape ok q 1 || extra q 1 0xF03 || opf q 1 1 0 == 3 || 11 < opf q 1 11 8, erange), (!s.rdTIME, enotready)]

def execRefselMode (q : Req) (s : State) : Out :=
  done s (runInsn 0x4A 1 q s (fun _ ok s =>
    checked s (errsRefselMode q ok s) (fun _ =>
      Res.ok (s.refCommand [(F.RSEL_STAT, at32 (opf q 1 1 0) 16 ||| at32 (opf q 1 11 8) 12)]))))

/-- The error table of REFSEL STATUS. -/
def errsRefselStatus (q : Req) (ok : Bool) (s : State) : List (Bool × Nat) :=
  [(!clsIn q [1, 2, 3], eproto), (!shape ok q 0, erange), (!s.rdTIME, enotready)]

def execRefselStatus (q : Req) (s : State) : Out :=
  done s (runInsn 0x4A 2 q s (fun _ ok s =>
    checked s (errsRefselStatus q ok s) (fun _ =>
      Res.okP s (s.view F.RSEL_STAT :: (List.range 12).map (fun i => s.view (F.RSEL_INn_STAT i))))))

/-- The configuration word of a group with every completed instruction counted (R316). -/
def State.grpCfg (s : State) (g : Nat) : W32 := (s.grp g).newCfg.getD (s.reg (F.TDMg_GCFG g))

/-- A REALIGN waits for its frame boundary. -/
def State.addRealign (s : State) (r : Realign) : State :=
  { s with rsel := { s.rsel with realigns := s.rsel.realigns ++ [r] } }.addWait r.pid (.realign r.pid)

/-- The error table of REALIGN. -/
def errsRealign (q : Req) (ok : Bool) (s : State) : List (Bool × Nat) :=
  let start := s.startFrame (opw q 2) (opw q 3)
  [(!clsIn q [1, 2], eproto), (q.m != 0, eperm),
   (!shape ok q 3 || extra q 1 0x3F || extra q 3 0x0FFFFFFF, erange), (start.isNone, etime),
   ((List.range 4).any (fun g => bit (opw q 1) (g + 2) && !bit (s.grpCfg g) 30), estate)]

def execRealign (q : Req) (s : State) : Out :=
  done s (runInsn 0x4B 0 q s (fun pid ok s =>
    let start := s.startFrame (opw q 2) (opw q 3)
    checked s (errsRealign q ok s) (fun _ => Res.ok (s.addRealign ⟨pid, start.getD 0, opw q 1⟩))))

/-! ## ALARM (R347, R390) -/

/-- RAISE or CLEAR. Its reply waits for the stage edge at which it applies: the next one, or while the zone table is not
ready, when it is recorded at once (R390), the first one after that. -/
def State.alarmAsk (s : State) (pid : Nat) (a : PendAlarm) : State :=
  if s.rdZONE then s.deferEdge pid [.alarm a.m a.first a.last a.on]
  else { s with net := { s.net with pendAlarms := s.net.pendAlarms ++ [a] } }.addWait pid .zoneReady

/-- The error table of ALARM. -/
def errsAlarm (q : Req) (ok : Bool) (s : State) : List (Bool × Nat) :=
  let first := opf q 1 12 0
  let last := opf q 2 12 0
  [(!clsIn q [0], eproto), (q.m != 0 && !s.on (F.MOOR_BINDm_AUTHREQ q.m.val), eperm),
   (!shape ok q 2 || extra q 1 0x1FFF || extra q 2 0x1FFF || last < first, erange)]

def alarmAct (q : Req) (on : Bool) (pid : Nat) (ok : Bool) (s : State) : Res :=
  let first := opf q 1 12 0
  let last := opf q 2 12 0
  checked s (errsAlarm q ok s) (fun _ => Res.ok (s.alarmAsk pid { m := q.m, first := first, last := last, on := on }))

def execAlarmRaise (q : Req) (s : State) : Out := done s (runInsn 0x59 0 q s (alarmAct q true))
def execAlarmClear (q : Req) (s : State) : Out := done s (runInsn 0x59 1 q s (alarmAct q false))

/-- STATUS: a bit for each entry. -/
def State.alarmWords (s : State) (first n : Nat) : List W32 :=
  (List.range (ceilDiv n 32)).map (fun w =>
    wordOf ((List.range 32).filter (fun j => 32 * w + j < n && (s.zone (first + 32 * w + j)).alarm)))

/-- The error table of ALARM STATUS. -/
def errsAlarmStatus (q : Req) (ok : Bool) : List (Bool × Nat) :=
  let first := opf q 1 12 0
  let n := opf q 2 7 0 + 1
  [(!shape ok q 2 || extra q 1 0x1FFF || extra q 2 0xFF || 8192 < first + n, erange)]

def execAlarmStatus (q : Req) (s : State) : Out :=
  done s (runInsn 0x59 2 q s (fun _ ok s =>
    let first := opf q 1 12 0
    let n := opf q 2 7 0 + 1
    checked s (errsAlarmStatus q ok) (fun _ => Res.okP s (s.alarmWords first n))))

end Sys2Proof.Machine
end

