-- ==== Sys2Proof/Machine/CmdPorts.lean ====
section
/-! DEFINITION. Machine/CmdPorts.lean: PORT, ASRC, CSTAT and GANGWAY (R66, R67, R344 to R346, R405 to R436). -/

namespace Sys2Proof.Machine

/-! ## Configurations with every completed instruction counted (R316) -/

/-- A lane's configuration word. -/
def State.laneCfg (s : State) (out : Bool) (l : Nat) : W32 :=
  match (s.ports.newLanes.filter (fun e => e.1 == out && e.2.1 == l)).getLast? with
  | some e => e.2.2
  | none => s.reg (if out then F.TDMl_OCFG l else F.TDMl_ICFG l)

/-- An instance's assignment. -/
def State.asrcCfg (s : State) (i : Nat) : W32 :=
  match (s.ports.newAsrc.filter (fun e => e.1 == i)).getLast? with
  | some e => e.2.getD 0
  | none => s.reg (F.ASRCn_CFG i)

/-- A channel runs once every completed CHAN has acted. -/
def State.willRun (s : State) (out : Bool) (ch : Nat) : Bool :=
  match s.ports.waits.find? (fun w => w.out == out && w.chan == ch) with
  | some w => w.run
  | none => s.running out ch

/-- A bound channel that runs and that a test admits (R344). -/
def State.boundRuns (s : State) (out : Bool) (p : Nat → Bool) : Bool :=
  let t := s.settled
  (if out then t.deck.outBind else t.deck.inBind).any (fun e => p e.1 && s.willRun out e.1)

/-- The channel lies on a lane. -/
def onLane (l ch : Nat) : Bool := ch < 512 && ch / 32 == l

/-- The channel is of a receiver or transmitter. -/
def onAes (n ch : Nat) : Bool := ch / 2 == 2048 + n

/-- The units of the ports are ready. -/
def State.rdTDM (s : State) : Bool := s.on F.SYS_READY_TDM
def State.rdAES (s : State) : Bool := s.on F.SYS_READY_AES
def State.rdASRC (s : State) : Bool := s.unit F.SYS_READY_ASRC (1, 14)

/-! ## PORT (R344, R413 to R422) -/

/-- A group configuration word holds a reserved code, or a form that R422 refuses. -/
def groupBadCfg (w : W32) : Bool :=
  !within w 0xFFFFE000 || bf w 29 28 == 3 || bf w 27 26 == 3 || [0, 6, 7].contains (bf w 25 23) || bf w 18 17 == 3
  || (bf w 29 28 < 2 && bf w 25 23 != 1)

/-- A channel that runs and is bound lies on a lane of a group. -/
def State.groupRuns (s : State) (g : Nat) : Bool :=
  [false, true].any (fun out => s.boundRuns out (fun ch => ch < 512 && bf (s.laneCfg out (ch / 32)) 30 29 == g))

/-- An instance serves a group. -/
def State.groupServed (s : State) (g : Nat) : Bool :=
  insts.any (fun i => let w := s.asrcCfg i; bit w 31 && bit w 0 && bf w 9 8 == g)

/-- The error table of PORT TDMGRP. -/
def errsPortTdmgrp (q : Req) (ok : Bool) (s : State) : List (Bool × Nat) :=
  let g := opf q 1 1 0
  let w := opw q 2
  [(!clsIn q [1, 2], eproto), (q.m != 0, eperm), (!shape ok q 2 || extra q 1 3 || groupBadCfg w, erange),
   (!s.rdTDM, enotready), (s.groupRuns g || (bit w 30 && s.groupServed g), estate)]

def execPortTdmgrp (q : Req) (s : State) : Out :=
  done s (runInsn 0x50 0 q s (fun pid ok s =>
    let g := opf q 1 1 0
    let w := opw q 2
    checked s (errsPortTdmgrp q ok s) (fun _ => Res.ok ((s.setGrp g { s.grp g with newCfg := some w }).addWait pid .edge))))

/-- The error table of PORT TDMLANE. -/
def errsPortTdmlane (q : Req) (ok : Bool) (s : State) : List (Bool × Nat) :=
  let l := opf q 1 3 0
  let out := bit (opw q 1) 4
  [(!clsIn q [1, 2], eproto), (q.m != 0, eperm),
   (!shape ok q 2 || extra q 1 0x1F || extra q 2 (if out then 0xF0000000 else 0xE0000000), erange),
   (!s.rdTDM || !s.gateOpen 2 (if out then 16 + l else l), enotready), (s.boundRuns out (onLane l), estate)]

def execPortTdmlane (q : Req) (s : State) : Out :=
  done s (runInsn 0x50 1 q s (fun pid ok s =>
    let l := opf q 1 3 0
    let out := bit (opw q 1) 4
    checked s (errsPortTdmlane q ok s) (fun _ =>
      Res.ok ({ s with ports := { s.ports with newLanes := s.ports.newLanes ++ [(out, l, opw q 2)] } }.addWait pid .edge))))

/-- The error table of PORT AESRX. -/
def errsPortAesrx (q : Req) (ok : Bool) (s : State) : List (Bool × Nat) :=
  let n := opf q 1 2 0
  [(!clsIn q [1, 2], eproto), (q.m != 0, eperm),
   (!shape ok q 2 || extra q 1 7 || extra q 2 0xFF000000 || opf q 2 29 28 == 3, erange),
   (!s.rdAES || !s.gateOpen 3 n, enotready), (s.boundRuns false (onAes n), estate)]

def execPortAesrx (q : Req) (s : State) : Out :=
  done s (runInsn 0x50 2 q s (fun pid ok s =>
    let n := opf q 1 2 0
    checked s (errsPortAesrx q ok s) (fun _ =>
      Res.ok ((s.setRx n { s.rx n with newCfg := some (opw q 2) }).addWait pid .edge))))

/-- The error table of PORT AESTX. -/
def errsPortAestx (q : Req) (ok : Bool) (s : State) : List (Bool × Nat) :=
  let n := opf q 1 2 0
  [(!clsIn q [1, 2], eproto), (q.m != 0, eperm), (!shape ok q 2 || extra q 1 7 || extra q 2 0xC0000000, erange),
   (!s.rdAES || !s.gateOpen 3 (8 + n), enotready), (s.boundRuns true (onAes n), estate)]

def execPortAestx (q : Req) (s : State) : Out :=
  done s (runInsn 0x50 3 q s (fun pid ok s =>
    let n := opf q 1 2 0
    checked s (errsPortAestx q ok s) (fun _ =>
      Res.ok ({ s with ports := { s.ports with newTxCfg := ins s.ports.newTxCfg n (opw q 2) } }.addWait pid .edge))))

/-- The change of a limiter has taken effect (R55). -/
def OutCh.calm (o : OutCh) : Bool := o.newCfg.isNone && o.change.isEmpty

/-- LIM: the reply waits for a change that does not act at once. -/
def State.limSet (s : State) (pid ch : Nat) (w : W32) : State :=
  let t := s.limWrite (limOf ch) w
  if (t.outCh ch).calm then t else t.addWait pid (.limiter (limOf ch))

/-- The error table of PORT LIM. -/
def errsPortLim (q : Req) (ok : Bool) (s : State) : List (Bool × Nat) :=
  let ch := opf q 1 15 0
  let w := opw q 2
  [(!clsIn q [0, 1, 2], eproto), (ok && given q 1 && s.chanBarred q.m true ch, eperm),
   (!shape ok q 2 || extra q 1 0xFFFF || !chanOk s.rateDue ch || !within w 0xFFFC01FF || bf w 30 29 == 3
      || bf w 28 18 == 0 || 2000 < bf w 28 18 || 400 < bf w 8 0, erange),
   (!s.unit F.SYS_READY_LIM (1, 15), enotready)]

def execPortLim (q : Req) (s : State) : Out :=
  done s (runInsn 0x50 4 q s (fun pid ok s =>
    let ch := opf q 1 15 0
    let w := opw q 2
    checked s (errsPortLim q ok s) (fun _ => Res.ok (s.limSet pid ch w))))

/-- The unit of a port channel is ready. -/
def State.rdChan (s : State) (ch : Nat) : Bool :=
  match ch / 4096 with
  | 0 => s.rdTDM
  | 1 => s.rdAES
  | _ => s.rdSTRM

/-- CHAN waits for its edge; an earlier one of the channel is abandoned, and its reply falls due (R437). -/
def State.chanSet (s : State) (pid : Nat) (w : ChanWait) : State :=
  let t := { s with ports := { s.ports with waits := s.ports.waits.filter (fun x => !(x.out == w.out && x.chan == w.chan)) } }
  let t := t.release (fun x => x == Wait.channel w.out w.chan)
  let e := Eff.chan w.out w.chan
  let t := { t with ports := { t.ports with waits := t.ports.waits ++ [w] },
                    ctl := { t.ctl with deferred := t.ctl.deferred.filter (fun x => x.2 != e) } }
  (t.defer pid e).addWait pid (.channel w.out w.chan)

/-- The error table of PORT CHAN. -/
def errsPortChan (q : Req) (ok : Bool) (s : State) : List (Bool × Nat) :=
  let ch := opf q 1 15 0
  let w := opw q 1
  [(!clsIn q [0, 1, 2], eproto), (ok && given q 1 && s.chanBarred q.m (bit w 16) ch, eperm),
   (!shape ok q 1 || extra q 1 0x7FFFF || !chanOk s.rateDue ch, erange), (!s.rdChan ch, enotready)]

def execPortChan (q : Req) (s : State) : Out :=
  done s (runInsn 0x50 5 q s (fun pid ok s =>
    let ch := opf q 1 15 0
    let w := opw q 1
    checked s (errsPortChan q ok s) (fun _ => Res.ok (s.chanSet pid
        { out := bit w 16, chan := ch, run := bit w 17, now := bit w 18, from_ := none, tested := 0 }))))

/-! ## ASRC (R345, R431) -/

/-- The lanes of a group in ascending order that carry converted channels. -/
def State.convLanes (s : State) (g : Nat) : List Nat :=
  (List.range 16).filter (fun l => bf (s.laneCfg false l) 30 29 == g)

/-- The input channels that an assignment word converts. -/
def State.asrcChans (s : State) (w : W32) : List Nat :=
  let n := bf w 19 16 + 1
  let i := bf w 10 8
  if !bit w 0 then rangeFrom (4096 + 2 * i) n
  else
    let slots := slotsOf (bf (s.grpCfg (i % 4)) 25 23)
    let all := (s.convLanes (i % 4)).flatMap (fun l => rangeFrom (32 * l) slots)
    (all.drop (if 4 ≤ i then 16 else 0)).take n

/-- The count exceeds what R431 admits: two subframes, or the converted channels that the part of the group holds. -/
def State.asrcOver (s : State) (w : W32) : Bool :=
  let n := bf w 19 16 + 1
  if bit w 0 then (s.asrcChans w).length < n else 2 < n

/-- Another instance serves the source. -/
def State.sourceTaken (s : State) (i : Nat) (w : W32) : Bool :=
  insts.any (fun k => let v := s.asrcCfg k; k != i && bit v 31 && bit v 0 == bit w 0 && bf v 10 8 == bf w 10 8)

/-- The error table of ASRC ASSIGN. -/
def errsAsrcAssign (q : Req) (ok : Bool) (s : State) : List (Bool × Nat) :=
  let i := opf q 1 4 0
  let w := opw q 2
  [(!clsIn q [1, 2], eproto),
   (ok && ((given q 1 && i < 24 && !s.owns q.m ownAsrc i)
      || (given q 2 && (s.asrcChans w).any (fun ch => ch < 4112 && !s.ownsChan q.m false ch))), eperm),
   (!shape ok q 2 || extra q 1 0x1F || 24 ≤ i || extra q 2 0xF0701 || s.asrcOver w, erange), (!s.rdASRC, enotready),
   (bit (s.asrcCfg i) 31 || s.sourceTaken i w || (bit w 0 && bit (s.grpCfg (bf w 9 8)) 30), estate)]

def execAsrcAssign (q : Req) (s : State) : Out :=
  done s (runInsn 0x51 0 q s (fun pid ok s =>
    let i := opf q 1 4 0
    let w := opw q 2
    checked s (errsAsrcAssign q ok s) (fun _ =>
      Res.ok ({ s with ports := { s.ports with newAsrc := s.ports.newAsrc ++ [(i, some (flag true 31 ||| w))] } }.addWait
        pid .edge))))

/-- The error table of ASRC RELEASE. -/
def errsAsrcRelease (q : Req) (ok : Bool) (s : State) : List (Bool × Nat) :=
  let i := opf q 1 4 0
  [(!clsIn q [1, 2], eproto), (ok && given q 1 && i < 24 && !s.owns q.m ownAsrc i, eperm),
   (!shape ok q 1 || extra q 1 0x1F || 24 ≤ i, erange), (!s.rdASRC, enotready)]

/-- RELEASE: of an instance without an assignment it changes nothing. -/
def execAsrcRelease (q : Req) (s : State) : Out :=
  done s (runInsn 0x51 1 q s (fun pid ok s =>
    let i := opf q 1 4 0
    checked s (errsAsrcRelease q ok s) (fun _ => Res.ok ((if bit (s.asrcCfg i) 31 then
          { s with ports := { s.ports with newAsrc := s.ports.newAsrc ++ [(i, none)] } } else s).addWait pid .edge))))

/-- The error table of ASRC STATUS. -/
def errsAsrcStatus (q : Req) (ok : Bool) (s : State) : List (Bool × Nat) :=
  let i := opf q 1 4 0
  [(!clsIn q [1, 2, 3], eproto), (ok && given q 1 && i < 24 && !s.owns q.m ownAsrc i, eperm),
   (!shape ok q 1 || extra q 1 0x1F || 24 ≤ i, erange), (!s.rdASRC, enotready)]

def execAsrcStatus (q : Req) (s : State) : Out :=
  done s (runInsn 0x51 2 q s (fun _ ok s =>
    let i := opf q 1 4 0
    checked s (errsAsrcStatus q ok s) (fun _ => Res.okP s [s.view (F.ASRCn_STAT i)])))

/-! ## CSTAT (R346, R426, R430) -/

/-- The subframes, 0 and 1, of a TXSET code. -/
def subsOf (code : Nat) : List Nat := [0, 1].filter (fun i => code.testBit i)

/-- A block waits for the next Z preamble. -/
def State.txSet (s : State) (pid t : Nat) (subs : List Nat) (ws : List W32) : State :=
  { s with ports := { s.ports with newTx := subs.foldl (fun m i => ins m (2 * t + i) (txBlock ws)) s.ports.newTx } }.addWait
    pid (.block t)

/-- The error table of CSTAT TXSET. -/
def errsCstatTxset (q : Req) (ok : Bool) (s : State) : List (Bool × Nat) :=
  let t := opf q 1 2 0
  let subs := subsOf (opf q 1 9 8)
  [(!clsIn q [1, 2], eproto), (ok && given q 1 && subs.any (fun i => !s.ownsChan q.m true (4096 + 2 * t + i)), eperm),
   (!shape ok q 7 || extra q 1 0x307 || subs.isEmpty, erange), (!s.rdAES || !s.gateOpen 3 (8 + t), enotready)]

def execCstatTxset (q : Req) (s : State) : Out :=
  done s (runInsn 0x52 0 q s (fun pid ok s =>
    let t := opf q 1 2 0
    let subs := subsOf (opf q 1 9 8)
    checked s (errsCstatTxset q ok s) (fun _ => Res.ok (s.txSet pid t subs ((q.ops.drop 1).take 6)))))

/-- The error table of CSTAT RXREAD. -/
def errsCstatRxread (q : Req) (ok : Bool) (s : State) : List (Bool × Nat) :=
  let n := opf q 1 2 0
  let i := opf q 1 8 8
  [(!clsIn q [1, 2, 3], eproto), (ok && given q 1 && !s.ownsChan q.m false (4096 + 2 * n + i), eperm),
   (!shape ok q 1 || extra q 1 0x107, erange), (!s.rdAES || !s.gateOpen 3 n, enotready)]

def execCstatRxread (q : Req) (s : State) : Out :=
  done s (runInsn 0x52 1 q s (fun _ ok s =>
    let n := opf q 1 2 0
    let i := opf q 1 8 8
    checked s (errsCstatRxread q ok s) (fun _ => Res.okP s ((s.rx n).blocks.getD i []))))

/-! ## GANGWAY (R63, R66, R67) -/

/-- The error tables of GANGWAY, in the order of R67. -/
def errsGangway (q : Req) (cls : List Nat) (bad : Bool) (s : State) : List (Bool × Nat) :=
  [(!s.owns q.m ownGangway 0, eperm), (!clsIn q cls, eproto), (bad, erange), (s.on F.GW_CTRL_LOCK, estate)]

def errsGangwayInsrc (q : Req) (ok : Bool) (s : State) : List (Bool × Nat) :=
  errsGangway q [1, 2] (!shape ok q 1 || extra q 1 0x1FFFFF || !chanNamed (opf q 1 15 0)) s

def errsGangwayInopen (q : Req) (ok : Bool) (s : State) : List (Bool × Nat) :=
  let w := opw q 2
  errsGangway q [0, 1, 2]
    (!shape ok q 2 || extra q 1 0x1F || !within w 0xFFFF03FF || bf w 31 18 == 0 || 10000 < bf w 31 18 || bf w 17 16 == 3
      || 900 < bf w 9 0) s

def errsGangwayGain (q : Req) (ok : Bool) (s : State) : List (Bool × Nat) :=
  errsGangway q [1, 2] (!shape ok q 2 || extra q 1 0x3F001F || extra q 2 0xFFFFFF) s

def errsGangwayOut (q : Req) (ok : Bool) (s : State) : List (Bool × Nat) :=
  let w := opw q 2
  errsGangway q [1, 2] (!shape ok q 2 || extra q 1 0x3F || !within w 0x3FFFF || bf w 17 16 == 3 || !chanNamed (bf w 15 0)) s

/-- A GANGWAY instruction that writes one register; its reply waits for the frame boundary of R63. -/
def State.gangwaySet (s : State) (pid a : Nat) (v : W32) : State := (s.setReg a v).addWait pid .gangway

def execGangwayInsrc (q : Req) (s : State) : Out :=
  done s (runInsn 0x58 0 q s (fun pid ok s =>
    checked s (errsGangwayInsrc q ok s) (fun _ =>
      Res.ok (s.gangwaySet pid (F.GW_INn_SRC (opf q 1 20 16)) (at32 (opf q 1 15 0) 0)))))

def execGangwayInopen (q : Req) (s : State) : Out :=
  done s (runInsn 0x58 1 q s (fun pid ok s =>
    checked s (errsGangwayInopen q ok s) (fun _ => Res.ok (s.gangwaySet pid (F.GW_INn_OPEN (opf q 1 4 0)) (opw q 2)))))

def execGangwayGain (q : Req) (s : State) : Out :=
  done s (runInsn 0x58 2 q s (fun pid ok s =>
    checked s (errsGangwayGain q ok s) (fun _ =>
      Res.ok (s.gangwaySet pid (F.GW_GAINi_o (opf q 1 4 0) (opf q 1 21 16)) (opw q 2)))))

def execGangwayOut (q : Req) (s : State) : Out :=
  done s (runInsn 0x58 3 q s (fun pid ok s =>
    checked s (errsGangwayOut q ok s) (fun _ => Res.ok (s.gangwaySet pid (F.GW_OUTn (opf q 1 5 0)) (opw q 2)))))

end Sys2Proof.Machine
end

