-- ==== Sys2Proof/Machine/CmdSystem.lean ====
section
/-! DEFINITION. Machine/CmdSystem.lean: POWER, CLOCK, RESET, KEY, LIFECYCLE, MEMTEST, SCRUB and METER (R333 to R335, R348 to
R354). -/

namespace Sys2Proof.Machine

/-- The conditions that every instruction of M0 alone checks first, in classes of a list. -/
def m0Only (q : Req) (l : List Nat) : List (Bool × Nat) := [(!clsIn q l, eproto), (q.m != 0, eperm)]

/-! ## POWER (R333, R543, R544) -/

/-- POWER takes a domain to a state: at once where it is there, else when it reaches it. -/
def State.powerTo (s : State) (pid d target : Nat) : State :=
  if s.pd d = target then s else (s.powerStart d target).addWait pid (.domain d)

/-- The error table of POWER. -/
def errsPower (q : Req) (ok : Bool) (s : State) : List (Bool × Nat) :=
  let d := opf q 1 2 0
  let st := opf q 1 9 8
  m0Only q [1, 2] ++
   [(!shape ok q 1 || extra q 1 0x307 || st == 3 || d < 2 || 6 < d, erange),
    (s.asked.pd d == 0 && st != 0 && s.asked.powerBars d, estate)]

def execPower (q : Req) (s : State) : Out :=
  doneMem s (runInsn 0x70 0 q s (fun pid ok s =>
    let d := opf q 1 2 0
    let st := opf q 1 9 8
    checked s (errsPower q ok s) (fun _ => Res.ok (s.powerTo pid d st))))

/-! ## CLOCK (R334, R448, R454, R456) -/

/-- The error table of CLOCK GATE. -/
def errsClockGate (q : Req) (ok : Bool) (s : State) : List (Bool × Nat) :=
  let n := opf q 1 1 0
  let shut := (bitsOf (opw q 2) 32).filter (fun b => !(opw q 3).getLsbD b && s.gateOpen n b)
  m0Only q [1, 2] ++
   [(!shape ok q 3 || extra q 1 3 || opw q 2 &&& ~~~gateMask n != 0, erange),
    (shut.any (fun b => gateFixed n b || s.asked.gateInUse n b), estate)]

/-- CLOCK GATE. -/
def execClockGate (q : Req) (s : State) : Out :=
  done s (runInsn 0x71 0 q s (fun pid ok s =>
    let n := opf q 1 1 0
    checked s (errsClockGate q ok s) (fun _ => Res.ok (s.gateSet pid n (opw q 2) (opw q 3)))))

/-- CLOCK MCLK: EN at once, a change of multiple at the next frame boundary, for which the reply waits (R318). -/
def State.mclkSet (s : State) (pid n : Nat) (en : Bool) (mult : Nat) : State :=
  let t := s.setFld (F.MPLL_MCLKn_EN n) (if en then 1 else 0)
  if (look t.clk.newMclk n).isNone && t.fld (F.MPLL_MCLKn_MULT n) == mult then t
  else { t with clk := { t.clk with newMclk := ins t.clk.newMclk n mult } }.addWait pid .mclk

/-- The error table of CLOCK MCLK. -/
def errsClockMclk (q : Req) (ok : Bool) (s : State) : List (Bool × Nat) :=
  m0Only q [1, 2] ++
   [(!shape ok q 2 || extra q 1 3 || extra q 2 0x103 || opf q 2 1 0 == 3, erange),
    (!s.gateOpen 1 18, enotready)]

def execClockMclk (q : Req) (s : State) : Out :=
  done s (runInsn 0x71 1 q s (fun pid ok s =>
    checked s (errsClockMclk q ok s) (fun _ => Res.ok (s.mclkSet pid (opf q 1 1 0) (bit (opw q 2) 8) (opf q 2 1 0)))))

/-- CLOCK BAND: an entry written; without a band the next one starts a new selection. -/
def State.bandSet (s : State) (k : Nat) (w : W32) : State :=
  let t := s.setReg (F.MPLL_BANDk k) w
  if s.on F.MPLL_STAT_NOBAND then t.mpllSelect else t

/-- The error table of CLOCK BAND. -/
def errsClockBand (q : Req) (ok : Bool) (s : State) : List (Bool × Nat) :=
  let k := opf q 1 3 0
  m0Only q [1, 2] ++
   [(!shape ok q 2 || extra q 1 0xF || bit (opw q 2) 30 || opf q 2 11 0 < opf q 2 23 12, erange),
    (!s.gateOpen 1 18, enotready),
    (s.clk.band == some k, estate)]

def execClockBand (q : Req) (s : State) : Out :=
  done s (runInsn 0x71 2 q s (fun _ ok s =>
    let k := opf q 1 3 0
    checked s (errsClockBand q ok s) (fun _ => Res.ok (s.bandSet k (opw q 2)))))

/-! ## RESET (R335, R295, R552) -/

/-- A mooring by number. -/
def moorOf (n : Nat) : Fin 8 := ⟨n % 8, Nat.mod_lt _ (by decide)⟩

/-- The error table of RESET MOORING. -/
def errsResetMooring (q : Req) (ok : Bool) : List (Bool × Nat) :=
  let m := moorOf (opf q 1 2 0)
  [(!clsIn q [1, 2], eproto), (ok && given q 1 && q.m != 0 && m != q.m, eperm),
   (!shape ok q 1 || extra q 1 7, erange)]

/-- RESET MOORING: a mooring that names itself gets no reply. -/
def execResetMooring (q : Req) (s : State) : Out :=
  done s (runInsn 0x72 0 q s (fun _ ok s =>
    let m := moorOf (opf q 1 2 0)
    checked s (errsResetMooring q ok) (fun _ => Res.ok (s.mooringReset m))))

/-- The packet in execution keeps no further instruction than the one it is at. -/
def State.lastInsn (s : State) : State :=
  match s.ctl.stack with
  | [] => s
  | p :: r => { s with ctl := { s.ctl with stack := { p with insns := p.insns.take 1 } :: r } }

/-- RESET ENGINE: the packets that had started stop, and the reset begins at the next stage edge. -/
def State.engineAsk (s : State) (pid : Nat) : State :=
  let t := s.ctl.stack.tail.foldl (fun t p =>
    (if p.units = 0 then t else t.freeUnits p.m.val p.cls.val p.units).stopPacket { p with units := 0 }) s.lastInsn
  { t with pwr := { t.pwr with engine := some (t.pwr.engine.getD 1) },
           ctl := { t.ctl with stack := s.lastInsn.ctl.stack.take 1 } }.addWait pid .engineReset

/-- The error table of RESET ENGINE. -/
def errsResetEngine (q : Req) (ok : Bool) : List (Bool × Nat) :=
  m0Only q [1, 2] ++ [(!shape ok q 1 || extra q 1 0, erange)]

def execResetEngine (q : Req) (s : State) : Out :=
  done s (runInsn 0x72 1 q s (fun pid ok s =>
    checked s (errsResetEngine q ok) (fun _ => Res.ok (s.engineAsk pid))))

/-! ## KEY and LIFECYCLE (R352, R354, R505) -/

/-- The R280 state of a mooring restarts. -/
def State.restartSeq (s : State) (m : Fin 8) : State :=
  { s with moors := s.moors.set m { s.moors[m] with last := [none, none, none, none] } }

/-- A key loaded, or erased, in the secure bank: M0's own is in force once the reply has been sent. -/
def State.keySet (s : State) (pid : Nat) (m : Fin 8) (key : Option (List Byte)) : State :=
  let s := s.wroteAll [(keyAddr m.val, 32), (validAddr, 4)]
  if m = 0 then { s with ctl := { s.ctl with keyOps := s.ctl.keyOps ++ [(pid, key)] } }
  else
    let keys := match key with
      | some k => ins s.sec.keys m.val k
      | none => del s.sec.keys m.val
    { s with sec := { s.sec with keys := keys } }.restartSeq m

/-- The 32 bytes of operands 2 to 9. -/
def keyBytes (q : Req) : List Byte := bytesLE ((q.ops.drop 1).take 8)

/-- The error table of KEY LOAD. -/
def errsKeyLoad (q : Req) (ok : Bool) : List (Bool × Nat) :=
  m0Only q [1, 2] ++ [(!shape ok q 9 || extra q 1 7, erange)]

def execKeyLoad (q : Req) (s : State) : Out :=
  done s (runInsn 0x78 0 q s (fun pid ok s =>
    checked s (errsKeyLoad q ok) (fun _ => Res.ok (s.keySet pid (moorOf (opf q 1 2 0)) (some (keyBytes q))))))

/-- The error table of KEY ERASE. -/
def errsKeyErase (q : Req) (ok : Bool) : List (Bool × Nat) :=
  m0Only q [1, 2] ++ [(!shape ok q 1 || extra q 1 7, erange)]

def execKeyErase (q : Req) (s : State) : Out :=
  done s (runInsn 0x78 1 q s (fun pid ok s =>
    checked s (errsKeyErase q ok) (fun _ => Res.ok (s.keySet pid (moorOf (opf q 1 2 0)) none))))

/-- The error table of KEY SIGNKEY. -/
def errsKeySignkey (q : Req) (ok : Bool) (s : State) : List (Bool × Nat) :=
  let k := opf q 1 1 0
  m0Only q [1, 2] ++
   [(!shape ok q 9 || extra q 1 3, erange),
    (s.lcDue == lcDeployed && (s.slotDue k).isSome, estate)]

/-- A hash stored in a slot; while fuses are programmed it counts as filled since. -/
def State.slotSet (s : State) (k : Nat) (h : List Byte) : State :=
  let later := if s.sec.fusing.isEmpty then s.sec.later else uniq (s.sec.later ++ [k])
  { s with sec := { s.sec with slots := ins s.sec.slots k h, later := later } }.wroteAll [(slotAddr k, 32), (validAddr, 4)]

def execKeySignkey (q : Req) (s : State) : Out :=
  done s (runInsn 0x78 2 q s (fun _ ok s =>
    checked s (errsKeySignkey q ok s) (fun _ => Res.ok (s.slotSet (opf q 1 1 0) (keyBytes q)))))

/-- The transitions that LIFECYCLE accepts. -/
def lcAllowed (old new : Nat) : Bool := [(0, 1), (1, 2), (1, 3), (2, 3)].contains (old, new)

/-- LIFECYCLE: the fuses are programmed, one accepted transition after another. -/
def State.lcStart (s : State) (pid target : Nat) : State :=
  { s with sec := { s.sec with fusing := s.sec.fusing ++ [(pid, target)], later := [] } }.addWait pid .fuses

/-- The error table of LIFECYCLE. -/
def errsLifecycle (q : Req) (ok : Bool) (s : State) : List (Bool × Nat) :=
  let target := opf q 1 1 0
  m0Only q [2] ++
   [(!shape ok q 2 || extra q 1 3 || target == 0 || opw q 2 != 0x4C435900 + BitVec.ofNat 32 target, erange),
    (!q.auth, eauth),
    (!lcAllowed s.lcDue target, estate)]

def execLifecycle (q : Req) (s : State) : Out :=
  done s (runInsn 0x79 0 q s (fun pid ok s =>
    let target := opf q 1 1 0
    checked s (errsLifecycle q ok s) (fun _ => Res.ok (s.lcStart pid target))))

/-! ## MEMTEST and SCRUB (R350, R351, R494 to R498) -/

/-- The march unit is ready. -/
def State.rdMarch (s : State) : Bool := s.unit F.SYS_READY_MEMT (1, 21)

/-- The error table of MEMTEST MARCH. -/
def errsMemtestMarch (q : Req) (ok : Bool) (s : State) : List (Bool × Nat) :=
  let b := opf q 1 7 0
  let pres := bit (opw q 1) 8
  m0Only q [1, 2, 3] ++
   [(!shape ok q 1 || extra q 1 0x1FF || 40 ≤ b, erange), (!s.rdMarch || !s.bankOn b, enotready),
    (!pres && !s.asked.expendable b, estate), (s.on F.MARCH_STAT_RUN, ebusy)]

def execMemtestMarch (q : Req) (s : State) : Out :=
  done s (runInsn 0x68 0 q s (fun _ ok s =>
    let b := opf q 1 7 0
    let pres := bit (opw q 1) 8
    checked s (errsMemtestMarch q ok s) (fun _ => ⟨stPending, [], s.marchStart b pres⟩)))

/-- The error table of MEMTEST STATUS. -/
def errsMemtestStatus (q : Req) (ok : Bool) (s : State) : List (Bool × Nat) :=
  let b := opf q 1 7 0
  m0Only q [1, 2, 3] ++
   [(!shape ok q 1 || extra q 1 0xFF || 40 ≤ b, erange), (!s.rdMarch, enotready)]

def execMemtestStatus (q : Req) (s : State) : Out :=
  done s (runInsn 0x68 1 q s (fun _ ok s =>
    let b := opf q 1 7 0
    checked s (errsMemtestStatus q ok s) (fun _ => Res.okP s [s.view (F.MARCH_RESb b)])))

/-- The scrubber is ready: MEMT governs SCRUB, and its gate is open. -/
def State.rdScrub (s : State) : Bool := s.unit F.SYS_READY_MEMT (1, 20)

/-- The error table of SCRUB ENABLE; bits [31:8] of operand 2 name no bank and are ignored (log 94). -/
def errsScrubEnable (q : Req) (ok : Bool) (s : State) : List (Bool × Nat) :=
  m0Only q [1, 2, 3] ++ [(!shape ok q 2, erange), (!s.rdScrub, enotready)]

def execScrubEnable (q : Req) (s : State) : Out :=
  done s (runInsn 0x69 0 q s (fun _ ok s =>
    checked s (errsScrubEnable q ok s) (fun _ =>
      Res.ok ((s.setReg F.SCRB_EN0 (opw q 1)).setReg F.SCRB_EN1 (opw q 2 &&& 0xFF)))))

/-- The error table of SCRUB STATUS. -/
def errsScrubStatus (q : Req) (ok : Bool) (s : State) : List (Bool × Nat) :=
  m0Only q [1, 2, 3] ++ [(!shape ok q 0, erange), (!s.rdScrub, enotready)]

def execScrubStatus (q : Req) (s : State) : Out :=
  done s (runInsn 0x69 1 q s (fun _ ok s =>
    checked s (errsScrubStatus q ok s) (fun _ => Res.okP s [s.view F.SCRB_LAP, s.view F.SCRB_CNT])))

/-! ## METER (R348, R349) -/

/-- The metering block is ready. -/
def State.rdMtr (s : State) : Bool := s.unit F.SYS_READY_MTR (1, 17)

/-- A meter point belongs to another mooring than m. -/
def State.meterOther (s : State) (m : Fin 8) (n : Nat) : Bool :=
  match look s.meters n with
  | some x => x.m != m
  | none => false

/-- SET: the peak is cleared. A point stays with the mooring that enabled it until that mooring disables it, also where M0
sets it. -/
def State.meterPut (s : State) (m : Fin 8) (n : Nat) (en : Bool) (slot : Nat) : State :=
  let o := ((look s.meters n).map (·.m)).getD m
  if en || o != m then { s with meters := ins s.meters n { m := o, en := en, slot := slot, peak := 0 } }
  else { s with meters := del s.meters n }

/-- The peaks of points as a mooring sees them; a disabled point reads as 0. -/
def State.peaks (s : State) (m : Fin 8) (first n : Nat) : List W32 :=
  (rangeFrom first n).map (fun i => match look s.meters i with
    | some x => if x.en && (m == 0 || x.m == m) then x.peak else 0
    | none => 0)

/-- The peaks of points read by a mooring are cleared. -/
def State.clearPeaks (s : State) (m : Fin 8) (first n : Nat) : State :=
  { s with meters := s.meters.map (fun e =>
      if first ≤ e.1 && e.1 < first + n && (m == 0 || e.2.m == m) then (e.1, { e.2 with peak := 0 }) else e) }

/-- The error table of METER SET. -/
def errsMeterSet (q : Req) (ok : Bool) (s : State) : List (Bool × Nat) :=
  let n := opf q 1 10 0
  let slot := opf q 2 13 0
  [(!clsIn q [1, 2, 3], eproto), (ok && given q 2 && !s.owns q.m ownSlots slot, eperm),
   (!shape ok q 2 || extra q 1 0x7FF || extra q 2 0x80003FFF, erange), (!s.rdMtr, enotready),
   (q.m != 0 && s.meterOther q.m n, ebusy)]

def execMeterSet (q : Req) (s : State) : Out :=
  done s (runInsn 0x60 0 q s (fun _ ok s =>
    let n := opf q 1 10 0
    let slot := opf q 2 13 0
    checked s (errsMeterSet q ok s) (fun _ => Res.ok (s.meterPut q.m n (bit (opw q 2) 31) slot))))

/-- The checks that READ and NOTIFY share. -/
def State.meterChecks (s : State) (q : Req) (ok fit : Bool) : List (Bool × Nat) :=
  let first := opf q 1 10 0
  let n := opf q 2 7 0 + 1
  [(!clsIn q [1, 2, 3], eproto),
   (ok && given q 2 && q.m != 0 && (rangeFrom first n).any (s.meterOther q.m), eperm),
   (!fit || extra q 1 0x7FF || extra q 2 0xFF || 2048 < first + n, erange)]

/-- The error table of METER READ. -/
def errsMeterRead (q : Req) (ok : Bool) (s : State) : List (Bool × Nat) :=
  s.meterChecks q ok (shape ok q 2) ++ [(!s.rdMtr, enotready)]

def execMeterRead (q : Req) (s : State) : Out :=
  done s (runInsn 0x60 1 q s (fun _ ok s =>
    let first := opf q 1 10 0
    let n := opf q 2 7 0 + 1
    checked s (errsMeterRead q ok s) (fun _ => Res.okP (s.clearPeaks q.m first n) (s.peaks q.m first n))))

/-- The error table of METER NOTIFY. -/
def errsMeterNotify (q : Req) (ok : Bool) (s : State) : List (Bool × Nat) :=
  s.meterChecks q ok (shape ok q 3) ++ [(shape ok q 3 && extra q 3 0xFFF, erange), (!s.rdMtr, enotready)]

def execMeterNotify (q : Req) (s : State) : Out :=
  done s (runInsn 0x60 2 q s (fun _ ok s =>
    let k := opf q 3 11 0
    let range := if k = 0 then none else some (opf q 1 10 0, opf q 2 7 0, k)
    checked s (errsMeterNotify q ok s) (fun _ =>
      Res.ok { s with moors := s.moors.set q.m { s.moors[q.m] with notify := range } })))

end Sys2Proof.Machine
end

