-- ==== Sys2Proof/Machine/CmdTask.lean ====
section
/-! DEFINITION. Machine/CmdTask.lean: TASK, TSTOP, TPARAM, FERRY, TANDEM and SPARE (R186 to R204, R235 to R270). -/

namespace Sys2Proof.Machine

/-! ## Images (R186 to R188) -/

/-- A state region word (R186): its base and length are in range. -/
def regionOk (w : W32) : Bool :=
  within w 0x0FFF7FFF && bf w 27 16 ≤ 2048 && bf w 14 0 % 16 == 0 && bf w 14 0 + 16 * bf w 27 16 ≤ 32768

/-- The bytes that a header's lengths make (R187). -/
def imageBytes (h : List W32) : Nat :=
  64 + 8 * bf (wd h 2) 13 0 + 4 * (bf (wd h 3) 31 16 + bf (wd h 3) 15 0 + bf (wd h 4) 26 16) + (if bit (wd h 1) 2 then 128 else 0)

/-- A header of 16 words obeys R186 and R187 for a LENGTH operand. -/
def headerOk (h : List W32) (length : Nat) : Bool :=
  let plen := bf (wd h 2) 13 0
  let pg := bf (wd h 4) 26 16
  wd h 0 == 0x5A595331 && bf (wd h 1) 31 16 == 1 && within (wd h 1) 0xFFFF3007
  && 1 ≤ plen && plen ≤ 8192 && within (wd h 2) 0x3FFF
  && bf (wd h 3) 31 16 ≤ 32768 && bf (wd h 3) 15 0 ≤ 32768
  && within (wd h 4) 0x07FF1FFF && pg ≤ 1024 && pg % 16 == 0 && bf (wd h 4) 12 0 < plen
  && regionOk (wd h 5) && regionOk (wd h 6) && within (wd h 8) 0x000FFFFF
  && (wd h 9).toNat == imageBytes h && (wd h 9).toNat == length && ((h.take 16).drop 10).all (· == 0)

/-- The fields of a header. -/
def imageOf (h : List W32) : Image :=
  { prot := bit (wd h 1) 0, ferryok := bit (wd h 1) 1, signed := bit (wd h 1) 2, keyslot := bf (wd h 1) 13 12,
    plen := bf (wd h 2) 13 0, xlen := bf (wd h 3) 15 0, ylen := bf (wd h 3) 31 16, pglen := bf (wd h 4) 26 16,
    entry := bf (wd h 4) 12 0, xsbase := bf (wd h 5) 14 0, xslen := bf (wd h 5) 27 16, ysbase := bf (wd h 6) 14 0,
    yslen := bf (wd h 6) 27 16, layout := wd h 7, wdlim := bf (wd h 8) 19 0 }

/-- Words stored from an index on, in the form of a memory filled with zeros. -/
def packWords (i : Nat) : List W32 → SMap W32
  | [] => []
  | w :: r => if w = 0 then packWords (i + 1) r else (i, w) :: packWords (i + 1) r

/-- Program words from pairs of words, the low one first. -/
def packProg (i : Nat) : List W32 → SMap W64
  | a :: b :: r => let w : W64 := b ++ a; if w = 0 then packProg (i + 1) r else (i, w) :: packProg (i + 1) r
  | [a] => if a = 0 then [] else [(i, a.setWidth 64)]
  | [] => []

/-- The memories that the words received so far fill, once the header is complete (R187). -/
def imageMems (ws : List W32) : Mems :=
  let im := imageOf ws
  let b := ws.drop 16
  let x := b.drop (2 * im.plen)
  let y := x.drop im.xlen
  let page := packWords 0 ((y.drop im.ylen).take im.pglen)
  { zeroMems with prog := packProg 0 (b.take (2 * im.plen)), x := packWords 0 (x.take im.xlen),
                  y := packWords 0 (y.take im.ylen), page0 := page, page1 := page }

/-- An image is refused (R188). -/
def State.imageRefused (s : State) (ws : List W32) : Bool :=
  let im := imageOf ws
  let bytes := bytesLE ws
  let n := bytes.length
  let key := (bytes.drop (n - 128)).take 64
  if im.signed then
    !(s.slotDue im.keyslot == some (sha256 key) && ecdsaVerify (sha256 (bytes.take (n - 64))) key (bytes.drop (n - 64)))
  else s.lcDue == lcDeployed

/-- The check of a signed image reads its slot (R188, R487). -/
def State.signRead (s : State) (ws : List W32) : State :=
  if (imageOf ws).signed then s.secureRead (slotAddr (imageOf ws).keyslot) 32 else s

/-- An instruction that checks an image's signature as condition number n of its table: where the ones before it hold none, the
slot is read first, and the checks meet what that leaves. -/
def checkedSigned (s : State) (ws : List W32) (n : Nat) (cs : State → List (Bool × Nat)) (act : State → Res) : Res :=
  let t := if (firstErr ((cs s).take n)).isNone then s.signRead ws else s
  checked t (cs t) (fun _ => act t)

/-! ## Loads (R189) -/

/-- The words received, the first first. -/
def Load.got (l : Load) : List W32 := l.words.reverse

/-- A load is complete; one that ends before its header never is (R189, log 161). -/
def Load.full (l : Load) : Bool := 4 * l.words.length == l.length && 16 ≤ l.words.length

/-- A DATA at an offset with n words breaks R189. -/
def Load.bars (l : Load) (ofs n : Nat) : Bool := ofs != 4 * l.words.length || l.length < ofs + 4 * n

/-- A load begins in a berth for a task. -/
def State.openLoad (s : State) (c t length : Nat) : State :=
  (s.emptyBerth c .loading).modCore c (fun k => { k with task := t, load := some { length := length, words := [] } })

/-- The code words of a berth's window that word i of an image's body completes: offsets and bytes (R168, R189). -/
def loadPlaces (im : Image) (i : Nat) : List (Nat × Nat) :=
  let p := 2 * im.plen
  if i < p then (if i % 2 = 1 then [(4 * (i - 1), 8)] else [])
  else if i < p + im.xlen then [(0x40000 + 4 * (i - p), 4)]
  else if i < p + im.xlen + im.ylen then [(0x80000 + 4 * (i - p - im.xlen), 4)]
  else
    let j := 4 * (i - p - im.xlen - im.ylen)
    [(0xC0000 + j, 4), (0xC1000 + j, 4)]

/-- Words that a load takes. -/
def State.takeWords (s : State) (c : Nat) (l : Load) (ws : List W32) : State :=
  let l1 : Load := { l with words := ws.reverse ++ l.words }
  let new := (List.range l1.words.length).filter (fun n => l.words.length ≤ n && 16 ≤ n)
  (s.modCore c (fun k => { k with load := some l1, mems := if 16 ≤ l1.words.length then imageMems l1.got else k.mems })).wroteAll
    (new.flatMap (fun n => (loadPlaces (imageOf l1.got) (n - 16)).map (fun e => (windowAddr c + e.1, e.2))))

/-- DATA into a berth whose load is open: a header that is complete and broken ends the load. -/
def loadData (s : State) (c : Nat) (l : Load) (ws : List W32) (drop : State → State) : Res :=
  let t := s.takeWords c l ws
  let all := l.got ++ ws
  if l.words.length < 16 && 16 ≤ all.length && !headerOk all l.length then ⟨erange, [], drop s⟩ else Res.ok t

/-- The load of a berth that holds a task in LOADING. -/
def State.loadOf (s : State) (c t : Nat) : Option Load :=
  let k := s.core c
  if k.state == .loading && k.task == t then k.load else none

/-! ## TASK (R200, R201) -/

/-- The task of operand 1. -/
def opTask (q : Req) : Nat := opf q 1 4 0

/-- A mooring does not own the task that operand 1 names. -/
def State.taskBarred (s : State) (q : Req) : Bool := given q 1 && !s.owns q.m ownTasks (opTask q)

/-- A berth in IDLE that nothing is mirrored into and that is not, or is not about to be, a spare. -/
def State.openIdle (s : State) (c : Nat) : Bool :=
  (s.core c).state == .idle && !s.incoming c && !s.designated c && !s.spareJoins c

/-- Such a berth whose memories are not being filled. -/
def State.restingIdle (s : State) (c : Nat) : Bool := s.openIdle c && !s.ferry.fills.contains c

/-- The error table of TASK OPEN. -/
def errsTaskOpen (q : Req) (ok : Bool) (s : State) : List (Bool × Nat) :=
  let t := opTask q
  [(!clsIn q [1, 2], eproto), (s.taskBarred q, eperm), (!shape ok q 2 || extra q 1 0x1F, erange),
   (!s.rdSIG t, enotready), (s.reserved t || !(s.openIdle t || (s.core t).state == .halted), estate),
   (s.marching (8 + t), ebusy)]

def execTaskOpen (q : Req) (s : State) : Out :=
  done s (runInsn 0x30 0 q s (fun pid ok s =>
    let t := opTask q
    checked s (errsTaskOpen q ok s) (fun _ =>
        let u := s.openLoad t t (opw q 2).toNat
        Res.ok ({ u with ferry := { u.ferry with fills := uniq (u.ferry.fills ++ [t]) } }.addWait pid (.fill t)))))

/-- The error table of TASK DATA. -/
def errsTaskData (q : Req) (ok : Bool) (s : State) : List (Bool × Nat) :=
  let t := opTask q
  let n := q.ops.length - 2
  let ofs := (opw q 2).toNat
  let fit := ok && 3 ≤ q.ops.length && q.ops.length ≤ 16386
  let l := s.loadOf t t
  [(!clsIn q [1, 2], eproto), (s.taskBarred q, eperm),
   (!fit || extra q 1 0x1F || l.any (fun l => l.bars ofs n), erange), (!s.rdSIG t, enotready),
   (l.isNone, estate)]

def execTaskData (q : Req) (s : State) : Out :=
  done s (runInsn 0x30 1 q s (fun _ ok s =>
    let t := opTask q
    let l := s.loadOf t t
    checked s (errsTaskData q ok s) (fun _ =>
      loadData s t (l.getD ⟨0, []⟩) (q.ops.drop 2) (fun u => u.setCore t (emptyCore .idle)))))

/-- The ranges of START: first slot and count. -/
def rangesOf (ws : List W32) : List (Nat × Nat) := ws.map (fun w => (bf w 29 16, bf w 13 0 + 1))

/-- The berth arms with its image and ranges. -/
def State.armTask (s : State) (t k : Nat) (ws : List W32) (rs : List (Nat × Nat)) : State :=
  s.modCore t (fun c => { c with state := .armed, image := imageOf ws, mems := imageMems ws, ranges := rs, load := none, start := k })

/-- The error table of TASK START. -/
def errsTaskStart (q : Req) (ok : Bool) (s : State) : List (Bool × Nat) :=
  let t := opTask q
  let rs := rangesOf (q.ops.drop 3)
  let fit := ok && 3 ≤ q.ops.length && q.ops.length ≤ 7
  let l := (s.loadOf t t).filter Load.full
  let ws := (l.map Load.got).getD []
  let start := s.startFrame (opw q 2) (opw q 3)
  [(!clsIn q [1, 2], eproto),
   (s.taskBarred q || (ok && rs.any (fun r => (rangeFrom r.1 r.2).any (fun i => i < 16384 && !s.owns q.m ownSlots i))),
    eperm),
   (!fit || extra q 1 0x1F || extra q 3 0x0FFFFFFF || (q.ops.drop 3).any (fun w => !within w 0x3FFF3FFF)
      || rs.any (fun r => 16384 < r.1 + r.2), erange),
   (!s.rdSIG t, enotready), (l.isSome && s.imageRefused ws, eauth), (start.isNone, etime), (l.isNone, estate),
   (s.ferry.fills.contains t, ebusy)]

def execTaskStart (q : Req) (s : State) : Out :=
  doneMem s (runInsn 0x30 2 q s (fun pid ok s =>
    let t := opTask q
    let rs := rangesOf (q.ops.drop 3)
    let l := (s.loadOf t t).filter Load.full
    let ws := (l.map Load.got).getD []
    let start := s.startFrame (opw q 2) (opw q 3)
    let k := start.getD 0
    checkedSigned s ws 4 (errsTaskStart q ok) (fun s =>
      Res.okP ((s.armTask t k ws rs).addWait pid (.taskStart t)) (frameWords k))))

/-- The berth that runs a task, or its home berth. -/
def State.taskBerth (s : State) (t : Nat) : Nat := (s.task t).berth

/-- The error table of TASK INFO. -/
def errsTaskInfo (q : Req) (ok : Bool) (s : State) : List (Bool × Nat) :=
  let c := s.taskBerth (opTask q)
  [(!clsIn q [1, 2, 3], eproto), (s.taskBarred q, eperm), (!shape ok q 1 || extra q 1 0x1F, erange),
   (!s.rdSIG c, enotready)]

def execTaskInfo (q : Req) (s : State) : Out :=
  done s (runInsn 0x30 3 q s (fun _ ok s =>
    let c := s.taskBerth (opTask q)
    checked s (errsTaskInfo q ok s) (fun _ =>
      Res.okP s [s.view (F.SCc_STAT c), s.view (F.SCc_FAULT c), s.view (F.SCc_CYCMAX c), s.view (F.SCc_IMG c)])))

/-! ## TSTOP (R198, R202) -/

/-- A completed TSTOP of a task waits for its edge. -/
def State.stopping? (s : State) (t : Nat) : Bool := s.ferry.stops.any (fun e => e.1 == t)

/-- The state in which a berth holds a task, with completed TSTOPs counted. -/
def State.heldState (s : State) (t : Nat) : Option Berth :=
  let k := s.core (s.taskBerth t)
  if k.task == t && !s.stopping? t && !(k.state == .loading && k.load.isNone) then some k.state else none

/-- A task is ARMED or ACTIVE. -/
def State.started (s : State) (t : Nat) : Bool := s.heldState t == some .armed || s.heldState t == some .active

/-- A load or a START that TSTOP abandons; a START's reply falls due with it. -/
def State.abandonLoad (s : State) (t : Nat) : State :=
  (s.modCore t (fun k => { k with state := .idle, load := none })).release (fun w => w == Wait.taskStart t)

/-- TSTOP: at once in LOADING and ARMED, else at the next stage edge or after the ferry. -/
def State.stopAsk (s : State) (pid t : Nat) (cut : Bool) : State :=
  if s.heldState t == some .loading || s.heldState t == some .armed then s.abandonLoad t
  else { s with ferry := { s.ferry with stops := s.ferry.stops ++ [(t, cut)] } }.addWait pid (.taskStop t)

/-- The error table of TSTOP. -/
def errsTstop (q : Req) (ok : Bool) (s : State) : List (Bool × Nat) :=
  let t := opTask q
  [(!clsIn q [0, 1, 2], eproto), (s.taskBarred q, eperm), (!shape ok q 1 || extra q 1 0x1F, erange),
   (!s.rdSIG (s.taskBerth t), enotready),
   (!(s.heldState t == some .loading || s.started t || (s.ferrying t && !s.stopping? t)), estate)]

def tstopAct (q : Req) (cut : Bool) (pid : Nat) (ok : Bool) (s : State) : Res :=
  let t := opTask q
  checked s (errsTstop q ok s) (fun _ => Res.ok (s.stopAsk pid t cut))

def execTstopFade (q : Req) (s : State) : Out := done s (runInsn 0x31 0 q s (tstopAct q false))
def execTstopCut (q : Req) (s : State) : Out := done s (runInsn 0x31 1 q s (tstopAct q true))

/-! ## TPARAM (R141 to R145, R191, R203) -/

/-- The first page word and the group of operand 1. -/
def opPage (q : Req) : Nat := opf q 1 25 16
def opGroup (q : Req) : Nat := opf q 1 31 28

/-- A page range passes the PGLEN of a started task. -/
def State.pageOver (s : State) (t first n : Nat) : Bool :=
  s.started t && (s.core (s.taskBerth t)).image.pglen < first + n

/-- Pending words of another group stand in the page (R143). -/
def State.pageOther (s : State) (t g : Nat) : Bool :=
  (s.core (s.taskBerth t)).mems.pendingIn (· != g)

/-- A staged TPARAM: words of another group that a completed DROP is to clear go first. -/
def State.pageStage (s : State) (t g w : Nat) (ws : List W32) : State :=
  s.onPages t (fun m => (if m.pendingIn (· != g) then m.dropPage else m).stage g w ws) [(0xC1000 + 4 * w, 4 * ws.length)]

/-- The error table of TPARAM WRITE. -/
def errsTparamWrite (q : Req) (ok : Bool) (s : State) : List (Bool × Nat) :=
  let t := opTask q
  let ws := q.ops.drop 1
  let fit := ok && 2 ≤ q.ops.length && q.ops.length ≤ 1025
  [(!clsIn q [0, 1, 2], eproto), (s.taskBarred q || (given q 1 && staged q && !s.owns q.m ownScenes (opGroup q)), eperm),
   (!fit || extra q 1 0xF3FF001F || groupBad q (opw q 1) || s.pageOver t (opPage q) ws.length, erange),
   (!s.rdSIG (s.taskBerth t), enotready),
   (!s.started t || (staged q && s.settled.pageOther t (opGroup q)), estate)]

def execTparamWrite (q : Req) (s : State) : Out :=
  done s (runInsn 0x32 0 q s (fun pid ok s =>
    let t := opTask q
    let ws := q.ops.drop 1
    checked s (errsTparamWrite q ok s) (fun _ =>
        if staged q then Res.ok (s.pageStage t (opGroup q) (opPage q) ws)
        else Res.ok (s.deferEdge pid [.tparam t (opPage q) ws]))))

/-- The error table of TPARAM READ. -/
def errsTparamRead (q : Req) (ok : Bool) (s : State) : List (Bool × Nat) :=
  let t := opTask q
  let c := s.taskBerth t
  let n := opf q 2 9 0 + 1
  let fit := shape ok q 2
  [(s.taskBarred q || (given q 1 && staged q && !s.owns q.m ownScenes (opGroup q)), eperm),
   (!fit || staged q || extra q 1 0x03FF001F || extra q 2 0x3FF || s.pageOver t (opPage q) n, erange),
   (!s.rdSIG c, enotready), (!s.started t, estate)]

/-- READ of the active or the inactive copy. -/
def tparamRead (q : Req) (active : Bool) (ok : Bool) (s : State) : Res :=
  let t := opTask q
  let c := s.taskBerth t
  let n := opf q 2 9 0 + 1
  checked s (errsTparamRead q ok s) (fun _ =>
      let base := 0x70000000 + c * 0x100000 + (if active then 0xC0000 else 0xC1000)
      reading s (wordAddrs (base + 4 * opPage q) n) 4 (fun s =>
        let m := (s.core c).mems
        Res.okP s ((rangeFrom (opPage q) n).map (lookD (if active then m.active else m.inactive) 0))))

def execTparamReadActive (q : Req) (s : State) : Out := done s (runInsn 0x32 1 q s (fun _ ok s => tparamRead q true ok s))
def execTparamReadInactive (q : Req) (s : State) : Out := done s (runInsn 0x32 2 q s (fun _ ok s => tparamRead q false ok s))

/-! ## FERRY (R251 to R258, R268 to R270) -/

/-- A ferry is queued or in progress (R252). -/
def State.ferryBusy (s : State) : Bool := s.ferry.cur.isSome || !s.ferry.queue.isEmpty

/-- The checks with which FERRY and TANDEM begin. -/
def State.ferryChecks (s : State) (q : Req) (cls : List Nat) (fit bad : Bool) : List (Bool × Nat) :=
  [(!clsIn q cls, eproto), (s.taskBarred q, eperm), (!fit || bad, erange), (!s.rdSIG (s.taskBerth (opTask q)), enotready)]

/-- A task runs on its home berth, and no move of it is under way. -/
def State.activeHome (s : State) (t : Nat) : Bool :=
  s.heldState t == some .active && s.taskBerth t == t && (s.task t).move.isNone

/-- The berth of operand 1, bits [12:8]. -/
def opBerth (q : Req) : Nat := opf q 1 12 8

/-- UOPEN: the target loads, and shadows in it are assigned again. -/
def State.updOpen (s : State) (t b length : Nat) : State :=
  ((s.openLoad b t length).modTask t (fun r => { r with upd := 1, updBerth := b })).loseSpare b 32

/-- The error table of FERRY UOPEN. -/
def errsFerryUopen (q : Req) (ok : Bool) (s : State) : List (Bool × Nat) :=
  let t := opTask q
  let b := opBerth q
  s.ferryChecks q [1, 2] (shape ok q 2) (extra q 1 0x1F1F || b == s.taskBerth t) ++
   [(!s.available b || s.spareLeaves b || !s.activeHome t || s.paired t || !(s.core t).image.ferryok, estate),
    (all32.any (fun k => (s.task k).upd == 1 || (s.task k).upd == 2), ebusy)]

def execFerryUopen (q : Req) (s : State) : Out :=
  done s (runInsn 0x33 0 q s (fun _ ok s =>
    let t := opTask q
    let b := opBerth q
    checked s (errsFerryUopen q ok s) (fun _ => Res.ok (s.updOpen t b (opw q 2).toNat))))

/-- The open update's load. -/
def State.updLoad (s : State) (t : Nat) : Option Load :=
  if (s.task t).upd = 1 then s.loadOf (s.task t).updBerth t else none

/-- The error table of FERRY UDATA. -/
def errsFerryUdata (q : Req) (ok : Bool) (s : State) : List (Bool × Nat) :=
  let t := opTask q
  let ofs := (opw q 2).toNat
  let fit := ok && 3 ≤ q.ops.length && q.ops.length ≤ 16386
  let l := s.updLoad t
  s.ferryChecks q [1, 2] fit
   (extra q 1 0x1F || l.any (fun l => l.bars ofs (q.ops.length - 2))) ++ [(l.isNone, estate)]

def execFerryUdata (q : Req) (s : State) : Out :=
  done s (runInsn 0x33 1 q s (fun _ ok s =>
    let t := opTask q
    let b := (s.task t).updBerth
    let l := s.updLoad t
    checked s (errsFerryUdata q ok s) (fun _ => loadData s b (l.getD ⟨0, []⟩) (q.ops.drop 2)
        (fun u => (u.modTask t (fun r => { r with upd := 0 })).clearBerth b))))

/-- The new image fits the running one (R258). -/
def Image.fits (a b : Image) : Bool :=
  a.ferryok && b.ferryok && a.layout == b.layout && a.xsbase == b.xsbase && a.xslen == b.xslen && a.ysbase == b.ysbase
  && a.yslen == b.yslen && a.pglen == b.pglen

/-- UCOMMIT: the mirror into the target starts. -/
def State.updCommit (s : State) (t k : Nat) (ws : List W32) : State :=
  let b := (s.task t).updBerth
  let u := s.modCore b (fun c => { c with image := imageOf ws, mems := imageMems ws, load := none })
  (u.startMove t .update b k false).modTask t (fun r => { r with upd := 2 })

/-- The error table of FERRY UCOMMIT. -/
def errsFerryUcommit (q : Req) (ok : Bool) (s : State) : List (Bool × Nat) :=
  let t := opTask q
  let l := (s.updLoad t).filter Load.full
  let ws := (l.map Load.got).getD []
  let start := s.startFrame (opw q 2) (opw q 3)
  s.ferryChecks q [1, 2] (shape ok q 3) (extra q 1 0x1F || extra q 3 0x0FFFFFFF) ++
   [(l.isSome && s.imageRefused ws, eauth), (start.isNone, etime),
    (l.isNone || !s.activeHome t || !(imageOf ws).fits (s.core t).image, estate), (!s.ferry.queue.isEmpty, ebusy)]

def execFerryUcommit (q : Req) (s : State) : Out :=
  doneMem s (runInsn 0x33 2 q s (fun pid ok s =>
    let t := opTask q
    let l := (s.updLoad t).filter Load.full
    let ws := (l.map Load.got).getD []
    let start := s.startFrame (opw q 2) (opw q 3)
    checkedSigned s ws 4 (errsFerryUcommit q ok) (fun s =>
      Res.okP ((s.updCommit t (start.getD 0) ws).addWait pid (.ferry t)) (payloadOpen t))))

/-- The error table of FERRY CANCEL. -/
def errsFerryCancel (q : Req) (ok : Bool) (s : State) : List (Bool × Nat) :=
  let t := opTask q
  let r := s.task t
  s.ferryChecks q [1, 2] (shape ok q 1) (extra q 1 0x1F) ++
   [(!(r.upd == 1 || (r.upd == 2 && r.move.any (fun m => m.handed.isNone))), estate)]

/-- CANCEL before the handover edge: the target is filled. -/
def execFerryCancel (q : Req) (s : State) : Out :=
  done s (runInsn 0x33 3 q s (fun pid ok s =>
    let t := opTask q
    let r := s.task t
    checked s (errsFerryCancel q ok s) (fun _ => Res.ok ((s.cancelUpdate t 0).addWait pid (.fill r.updBerth)))))

/-- A task is away (R251). -/
def State.away (s : State) (t : Nat) : Bool := s.heldState t == some .active && s.taskBerth t != t

/-- The return of an away task starts where R252 lets it. -/
def State.startReturn (s : State) (t : Nat) : State :=
  if s.away t && s.restingIdle t && (s.task t).move.isNone && !s.ferryBusy && s.rdSIG t then s.startMove t .home t 0 false
  else s

/-- REVERT: the rest of the hold is skipped. -/
def State.revert (s : State) (t : Nat) : State :=
  (s.modTask t (fun r => { r with rvwait := r.move.isNone, holdLeft := 0 })).startReturn t

/-- The error table of FERRY REVERT. -/
def errsFerryRevert (q : Req) (ok : Bool) (s : State) : List (Bool × Nat) :=
  let t := opTask q
  let home := (s.task t).move.any (fun m => m.kind == .home)
  s.ferryChecks q [1, 2] (shape ok q 1) (extra q 1 0x1F) ++ [(!s.away t || !(home || s.restingIdle t), estate)]

def execFerryRevert (q : Req) (s : State) : Out :=
  done s (runInsn 0x33 4 q s (fun pid ok s =>
    let t := opTask q
    checked s (errsFerryRevert q ok s) (fun _ => Res.ok ((s.revert t).addWait pid (.ferry t)))))

/-- The error table of FERRY DRILL. -/
def errsFerryDrill (q : Req) (ok : Bool) (s : State) : List (Bool × Nat) :=
  let t := opTask q
  let r := s.task t
  s.ferryChecks q [1, 2] (shape ok q 1) (extra q 1 0x1F) ++
   [(!(s.heldState t == some .active && r.sh == .ready && !s.spareLeaves r.shBerth && r.move.isNone), estate), (!s.ferry.queue.isEmpty, ebusy)]

def execFerryDrill (q : Req) (s : State) : Out :=
  done s (runInsn 0x33 5 q s (fun pid ok s =>
    let t := opTask q
    let r := s.task t
    checked s (errsFerryDrill q ok s) (fun _ => Res.ok ((s.startMove t .drill r.shBerth 0 false).addWait pid (.ferry t)))))

/-- The error table of FERRY INFO. -/
def errsFerryInfo (q : Req) (ok : Bool) (s : State) : List (Bool × Nat) :=
  s.ferryChecks q [1, 2, 3] (shape ok q 1) (extra q 1 0x1F)

def execFerryInfo (q : Req) (s : State) : Out :=
  done s (runInsn 0x33 6 q s (fun _ ok s =>
    let t := opTask q
    checked s (errsFerryInfo q ok s) (fun _ => Res.okP s [s.view (F.SC_TFt t), s.view (F.SC_TFt_HOLD t), s.view F.SC_FSTAT])))

/-! ## TANDEM (R259 to R262) -/

/-- The error table of TANDEM ON. -/
def errsTandemOn (q : Req) (ok : Bool) (s : State) : List (Bool × Nat) :=
  let t := opTask q
  let p := opBerth q
  let fit := shape ok q 3
  let start := s.startFrame (opw q 2) (opw q 3)
  [(!clsIn q [1, 2], eproto), (s.taskBarred q || (ok && given q 1 && !s.owns q.m ownTasks p), eperm),
   (!fit || extra q 1 0x1F1F || extra q 3 0x0FFFFFFF || p == s.taskBerth t, erange),
   (!s.rdSIG (s.taskBerth t) || !s.rdSIG p, enotready), (start.isNone, etime),
   (!s.restingIdle p || s.designated p || s.reserved p || !s.activeHome t || s.paired t, estate)]

def execTandemOn (q : Req) (s : State) : Out :=
  done s (runInsn 0x34 0 q s (fun pid ok s =>
    let t := opTask q
    let p := opBerth q
    let start := s.startFrame (opw q 2) (opw q 3)
    checked s (errsTandemOn q ok s) (fun _ =>
      Res.okP ((s.startMove t .join p (start.getD 0) false).addWait pid (.tandem t)) (payloadOpen t))))

/-- The error table of TANDEM OFF. -/
def errsTandemOff (q : Req) (ok : Bool) (s : State) : List (Bool × Nat) :=
  let t := opTask q
  s.ferryChecks q [1, 2] (shape ok q 1) (extra q 1 0x1F) ++ [(!s.paired t, estate)]

def execTandemOff (q : Req) (s : State) : Out :=
  done s (runInsn 0x34 1 q s (fun pid ok s =>
    let t := opTask q
    checked s (errsTandemOff q ok s) (fun _ =>
      Res.ok ({ s with ferry := { s.ferry with unpair := s.ferry.unpair ++ [t] } }.addWait pid .edge))))

/-- The error table of TANDEM INFO. -/
def errsTandemInfo (q : Req) (ok : Bool) (s : State) : List (Bool × Nat) :=
  s.ferryChecks q [1, 2, 3] (shape ok q 1) (extra q 1 0x1F)

/-- INFO: the third word of a task without a follower is free (log 7). -/
def execTandemInfo (q : Req) (s : State) : Out :=
  done s (runInsn 0x34 2 q s (fun _ ok s =>
    let t := opTask q
    let two := [s.view (F.SC_TFt t), s.view (F.SCc_STAT (s.taskBerth t))]
    checked s (errsTandemInfo q ok s) (fun _ => match (s.task t).partner with
        | some p => Res.okP s (two ++ [s.view (F.SCc_STAT p)])
        | none => Res.okP s.draw.2 (two ++ [Config.freeWord s.draw.1]))))

/-! ## SPARE (R235, R236, R252) -/

/-- The designation that stands once every completed SET has acted. -/
def State.spareDue (s : State) : W32 := s.ferry.spareSet.getD (s.reg F.SC_SPARE)

/-- A berth that SET would designate is not IDLE, or one it would release is not STANDBY (R236). -/
def State.spareBars (s : State) (mask : W32) : Bool :=
  let now := s.reg F.SC_SPARE
  let due := s.spareDue
  all32.any (fun b =>
    if mask.getLsbD b && !due.getLsbD b then !(now.getLsbD b || (s.restingIdle b && !s.reserved b))
    else if due.getLsbD b && !mask.getLsbD b then !(!now.getLsbD b || s.available b)
    else false)

/-- The error table of SPARE SET. -/
def errsSpareSet (q : Req) (ok : Bool) (s : State) : List (Bool × Nat) :=
  let mask := opw q 1
  [(!clsIn q [1, 2], eproto), (ok && q.m != 0, eperm), (!shape ok q 1 || 4 < ones mask, erange),
   ((bitsOf (mask ^^^ s.spareDue) 32).any (fun b => !s.rdSIG b), enotready), (s.spareBars mask, estate)]

def execSpareSet (q : Req) (s : State) : Out :=
  done s (runInsn 0x35 0 q s (fun pid ok s =>
    let mask := opw q 1
    checked s (errsSpareSet q ok s) (fun _ =>
      Res.ok ({ s with ferry := { s.ferry with spareSet := some mask } }.addWait pid .spares))))

/-- The error table of SPARE HOLD. -/
def errsSpareHold (q : Req) (ok : Bool) : List (Bool × Nat) :=
  let n := opf q 1 9 0
  [(!clsIn q [1, 2], eproto), (ok && q.m != 0, eperm), (!shape ok q 1 || extra q 1 0x3FF || n == 0 || 600 < n, erange)]

def execSpareHold (q : Req) (s : State) : Out :=
  done s (runInsn 0x35 1 q s (fun _ ok s =>
    let n := opf q 1 9 0
    checked s (errsSpareHold q ok) (fun _ => Res.ok (s.setFld F.SC_FERRY_HOLD_HOLD n))))

/-- The error table of SPARE INFO. -/
def errsSpareInfo (q : Req) (ok : Bool) : List (Bool × Nat) :=
  [(!clsIn q [1, 2, 3], eproto), (!shape ok q 0, erange)]

def execSpareInfo (q : Req) (s : State) : Out :=
  done s (runInsn 0x35 2 q s (fun _ ok s =>
    checked s (errsSpareInfo q ok) (fun _ => Res.okP s [s.view F.SC_SPARE, s.view F.SC_FERRY_HOLD, s.view F.SC_FSTAT])))

end Sys2Proof.Machine
end

