-- ==== Sys2Proof/Machine/Sample.lean ====
section
/-! DEFINITION. Machine/Sample.lean: a media sample period (R22, R51): the time counter, ports, limiters, gangway, stream contexts,
and what falls at frame boundaries. -/

namespace Sys2Proof.Machine

/-- The time counter counts: PD5 is ON and D4 runs on the root, locked or coasting (R391, R450, R564). -/
def State.counting (s : State) : Bool :=
  !s.pwr.por && !s.pwr.held && s.pd 5 == 0 && (s.on F.PLL0_STAT_LOCK || s.on F.PLL0_STAT_COAST)

/-- After d4 cycles, and not before, the counter is in another period (R392). A time step can put it there at once. -/
def State.periodBegins (s : State) (d4 : Nat) : Bool :=
  msiOf s.rate (s.countTo d4) != s.msi && (d4 == 0 || msiOf s.rate (s.countTo (d4 - 1)) == s.msi)

/-- A stage edge falls at the start of the period in progress and has not passed (R25). -/
def State.edgeDue (s : State) : Bool := s.msi % 16 == 2 && s.tt.edge.isNone && !s.rateStopped

/-- A zero-crossing wait has met its N words, and its time-out comes before the next word (R408); a rate change pauses it (R437). -/
def State.zcDue (s : State) : Bool := !s.rateStopped && s.ports.waits.any (fun w => w.from_.isSome && !w.now && s.zcWords ≤ w.tested)

/-- The words of a master group's input channels, from their slots' bits; none while the TAP holds the balls (R416, R565). -/
def State.masterIns (s : State) (words : List (Nat × W32)) : List (Nat × W24) :=
  if s.tapHolds then []
  else words.filterMap (fun e =>
    let g := s.fld (F.TDMl_ICFG_GROUP (e.1 / 32))
    if e.1 < 512 && s.on (F.TDMg_GCFG_MASTER g) then some (e.1, slotIn (s.fld (F.TDMg_GCFG_SW g)) e.2) else none)

/-- The counter and the period it is in, with the words that its input points present; a jump leaves no captured words for the
periods between. -/
def State.tick (s : State) (d4 : Nat) (words : List (Nat × W32)) : State :=
  let n := msiOf s.rate (s.countTo d4)
  let held := if n = s.msi + 1 then s.ports.caught.take 2 else []
  let s := if s.rateStopped then s else s.streamScan n
  let net := if s.rateStopped then [] else s.netWords n
  { s with time := { s.time with t48 := s.countTo d4 }, msi := n, tt := { s.tt with edge := none }, deck := { s.deck with held := none },
           ports := { s.ports with caught := (s.masterIns words).foldl (fun m e => ins m e.1 e.2) net :: held } }

/-- The validity of the IN buffers of a frame goes as its capture begins (R27, R28); the compute stage that ends at the
same edge keeps its words. -/
def State.clearIns (s : State) : State :=
  if s.msi % 16 = 2 then
    let t := s.deckClear (s.msi / 16) (· == .inp)
    { t with deck := { t.deck with held := some s.deck.words } }
  else s

/-- Receive contexts whose last word has passed, and transmit contexts with no packet left (R383). -/
def State.ctxEnds (s : State) : State :=
  s.net.ctxs.foldl (fun t e =>
    match e.2.stop with
    | none => t
    | some (x, cut) =>
      if !e.2.run then t
      else if e.2.tx then (if e.2.ended e.2.next then t.endCtx e.1 e.2 else t)
      else if (if cut then x else x + e.2.fade) + 1 ≤ t.msi then t.endCtx e.1 e.2 else t) s

/-- The groups that have slipped: master groups on a coasting MPLL (R457). -/
def State.masterSlips (s : State) (gs : List (Fin 4)) : State :=
  gs.foldl (fun t g =>
    if t.on F.MPLL_STAT_COAST && t.on (F.TDMg_GCFG_EN g.val) && t.on (F.TDMg_GCFG_MASTER g.val) then t.slip g.val t.msi else t) s

/-- The gangway takes its registers at a frame boundary of the output point (R63). -/
def State.gwBoundary (s : State) : State :=
  if s.msi % 16 = 6 then (s.gwLoad.gwCheck).release (fun w => w == Wait.gangway) else s

/-- A frame begins: no copy of the gangway has sent a FAULT in it (R265). -/
def State.gwFrame (s : State) : State :=
  if s.msi % 16 = 0 then { s with ports := { s.ports with gwFault := [] } } else s

/-- The gangway and the output channels of a period (R21, R57 to R62). -/
def State.outputs (s : State) (ups : List GwUpset) : State :=
  let g := s.gwFrame.gwBoundary.gwSample ups
  (g.1.gwOverrides g.2.1 g.2.2).outPeriod g.2.1

/-- The holds of R252 and R262 run on; their unit is a D4 cycle. -/
def State.holdTick (s : State) (d4 : Nat) : State :=
  all32.foldl (fun t k => if (t.task k).holdLeft = 0 then t else t.modTask k (fun r => { r with holdLeft := r.holdLeft - d4 })) s

/-- The limiters whose change has taken effect (R55). -/
def State.limReplies (s : State) : State :=
  s.release (fun w => match w with
    | .limiter n => (s.outCh (chanOfLim n)).calm
    | _ => false)

/-- A frame boundary (R265, R456, R469). -/
def State.frameStart (s : State) : State :=
  if s.msi % 16 = 0 then
    s.mclkEdge.realignEdge (s.msi / 16)
  else s

/-- What the units do in a period. -/
def State.period (s : State) (sp : SampleIn) : State :=
  let t := ((List.range 4).foldl State.grpMissed (s.masterSlips sp.slips)).clearIns.inPeriod
  let t := (t.txBlocks.outputs sp.upsets).ctxEnds
  ((((List.range 4).foldl State.grpPeriod t).frameStart).limReplies.sendWaiting false).sendWaiting true

/-! ## A rate change stops the engine (R331) -/

/-- The ports, the deck and the stream plane stop; what the output queues hold stays. -/
def State.portsStop (s : State) : State :=
  let t := { s with deck := { s.deck with words := [], held := none },
                    ports := { s.ports with caught := [], ins := [], asrcSeen := [], wires := [],
                                            aes := s.ports.aes.map (fun x => { x with starts := [] }) },
                    net := { s.net with bank := [] }, ecc := { s.ecc with held := [] } }
  (List.range 4).foldl (fun t g =>
    let u := t.setGrp g { t.grp g with good := 0, bad := 0, at_ := none, periods := [], got := [], slip := none, dryLeft := 0 }
    if t.on (F.TDMg_GCFG_EN g) && !t.on (F.TDMg_GCFG_MASTER g) then u.setGrpState g 1 else u) t

/-- A running context at a new rate and index (R403, log 53): a started one has faded in; a stop under way ends; a payload that
is now too long stops it with OVERSZ. -/
def State.reRateCtx (s : State) (old : Nat) (k : Nat) (c : Ctx) : State :=
  let n := spp s.rate c.ptime
  let c1 := { c with first := if c.first ≤ old then 0 else c.first, pathA := none, pathB := none,
                     gone := [], next := ceilDiv (if c.first ≤ old then s.msi else max s.msi c.first) n * n }
  if !c.run then s.setCtx k c1
  else if c.stop.isSome then s.endCtx k c1
  else if 1440 < c.bytes s.rate then (s.endCtx k { c1 with stopReq := none }).setFld (F.STRMn_STAT_OVERSZ k) 1
  else s.setCtx k c1

/-- The periods in which words that stand in an output queue at a stage edge still leave, under the largest lookahead (R52). -/
def queuePeriods : Nat := 36

/-- Step 2: the ports stop, and the words queued at the outputs, the faded ones last, leave at the old rate (log 128). -/
def State.rateStop (s : State) (c : RateChange) : State :=
  let t := { s.portsStop with tt := { s.tt with staged := false, edge := none },
                              rateChange := some { c with step := .draining, at_ := s.time.t48, left := queuePeriods } }
  t.sceneRate.dramRate

/-- Step 3. -/
def State.rateTurn (s : State) (c : RateChange) : State :=
  let now := msiOf c.target s.time.t48
  let outs := s.ports.outs.map (fun e => (e.1, { e.2 with frames := [], a := 0, rateFade := none }))
  let t := { s with rate := c.target, msi := now, net := { s.net with txWords := [] },
                    ports := { s.ports with outs := outs, wires := [] }, rateChange := some { c with step := .stopped, left := 0 } }
  (s.net.ctxs.foldl (fun u e => u.reRateCtx s.msi e.1 e.2) t).mpllSelect.refRate

/-- A period between steps 2 and 4: the output queues empty, and then the rate turns. -/
def State.rateIdle (s : State) : State :=
  match s.rateChange with
  | some c =>
    if c.step = .draining then
      let c := { c with left := c.left - 1 }
      let t := { s.outPeriod [] with rateChange := some c }
      if c.left = 0 then t.rateTurn c else t
    else s
  | none => s

/-- The first frame boundary at least 2 ms after step 2 has come (R331, step 4). -/
def State.restartDue (s : State) : Bool :=
  match s.rateChange with
  | some c => c.step == .stopped && s.msi % 16 == 0 && decide (c.at_ + 2000000 * 2 ^ 48 ≤ s.time.t48)
  | none => false

/-- The logic self-test follows the march of a berth in TESTING (R250). -/
def State.marchEnds (s : State) (l : List (Fin 32)) : State :=
  l.foldl (fun t c => if (t.core c.val).state == .testing then t.setFld (F.SCc_TEST_STEP c.val) 2 else t) s

/-- SAMPLE_PERIOD. It follows the stage edge, the time-outs and the restart that fall in the period before it. -/
def execSamplePeriod (sp : SampleIn) (s : State) : Out :=
  done s (if !s.counting || s.edgeDue || s.zcDue || s.restartDue || !s.periodBegins sp.d4 then s
    else
      let t := ((s.selTick.tick sp.d4 sp.ins).holdTick sp.d4).marchEnds sp.marched
      if t.rateStopped then t.rateIdle else t.period sp)

/-- The wait of a channel has met N words without a crossing: the change applies to the next word (R408). -/
def State.zcTimeout (s : State) (out : Bool) (chan : Nat) : State :=
  match s.ports.waits.find? (fun w => w.out == out && w.chan == chan) with
  | none => s
  | some w =>
    match w.from_ with
    | none => s
    | some f =>
      if w.now || s.rateStopped || w.tested < s.zcWords then s
      else
        let n := f + w.tested
        (s.applyWait w).noticeIf nZCTIMEOUT
          [flag w.run 17 ||| flag out 16 ||| at32 chan 0, lo32 n, hi32 n] (fun m => s.ownsChan m out chan)

def execZcTimeout (output : Bool) (chan : Nat) (s : State) : Out := done s (s.zcTimeout output chan)

end Sys2Proof.Machine
end

