-- ==== Sys2Proof/Machine/Edge.lean ====
section
/-! DEFINITION. Machine/Edge.lean: a stage edge: the end of the compute stage in progress, deferred effects, the start of the next
stage, the playout stage, rate changes and ENGINE resets (R25, R27, R36, R38, R42, R49, R191, R316, R331, R362, R552). -/

namespace Sys2Proof.Machine

/-! ## The compute stage ends -/

/-- SC phases that have not completed are forced (R42). -/
def State.forceAll (s : State) : State :=
  s.tt.numbered.foldl (fun t e =>
    if e.1.unit == .sc && !t.phaseComplete e.1 e.2 then t.forcePhase e.1 e.2 else t) s

/-- A PN phase that has not completed is stopped: the spans that have finished by the edge keep their words (R127). The
residue events of the phase in progress are ups. -/
def State.cutPn (s : State) (ups : List PnUpset) : State :=
  s.tt.numbered.foldl (fun t e =>
    if e.1.unit == .pn && !t.tt.done.contains e.2 then
      let began := look t.tt.startAt e.2
      (t.setFld F.PN_STAT_CUT 1).pnPhase e.1.arg (began.getD t.stageLen) t.stageLen (if began.isSome then ups else [])
    else t) s

/-- An XM phase that has not completed is stopped after some destinations; its ramps end their advance (R593). -/
def State.cutXm (s : State) (written : Nat) : State :=
  let s := s.tt.numbered.foldl (fun t e =>
    if e.1.unit.isXm && !t.tt.done.contains e.2 then
      let two := e.1.unit == .xm2
      let u := match t.xm.job with
        | some j => if j.phase = e.2 then t.xmRun two j.src written [] else t.xmPass two
        | none => t.xmPass two
      u.setFld F.XM_STAT_CUT 1
    else t) s
  { s with xm := { s.xm with job := none, mute := false } }

/-- A configured stage of the matrix has no phase in the active timetable (R87). -/
def State.xmLacks (s : State) (two : Bool) : Bool :=
  s.nsrc two * s.ndst two != 0 && !s.tt.active.any (fun p => p.unit == (if two then .xm2 else .xm1))

/-- The ramp-only passes, at the edge that starts the compute stage (R87). -/
def State.rampOnly (s : State) : State :=
  let t := if s.xmLacks false then s.xmPass false else s
  if s.xmLacks true then t.xmPass true else t

/-- What the matrix shows of the frame whose stage ends: whether a ramp-only pass ran, and the ramps that still run. -/
def State.xmEnd (s : State) : State :=
  let t := s.setFld F.XM_STAT_RONLY (if s.xmLacks false || s.xmLacks true then 1 else 0)
  t.setFld F.XM_STAT_RAMPS (t.xm.entries.filter (fun e => e.2.run)).length

/-- The glides of the sections that did not run, and what the array shows of the frame (R122, R125). -/
def State.pnEnd (s : State) : State :=
  let ran := s.tt.numbered.filter (fun e => e.1.unit == .pn && (look s.tt.startAt e.2).isSome)
  let load := ran.foldl (fun n e => n + s.tt.durs.getD e.2 0) 0
  let t := (s.setFld F.PN_LOAD_LOAD (min (2 ^ 20 - 1) load)).pnEdge
  t.setFld F.PN_STAT_GLIDES (min 65535 (t.pn.sections.filter (fun e => e.2.run)).length)

/-- Posted writes of stopped cores, and of cores whose FRAME is about to return, reach the deck (R180, R194). -/
def State.drainEnd (s : State) : State :=
  all32.foldl (fun t c =>
    if (t.core c).wait == some .frame || (t.core c).state != .active then t.drain c t.stageLen else t) s

/-- Repeats and fades that have not ended keep the words they have written, counted in part in the order they are owed, and no
others (R243, R244). -/
def State.patchesCut (s : State) (part : List Nat) : State :=
  if s.ferry.patches.isEmpty then s
  else
    let t := (s.ferry.patches.zip (part ++ List.replicate s.ferry.patches.length 0)).foldl (fun t e => t.patchPart e.1 e.2) s
    { t with ferry := { t.ferry with patches := [] } }.setFld F.SC_FSTAT_RCUT 1

/-- The ferries that have missed a second frame have the fade in it (R246, R247). -/
def State.missedFades (s : State) : State :=
  let fade := fun (t : State) (j : FerryJob) =>
    if !j.faded && !j.resumed && t.tt.frame = j.frame + 1 then t.fadeInto t.tt.frame j.slots else t
  let mark := fun (j : FerryJob) => if s.tt.frame = j.frame + 1 then { j with faded := true } else j
  let t := (s.ferry.cur.toList ++ s.ferry.queue).foldl fade s
  { t with ferry := { t.ferry with cur := t.ferry.cur.map mark, queue := t.ferry.queue.map mark } }

/-- The slots that the tasks have written become those of the last complete stage (R199), and frames that run on have used the
stage's cycles (R183). -/
def State.coresEnd (s : State) : State :=
  let n := s.stageLen
  all32.foldl (fun t c =>
    let k := t.core c
    if k.state == .active then
      t.setCore c { k with wsetPrev := k.wset, wset := [], merge := [], ran := k.ran + n, next := k.next - n,
                           ready := (k.ready.filter (fun e => n < e.2)).map (fun e => (e.1, e.2 - n)) }
    else t) s

/-- A meter point takes the words of its slot in a frame (R348). -/
def State.meterTake (s : State) (n : Nat) (m : Meter) (frame : Nat) : State :=
  let t := s.deckScan m.slot frame none
  let peak := (t.deckWords m.slot frame).foldl (fun p w => max p (min 0x7FFFFFFF w.toInt.natAbs)) m.peak.toNat
  { t with meters := ins t.meters n { m with peak := BitVec.ofNat 32 peak } }

/-- The meter points of the slots whose frame is complete: IN slots after capture, WORK and OUT slots after compute. -/
def State.metersTake (s : State) (ins_ : Bool) (frame : Nat) : State :=
  s.meters.foldl (fun t e =>
    let k := t.kind e.2.slot
    if e.2.en && k != .free && (k == .inp) == ins_ then t.meterTake e.1 e.2 frame else t) s

/-- The compute stage in progress ends. -/
def State.stageEnds (s : State) (i : EdgeIn) : State :=
  if !s.tt.staged then s
  else
    let t := (((s.forceAll.cutPn i.upsets).cutXm i.xmWritten).xmEnd).pnEnd
    let t := (t.drainEnd.patchesCut i.patched).missedFades
    (t.metersTake false t.tt.frame).coresEnd

/-! ## The playout stage begins (R51, R55, R388, R389) -/

/-- The slot that a feed takes its words from. -/
def State.feedSlot (s : State) (ch : Nat) (f : Feed) : Option Nat :=
  match f with
  | .slot n => some n
  | _ => look s.deck.outBind ch

/-- The words of a feed for a frame. -/
def State.feedWords (s : State) (ch frame : Nat) (f : Feed) : List W32 :=
  match s.feedSlot ch f with
  | some n => s.deckWords n frame
  | none => []

/-- The feed of an output channel: a network channel may take a zone's. -/
def State.chanFeed (s : State) (ch : Nat) : Feed := if ch / 4096 = 2 then s.feedOf (ch % 4096) else .own

/-- An output channel takes a frame. -/
def State.playChan (s : State) (frame ch : Nat) : State :=
  let new := s.chanFeed ch
  let old := if ch / 4096 = 2 then lookD s.net.feeds .own (ch % 4096) else .own
  let t := match s.feedSlot ch new with
    | some n => s.deckScan n frame none
    | none => s
  let p : PlayFrame := { frame := frame, feed := new, words := t.feedWords ch frame new,
                         oldFeed := if old = new then none else some old,
                         oldWords := if old = new then [] else t.feedWords ch frame old }
  let t := t.modOut ch (fun o => { o with frames := (p :: o.frames).take 6 })
  if ch / 4096 = 2 then { t with net := { t.net with feeds := insD t.net.feeds .own (ch % 4096) new } } else t

/-- The channels that play out: bound ones, and those of valid zone entries. -/
def State.playChans (s : State) : List Nat :=
  uniq (s.deck.outBind.map (·.1) ++ (s.net.zones.filter (fun e => e.2.valid)).map (fun e => 8192 + e.2.chan)
    ++ s.net.feeds.map (fun e => 8192 + e.1))

/-- The playout stage of a frame begins; fade says that every channel fades in it (R331, R552). -/
def State.playout (s : State) (frame : Nat) (fade : Bool) : State :=
  let t := s.playChans.foldl (fun t ch => t.playChan frame ch) s
  let f := fun (o : OutCh) =>
    let o := o.atEdge frame
    if fade then { o with rateFade := some frame } else o
  { t with ports := { t.ports with outs := t.ports.outs.map (fun e => (e.1, f e.2)) } }

/-! ## Stops, spares, returns, starts -/

/-- Berths whose bit another takes in the masks (R261), and the followers that TANDEM OFF removes, a rejoin under way with them
(R262). -/
def State.pairsEdge (s : State) : State :=
  let t := s.ferry.maskMoves.foldl (fun t e => t.moveMasks e.1 e.2) s
  let t := t.ferry.unpair.foldl (fun t k =>
    match (t.task k).partner with
    | some p =>
      let t := if (t.task k).move.any (fun m => m.kind == .join && m.handed.isNone) then t.cancelMove k 0 else t
      let u := t.modTask k (fun r => r.unpaired k)
      if (t.task k).solo then u else u.clearBerth p
    | none => t) t
  { t with ferry := { t.ferry with maskMoves := [], unpair := [] } }

/-- FRAME returns at the edge that starts the compute stage of a frame, with SCSR as R172 gives it for the stage. -/
def State.frameReturn (s : State) (c frame : Nat) : State :=
  let k := s.core c
  if k.state != .active then s
  else
    let k := { k with regs := { k.regs with pgflip := false, ferried := false, rate := s.rate } }
    s.setCore c (if k.wait == some .frame then { k with wait := none, next := 2, ran := 0, stall := 0, frame := frame } else k)

/-- The TSTOPs that waited: one whose task a ferry moves waits on; one whose task has stopped otherwise has nothing to stop
(R198). -/
def State.stopsEdge (s : State) (frame : Nat) : State :=
  s.ferry.stops.foldl (fun t e =>
    if t.ferrying e.1 then t
    else
      let u := { t with ferry := { t.ferry with stops := t.ferry.stops.erase e } }.release (fun w => w == Wait.taskStop e.1)
      if t.taskRuns e.1 then u.stopTask e.1 frame e.2 else u) s

/-- The fault ferry whose copy has ended resumes its task (R246). -/
def State.resumeCopied (s : State) : State :=
  match s.ferry.cur with
  | some j => if j.copied then (s.resume j none).ferried j else s
  | none => s

/-- Ferry i of those in progress and queued, in order, resumes its task: its copy, which starts once the journal has been applied
(R245), will end by cycle M of the stage that begins. -/
def State.resumeAhead (s : State) (i : Nat) : State :=
  let l := s.ferry.cur.toList ++ s.ferry.queue
  match l[i]? with
  | some j =>
    if j.resumed || (s.task j.task).sh != .ready then s
    else
      let u := s.modTask j.task TaskRec.applied
      let t := (u.copyInto j).resume j (some .copy)
      { t with ferry := { t.ferry with cur := t.ferry.cur.map (fun k => if k = j then { k with resumed := true } else k),
                                       queue := t.ferry.queue.map (fun k => if k = j then { k with resumed := true } else k) } }
  | none => s

/-- The fault ferries that resume their tasks at an edge: one whose copy has ended, and the first n of the others (R246). -/
def State.resumeEdge (s : State) (n : Nat) : State :=
  let t := s.resumeCopied
  let t := (List.range n).foldl State.resumeAhead t
  let aged := fun (j : FerryJob) => { j with edge := true }
  { t with ferry := { t.ferry with cur := t.ferry.cur.map aged, queue := t.ferry.queue.map aged } }

/-- The fades that stopped ferries still owe (R199, R246). -/
def State.fadesEdge (s : State) (frame : Nat) : State :=
  let t := (s.ferry.fades.filter (fun e => e.1 == frame)).foldl (fun t e => t.fadeInto frame e.2) s
  { t with ferry := { t.ferry with fades := t.ferry.fades.filter (fun e => frame < e.1) } }

/-- An ARMED berth starts at its start frame (Loading and starting, steps 4 and 5). -/
def State.startTask (s : State) (c frame : Nat) : State :=
  let k := s.core c
  if k.state == .armed && k.start ≤ frame then
    let n := { k with state := .active, regs := startRegs s.rate k.image.entry, frame := frame, next := 2, ran := 0, stall := 0,
                      wset := [], wsetPrev := [], reads := [], writes := [], wait := none, merge := [], ready := [] }
    let t := (s.setCore c n).modTask k.task (fun r => r.atHome k.task)
    (t.release (fun w => w == Wait.taskStart k.task)).assignShadow k.task
  else s

/-- A berth's designation changes (R236): its memories are filled before it takes its new state. -/
def State.spareMove (s : State) (b : Nat) : State :=
  if s.designated b then s.clearBerth b else (s.clearBerth b).loseSpare b 32

/-- The berths whose designation a SPARE SET changes at its edge: those that are still IDLE, or STANDBY without a task on its way
to them (R235, R236, log 149). -/
def State.spareHits (s : State) (mask : W32) : List Nat :=
  (bitsOf (mask ^^^ s.reg F.SC_SPARE) 32).filter (fun b =>
    (s.core b).state == (if s.designated b then Berth.standby else Berth.idle) && !s.incoming b)

/-- SPARE SET at its edge; its replies wait for the fills. -/
def State.spareEdge (s : State) : State :=
  match s.ferry.spareSet with
  | none => s
  | some mask =>
    let hit := s.spareHits mask
    let new := hit.foldl (fun w b => setBf w b b (if mask.getLsbD b then 1 else 0)) (s.reg F.SC_SPARE)
    let t := { s.setReg F.SC_SPARE new with ferry := { s.ferry with spareSet := none } }
    let t := hit.foldl State.spareMove t
    let pids := (t.ctl.waits.filter (fun w => w.2 == Wait.spares)).map (·.1)
    (pids.foldl (fun t p => hit.foldl (fun t b => t.addWait p (.fill b)) t) t).release (fun w => w == Wait.spares)

/-- The holds that have run out start their returns once R252 lets them. -/
def State.returnsEdge (s : State) : State :=
  all32.foldl (fun t k => if (t.task k).rvwait && (t.task k).holdLeft = 0 then t.startReturn k else t) s

/-- The contexts that stop do so from index 16(q + 1) (R383). -/
def State.ctxEdge (s : State) : State :=
  let f := fun (c : Ctx) => match c.stopReq with
    | some cut => { c with stopReq := none, stop := some (16 * (s.msi / 16 + 1), cut) }
    | none => c
  { s with net := { s.net with ctxs := s.net.ctxs.map (fun e => (e.1, f e.2)) } }

/-! ## The compute stage begins -/

/-- The timetable whose start frame has come becomes active (R49). -/
def State.activate (s : State) (frame : Nat) : State :=
  match s.tt.pend with
  | some p =>
    if p.start ≤ frame then
      { s with tt := { s.tt with active := p.phases, pend := none } }.release (fun w => w == Wait.timetable)
    else s
  | none => s

/-- The METER notices of an edge (R349): the mooring's range, the frame that ended and its peaks. -/
def State.metersNotify (s : State) (frame : Nat) : State :=
  allMoors.foldl (fun t m =>
    match (t.moors[m]).notify with
    | some (first, n, k) =>
      if k != 0 && frame % k = 0 && (t.moors[m]).subs.getLsbD nMETER then
        (t.noticeIf nMETER ([at32 first 16 ||| at32 n 0, lo32 (frame - 1)] ++ t.peaks m first (n + 1)) (· == m)).clearPeaks
          m first (n + 1)
      else t
    | none => t) s

/-- The compute stage of a frame begins: an empty stage, with the duration of each phase (R40, R124). -/
def State.newStage (s : State) (frame : Nat) : State :=
  let t := { s with tt := { s.tt with frame := frame, staged := true, openAt := [], startAt := [], done := [], coreDone := [] } }
  t.deckClear frame (fun k => k == .work || k == .out)

/-- What the compute units do as the stage of a frame begins; old is the state before the edge's writes (R83, R121). -/
def State.stageStarts (s old : State) (i : EdgeIn) (frame : Nat) : State :=
  let t := (s.activate frame).pairsEdge
  let t := { t with tt := { t.tt with durs := t.tt.active.map t.sizes.dur } }
  let t := all32.foldl (fun t c => t.frameReturn c frame) t
  let t := ((t.fadesEdge frame).stopsEdge frame).handovers frame
  let t := t.resumeEdge i.ferries
  let t := all32.foldl (fun t c => t.startTask c frame) t
  let t := ((t.commits old frame).rampOnly).spareEdge.returnsEdge
  ((t.metersTake true frame).metersNotify frame).dramEdge frame

/-- The replies that an edge makes due: they go before the notices of what their instructions do there (R362). -/
def State.edgeReplies (s : State) (e : Nat) : State :=
  s.release (fun w => match w with
    | .edge => true
    | .frame k => k ≤ e
    | _ => false)

/-- The effects of completed instructions (R316). -/
def State.effectsEdge (s : State) : State := s.alarmsReady.applyAll.xmDeferred s

/-! ## Rate changes (R331, R332, R157) -/

/-- The next change of rate, where one was accepted meanwhile. -/
def State.rateNext (s : State) : State :=
  match s.rateChange with
  | some c => match c.next with
    | some r =>
      { s with rateChange := if r = s.rate then none
                 else some { target := r, step := .accepted, old := s.rate, at_ := 0, left := 0, next := none },
               ctl := { s.ctl with waits := s.ctl.waits.map (fun w => if w.2 == Wait.rateNext then (w.1, .newRate) else w) } }
    | none => { s with rateChange := none }
  | none => s

/-- Step 5: the reply, the notice, and the decision of R472. -/
def State.rateDone (s : State) : State :=
  match s.rateChange with
  | some c =>
    if c.step = .restarted then
      ((s.release (fun w => w == Wait.newRate)).notice nRATECHG
        [at32 c.old 3 ||| at32 c.target 0, lo32 c.at_, at32 (bf (hi32 c.at_) 27 0) 0]).refRateDone.rateNext
    else s
  | none => s

/-- Step 1 begins at the first edge after RATE. -/
def State.rateFadeStart (s : State) : State :=
  match s.rateChange with
  | some c => if c.step = .accepted then { s with rateChange := some { c with step := .fading } } else s
  | none => s

/-! ## The edge -/

/-- A rate change is at a step. -/
def State.rateAt (s : State) (p : RateStep) : Bool := s.rateChange.any (fun c => c.step == p)

/-- The IN words kept for the stage that has ended go (R27). -/
def State.heldEnd (s : State) : State := { s with deck := { s.deck with held := none } }

/-- What every stage edge does. -/
def State.edgeCommon (s : State) (i : EdgeIn) (e : Nat) : State :=
  let t := (((s.stageEnds i).heldEnd.edgeReplies e).ctxEdge).portsEdge
  let t := groups.foldl State.stageEnd t.effectsEdge
  t.rateDone

/-- The ENGINE reset asked for goes a step on (R552). -/
def State.engineStep (s : State) : State :=
  match s.pwr.engine with
  | some 1 => { s with pwr := { s.pwr with engine := some 2 } }
  | some _ => s.engineApply
  | none => s

/-- The compute stage and the playout stage that begin at edge e; old is the state before the edge's writes. -/
def State.edgeStages (s old : State) (i : EdgeIn) (e : Nat) : State :=
  let fade := s.rateAt .accepted || s.pwr.engine == some 1
  let t := s.rateFadeStart.engineStep
  let t := if e = 0 then t else (t.newStage (e - 1)).stageStarts old i (e - 1)
  let t := if e < 2 then t else t.playout (e - 2) fade
  if e = 0 then t else t.advance 0

/-- STAGE_EDGE. -/
def State.stageEdge (s : State) (i : EdgeIn) : State :=
  let e := s.msi / 16
  let s := { s with tt := { s.tt with edge := some s.msi } }
  let old := s.stageEnds i
  let t := s.edgeCommon i e
  match t.rateChange with
  | some c => if c.step = .fading then t.rateStop c else t.edgeStages old i e
  | none => t.edgeStages old i e

def execStageEdge (i : EdgeIn) (s : State) : Out :=
  doneMem s (if s.counting && s.edgeDue then s.stageEdge i else s)

/-- The running transmit contexts resume at step 4: their next packet starts there, or where they start (R403). -/
def State.ctxResume (s : State) : State :=
  { s with net := { s.net with ctxs := s.net.ctxs.map (fun e =>
      let n := spp s.rate e.2.ptime
      if e.2.run && e.2.tx then (e.1, { e.2 with next := ceilDiv (max s.msi e.2.first) n * n }) else e) } }

/-- The waits of CHAN that had begun go on from here, and the others begin here (R437). -/
def State.waitResume (s : State) : State :=
  { s with ports := { s.ports with waits := s.ports.waits.map (fun w => { w with from_ := w.from_.map (fun _ => s.msi - w.tested) }) } }

/-- RATE_RESTART: capture begins at the first frame boundary at least 2 ms after the stop. -/
def State.rateRestart (s : State) : State :=
  match s.rateChange with
  | some c =>
    if s.restartDue then
      let t := { s with rateChange := some { c with step := .restarted, at_ := s.msi / 16 }, tt := { s.tt with edge := none } }
      t.ctxResume.waitResume.gwCheck
    else s
  | none => s

def execRateRestart (s : State) : Out := done s s.rateRestart

end Sys2Proof.Machine
end

