-- ==== Sys2Proof/Machine/CoreEvents.lean ====
section
/-! DEFINITION. Machine/CoreEvents.lean: what a core issues, its deck queues, and its watchdog (R170, R174 to R184,
R206 to R234, R260, R261). A cycle operand is the D0 cycle of the compute stage in progress (log 6). -/

namespace Sys2Proof.Machine

/-! ## Issue -/

/-- The cores that issue together with the one in berth c: a pair, leader first, or itself (R260). -/
def State.members (s : State) (c : Nat) : List Nat :=
  let lead := if s.isFollower c then (s.task (s.core c).task).berth else c
  lead :: (s.followerOf lead).toList

/-- A compute stage runs and has a cycle. -/
def State.inStage (s : State) (cycle : Nat) : Bool := s.tt.staged && cycle < s.stageLen

/-- The core in berth c may issue at a cycle: it runs, waits for nothing and its watchdog has not expired (R182, R184). -/
def State.mayIssue (s : State) (c cycle : Nat) : Bool :=
  let k := s.core c
  s.inStage cycle && k.state == .active && k.wait.isNone && k.next ≤ cycle && k.ran + cycle < wdLimit s.rate k.image.wdlim

/-- A corrected program word: counted, and written back at the next taken branch (R170, R486). -/
def State.progFixed (s : State) (c : Nat) : State :=
  ((s.bump (F.SCc_ECC_PROG c)).bump (F.BANK_CEb_CE (8 + c))).modCore c (fun k => { k with fixes := k.regs.pc :: k.fixes })

/-- The program word that issues has a correctable error. -/
def State.progSingle (s : State) (c : Nat) : State :=
  if s.markAt (progAddr c (s.core c).regs.pc) == some .single then s.progFixed c else s

/-- The program word that issues cannot be corrected (R170). -/
def State.progBad (s : State) (c : Nat) : Bool := s.markAt (progAddr c (s.core c).regs.pc) == some .bad

/-- An issue at a cycle: the registers after it, the next issue after so many cycles, the stall before it (R176, log 162). -/
def State.issued (s : State) (c cycle : Nat) (r : CoreRegs) (cost : Nat) : State :=
  s.modCore c (fun k => { k with regs := r, next := cycle + cost, stall := k.stall + (cycle - k.next) })

/-- Each member of a list of cores acts or faults; a fault that both members of a pair share is one fault of the task (R261). -/
def State.issueAll (s : State) (ms : List Nat) (fault : State → Nat → Option (Nat × Nat)) (act : State → Nat → State) : State :=
  let both := match ms.map (fault s) with
    | [some a, some b] => a.1 == b.1
    | _ => false
  match ms, both with
  | [lead, p], true =>
    let f := (fault s lead).getD (0, 0)
    let t := (s.clearBerth p).modTask (s.core lead).task (fun r => r.unpaired (s.core lead).task)
    t.coreFault lead f.1 f.2
  | _, _ => ms.foldl (fun t c => match fault s c with
    | some f => t.coreFault c f.1 f.2
    | none => if (t.core c).state == .active then act t c else t) s

/-- The cycle at which a member issues: a follower 2 cycles after its leader (R260). -/
def memberCycle (ms : List Nat) (c cycle : Nat) : Nat := if ms.head? == some c then cycle else cycle + 2

/-- Every member may issue. -/
def State.allMay (s : State) (ms : List Nat) (cycle : Nat) : Bool :=
  s.inStage cycle && ms.all (fun c => match ms.head? with
    | some l => if c = l then s.mayIssue c cycle else (s.core c).wait.isNone && (s.core c).next ≤ cycle + 2
    | none => false)

/-! ## Bundles -/

/-- A loaded word has an error of a kind. -/
def State.loadMark (s : State) (c : Nat) (m : Mark) (e : Bool × Place) : Bool := s.markAt (dataAddr c e.1 e.2) == some m

/-- The fault of a bundle (R195). -/
def State.bundleFault (s : State) (up : CoreUpset) (c : Nat) : Option (Nat × Nat) :=
  let i := s.bundleOf c
  if s.progBad c || up == .eccProg then some (2, 0)
  else if isControl (s.fetch c) then some (6, 0)
  else match i.fault with
    | some f => some f
    | none => match i.loads.find? (s.loadMark c .bad) with
      | some e => some (3, eccCode e)
      | none => match up with
        | .eccData code => some (3, code.toNat)
        | .residue code => some (1, code.toNat)
        | _ => none

/-- Deck reads as they join the queue: each behind the last posted write of its core to the same word (R218). -/
def queueReads (frame : Nat) (writes : List DeckWr) (reads : List (Nat × W32)) : List DeckRd :=
  reads.map (fun r =>
    let n := (writes.zip (List.range writes.length)).foldl (fun n e => if e.1.meets r.2 frame then e.2 + 1 else n) 0
    { dst := r.1, ptr := r.2, frame := frame, after := n, got := none })

/-- The deck accesses of a bundle join the queues of its core, the X slot's first (R218). -/
def Core.queueDeck (k : Core) (w : W64) (i : Issue) : Core :=
  let new := i.writes.map (fun e => { ptr := e.1, data := e.2, frame := k.frame : DeckWr })
  let before := if (xSlot w).op = 6 then k.writes ++ new.take 1 else k.writes
  { k with reads := k.reads ++ queueReads k.frame before i.reads, writes := k.writes ++ new }

/-- A bundle without a fault. -/
def State.bundleDo (s : State) (up : CoreUpset) (cycle c : Nat) : State :=
  let w := s.fetch c
  let i := s.bundleOf c
  let fixed := i.loads.filter (s.loadMark c .single)
  let n := fixed.length + (if up == .fixedData then 1 else 0)
  let t := fixed.foldl (fun t e => t.setMark (dataAddr c e.1 e.2) none) (s.progSingle c)
  let p := if up == .fixedProg then 1 else 0
  let t := ((t.bumpBy (F.SCc_ECC_DATA c) n).bumpBy (F.SCc_ECC_PROG c) p).bumpBy (F.BANK_CEb_CE (8 + c)) (n + p)
  let t := if i.pgw then t.setFld (F.SCc_STAT_PGW c) 1 else t
  let t := (t.issued c cycle i.regs (1 + 2 * n)).modCore c (fun k =>
    { k.queueDeck w i with stall := k.stall + 2 * n, ready := readyAfter k.ready w cycle })
  i.stores.foldl (fun t e => t.coreStore c e.1 e.2.1 e.2.2) t

/-- The deck queues have room for a bundle, and no register it needs is awaited from the deck or the pipeline (R175, R180). -/
def State.bundleRoom (s : State) (cycle c : Nat) : Bool :=
  let k := s.core c
  let i := s.bundleOf c
  allReady k.ready (bundleUses (s.fetch c)) cycle && k.reads.length + i.reads.length ≤ 4 && k.writes.length + i.writes.length ≤ 8
    && !(bundleD (s.fetch c)).any (fun d => k.reads.any (fun r => r.dst == d))

/-- The unit whose value the compute slot makes (R234), as a CODE. -/
def cmpUnit (w : W64) : Option Nat :=
  match cop w with
  | 0x00 => none
  | 0x22 => if 0x30 ≤ bf w 57 52 then some 1 else if bf w 57 52 < 0x10 ∨ bf w 57 52 = 0x2E then some 0 else some 2
  | 0x23 => some 2
  | 0x24 => some 2
  | c => if c ≤ 7 then some 1 else some 0

/-- The CODEs of the values that a move slot makes (R234). -/
def mvUnits (m : Mv) : List Nat :=
  if m.op = 0 then []
  else if m.isMem then 3 :: (if m.am = 0 then [] else [2])
  else 4 :: (if m.inc then [2] else [])

/-- An upset that a bundle can meet: a residue of a unit that makes a value in it, the end of a loop among them (R234), or the
memory of a load of it (R195). -/
def State.upsetOk (s : State) (c : Nat) : CoreUpset → Bool
  | .eccData code => (s.bundleOf c).loads.any (fun e => eccCode e == code.toNat)
  | .fixedData => !(s.bundleOf c).loads.isEmpty
  | .residue code =>
    let w := s.fetch c
    let ends := (s.core c).regs.loops.any (fun e => e.last == (s.core c).regs.pc)
    ((cmpUnit w).toList ++ mvUnits (xSlot w) ++ mvUnits (ySlot w) ++ (if ends then [2] else [])).contains code.toNat
  | _ => true

/-- A word that issues as a bundle, or as a reserved control word, which faults (R210). -/
def asBundle (w : W64) : Bool := !isControl w || 7 ≤ ctlOp w

def State.bundle (s : State) (c cycle : Nat) (up : CoreUpset) : State :=
  let ms := s.members c
  let lead := ms.headD c
  let of := fun x => if x = c then up else .none
  if s.allMay ms cycle && asBundle (s.fetch lead) && ms.all (fun x => s.bundleRoom (memberCycle ms x cycle) x) && s.upsetOk c up then
    s.issueAll ms (fun s x => s.bundleFault (of x) x) (fun s x => s.bundleDo (of x) (memberCycle ms x cycle) x)
  else s

def execBundle (c : Fin 32) (cycle : Nat) (upset : CoreUpset) (s : State) : Out := done s (s.bundle c.val cycle upset)

/-! ## Control words -/

/-- The control word at the program counter has an operation. -/
def State.ctlAt (s : State) (c op : Nat) : Bool := isControl (s.fetch c) && ctlOp (s.fetch c) == op

/-- What the control word needs is awaited from the deck or the pipeline: the count of a LOOP, the SV of a condition (R175,
R213). -/
def State.ctlHeld (s : State) (cycle c : Nat) : Bool :=
  let u := ctlUses (s.fetch c)
  !allReady (s.core c).ready u cycle || (s.core c).reads.any (fun r => u.contains r.dst)

/-- What a branch, CALL, RET or LOOP does in a core. -/
def State.flowOf (s : State) (f : CoreRegs → Nat → W64 → Flow) (c : Nat) : Flow :=
  f (s.core c).regs (s.core c).image.plen (s.fetch c)

def State.flowFault (s : State) (f : CoreRegs → Nat → W64 → Flow) (up : CoreUpset) (c : Nat) : Option (Nat × Nat) :=
  if s.progBad c || up == .eccProg then some (2, 0)
  else match s.flowOf f c with
    | .fault cause code => some (cause, code)
    | .go _ _ => match up with
      | .residue code => some (1, code.toNat)
      | _ => none

/-- A branch, CALL, RET or LOOP makes a value that is checked: it changes the loop or the return stack (R234). -/
def State.flowStack (s : State) (f : CoreRegs → Nat → W64 → Flow) (c : Nat) : Bool :=
  match s.flowOf f c with
  | .go r _ => r.loops != (s.core c).regs.loops || r.rets != (s.core c).regs.rets
  | .fault _ _ => false

/-- An upset that a control word can meet. -/
def State.flowUpsetOk (s : State) (f : CoreRegs → Nat → W64 → Flow) (c : Nat) : CoreUpset → Bool
  | .eccData _ => false
  | .fixedData => false
  | .residue code => code.toNat == 2 && s.flowStack f c
  | _ => true

/-- A taken branch writes the corrected program words back (R170). -/
def State.writeFixes (s : State) (c : Nat) : State :=
  let t := (s.core c).fixes.foldl (fun t pc => if t.markAt (progAddr c pc) == some .single then t.setMark (progAddr c pc) none else t) s
  t.modCore c (fun k => { k with fixes := [] })

/-- A taken one costs 2 cycles beyond its issue (R176). -/
def State.flowDo (s : State) (f : CoreRegs → Nat → W64 → Flow) (up : CoreUpset) (cycle c : Nat) : State :=
  match s.flowOf f c with
  | .go r taken =>
    let p := if up == .fixedProg then 1 else 0
    let t := ((s.progSingle c).bumpBy (F.SCc_ECC_PROG c) p).bumpBy (F.BANK_CEb_CE (8 + c)) p
    let t := t.issued c cycle r (if taken then 3 else 1)
    if taken then t.writeFixes c else t
  | .fault _ _ => s

/-- A branch, CALL, RET or LOOP issues in the core in berth c, which meets an upset, and in the other core of its pair. -/
def State.flow (s : State) (c cycle op : Nat) (f : CoreRegs → Nat → W64 → Flow) (up : CoreUpset) : State :=
  let ms := s.members c
  let of := fun x => if x = c then up else .none
  if s.allMay ms cycle && s.ctlAt (ms.headD c) op && !ms.any (fun x => s.ctlHeld (memberCycle ms x cycle) x)
      && s.flowUpsetOk f c up then
    s.issueAll ms (fun s x => s.flowFault f (of x) x) (fun s x => s.flowDo f (of x) (memberCycle ms x cycle) x)
  else s

def execBra (c : Fin 32) (cycle : Nat) (upset : CoreUpset) (s : State) : Out := done s (s.flow c.val cycle 0 flowBra upset)
def execCall (c : Fin 32) (cycle : Nat) (upset : CoreUpset) (s : State) : Out := done s (s.flow c.val cycle 1 flowCall upset)
def execRet (c : Fin 32) (cycle : Nat) (upset : CoreUpset) (s : State) : Out := done s (s.flow c.val cycle 2 flowRet upset)
def execLoop (c : Fin 32) (cycle : Nat) (upset : CoreUpset) (s : State) : Out := done s (s.flow c.val cycle 3 flowLoop upset)

/-- The fault of a FRAME, SYNC or TRAP. -/
def State.ctlFault (s : State) (trap : Bool) (c : Nat) : Option (Nat × Nat) :=
  let k := s.core c
  let w := s.fetch c
  if s.progBad c then some (2, 0)
  else if ctlBad k.regs k.image.plen w then some (6, 0)
  else if trap then some (9, bf w 7 0)
  else none

/-- FRAME issues: its core waits, and the counts of the frame are kept (R183). -/
def State.frameCore (s : State) (cycle c : Nat) : State :=
  let k := s.core c
  let cyc := min (2 ^ 19 - 1) (k.ran + cycle)
  let stall := min (2 ^ 19 - 1) (k.stall + (cycle - k.next))
  let t := (s.progSingle c).issued c cycle { k.regs with pc := k.regs.pc + 1 } 1
  let t := t.modCore c (fun k => { k with wait := some .frame })
  let t := (t.setFld (F.SCc_CYC_CYC c) cyc).setFld (F.SCc_CYCMAX_CYCMAX c) (max cyc (t.fld (F.SCc_CYCMAX_CYCMAX c)))
  t.setFld (F.SCc_STALL_STALL c) stall

/-- What the FRAME of a task does beyond its core: the context is captured for its shadow and for a mirrored move, and its
phases complete (R233, R239, R254). -/
def State.frameTask (s : State) (cycle c : Nat) : State :=
  let k := s.core c
  if k.state != .active || k.wait != some .frame then s
  else
    let r := s.task k.task
    let t := if r.berth != c then s
      else
        let mv := r.move.map (fun m =>
          if (m.mirrored || m.kind == .join) && m.handed.isNone && m.src == c then { m with ctx := some k.regs } else m)
        s.setTask k.task { r.frameIssue k.regs with move := mv }
    (t.completeTo c 16).advance cycle

/-- The core in berth c is the outgoing one of a handover whose overlap runs (R255). -/
def State.outgoing (s : State) (c : Nat) : Bool :=
  match (s.task (s.core c).task).move with
  | some m => m.src == c && m.handed.isSome
  | none => false

def State.frame (s : State) (c cycle : Nat) : State :=
  let ms := s.members c
  let lead := ms.headD c
  if s.allMay ms cycle && s.ctlAt lead 4 then
    if s.outgoing lead && (s.ctlFault false lead).isNone then s.finishMove (s.core lead).task false
    else
      let t := s.issueAll ms (fun s x => s.ctlFault false x) (fun s x => s.frameCore (memberCycle ms x cycle) x)
      ms.foldl (fun t x => t.frameTask cycle x) t
  else s

def execFrame (c : Fin 32) (cycle : Nat) (s : State) : Out := done s (s.frame c.val cycle)

/-- SYNC n issues: its core waits for barrier n. -/
def State.syncCore (s : State) (n cycle c : Nat) : State :=
  let k := s.core c
  ((s.progSingle c).issued c cycle { k.regs with pc := k.regs.pc + 1 } 1).modCore c (fun k => { k with wait := some (.sync n) })

/-- The phases below barrier n complete, and SYNC returns where the barrier is open (R41, R233). -/
def State.syncTask (s : State) (ms : List Nat) (n cycle : Nat) : State :=
  let waits := fun (t : State) c => (t.core c).state == .active && (t.core c).wait == some (.sync n)
  let t := ms.foldl (fun t c => if waits t c then t.completeTo c n else t) s
  let t := if t.barrierOpen n then ms.foldl (fun t c => if waits t c then t.syncReturn c (memberCycle ms c cycle) else t) t else t
  t.advance cycle

def State.sync (s : State) (c cycle : Nat) : State :=
  let ms := s.members c
  let lead := ms.headD c
  let n := bf (s.fetch lead) 51 48
  if s.allMay ms cycle && s.ctlAt lead 5 then
    (s.issueAll ms (fun s x => s.ctlFault false x) (fun s x => s.syncCore n (memberCycle ms x cycle) x)).syncTask ms n cycle
  else s

def execSync (c : Fin 32) (cycle : Nat) (s : State) : Out := done s (s.sync c.val cycle)

def State.trap (s : State) (c cycle : Nat) : State :=
  let ms := s.members c
  if s.allMay ms cycle && s.ctlAt (ms.headD c) 6 then
    s.issueAll ms (fun s x => s.ctlFault true x) (fun s _ => s)
  else s

def execTrap (c : Fin 32) (cycle : Nat) (s : State) : Out := done s (s.trap c.val cycle)

/-! ## Deck queues -/

/-- A word delivered to a core. -/
def Core.deliver (k : Core) (v : W32) : Core :=
  match k.reads with
  | [] => k
  | r :: rest => { k with reads := rest, regs := { k.regs with d := set_ k.regs.d r.dst v } }

/-- The oldest deck read returns, once the writes it follows have reached the deck; a pair reads once (R218, R260). -/
def State.deckReturn (s : State) (c : Nat) : State :=
  let ms := s.members c
  let lead := ms.headD c
  match (s.core lead).reads with
  | [] => s
  | r :: _ =>
    if r.after = 0 then
      let f := match r.got with
        | some v => (s, v)
        | none => s.deckFetch lead r
      ms.foldl (fun t x => t.modCore x (fun k => k.deliver f.2)) f.1
    else s

def execDeckReadReturn (c : Fin 32) (s : State) : Out := done s (s.deckReturn c.val)

def execDeckWriteArrive (c : Fin 32) (cycle : Nat) (s : State) : Out :=
  done s (if s.inStage cycle then s.drainOne c.val cycle else s)

/-! ## Watchdog, allowance -/

def State.watchdog (s : State) (c cycle : Nat) : State :=
  let k := s.core c
  if s.inStage cycle && k.state == .active && k.wait != some .frame && wdLimit s.rate k.image.wdlim ≤ k.ran + cycle then
    s.coreFault c 4 0
  else s

def execWatchdog (c : Fin 32) (cycle : Nat) (s : State) : Out := done s (s.watchdog c.val cycle)

/-- The allowance of phase i runs out at a cycle (R42). -/
def State.allowanceEnds (s : State) (i cycle : Nat) : State :=
  match s.tt.active[i]? with
  | none => s
  | some p =>
    match look s.tt.openAt p.barrier with
    | none => s
    | some o =>
      if p.unit == .sc && !s.phaseComplete p i && o + p.allow = cycle && s.inStage cycle then (s.forcePhase p i).advance cycle
      else s

def execScAllowanceExpiry (phase : Fin 16) (cycle : Nat) (s : State) : Out := done s (s.allowanceEnds phase.val cycle)

end Sys2Proof.Machine
end

