-- ==== Sys2Proof/Machine/Debug.lean ====
section
/-! DEFINITION. Machine/Debug.lean: core debug access over JTAG, as fabric master DEBUG: the words of the banks written, raw mode,
and the targets that answer with an error (R74, R131, R132, R168, R477, R479, R492, R502, R507). -/

namespace Sys2Proof.Machine

/-! ## Records from their words (R74, R131, R132) -/

/-- A crosspoint entry from its four words. -/
def xmOfWords (l : List W32) : XmEntry :=
  let w := wd l
  { active := w24 (w 0), target := w24 (w 1), pending := w24 (w 2), step := w24 (w 3),
    rsh := BitVec.ofNat 4 (bf (w 1) 31 28), prsh := BitVec.ofNat 4 (bf (w 1) 27 24),
    cnt := BitVec.ofNat 12 (bf (w 2) 31 24 + 256 * bf (w 3) 31 28), group := BitVec.ofNat 4 (bf (w 0) 31 28),
    pv := bit (w 0) 27, run := bit (w 0) 26, df := bit (w 0) 25 }

/-- A section record from its 32 words. -/
def sectionOfWords (l : List W32) : Section :=
  let w := wd l
  let five := fun (i : Nat) => (⟨w i, w (i + 1), w (i + 2), w (i + 3), w (i + 4)⟩ : Five)
  let f := fun (i hi lo n : Nat) => BitVec.ofNat n (bf (w i) hi lo)
  { act := five 0, tgt := five 5, pnd := five 10, stp := five 15,
    s0 := BitVec.ofNat 48 ((w 20).toNat + 2 ^ 32 * bf (w 22) 15 0), s1 := BitVec.ofNat 48 ((w 21).toNat + 2 ^ 32 * bf (w 22) 31 16),
    group := f 23 31 28 4, pv := bit (w 23) 27, run := bit (w 23) 26, sat := bit (w 23) 25, g := f 23 23 20 4, pg := f 23 19 16 4,
    cnt := f 23 14 0 15, vep := f 24 10 8 3, vet := f 24 6 4 3, vea := f 24 2 0 3,
    bq := ⟨w 25, w 26, w 27, w 28, w 29⟩, kind := f 30 1 0 2 }

/-- A span descriptor from its words; none where VALID is 0. -/
def spanOfWords (l : List W32) : Option Span :=
  let w := wd l
  if bit (w 0) 31 then
    some { first := bf (w 0) 14 0, count := bf (w 0) 20 16 + 1, ilag := bit (w 1) 31, oslot := bf (w 1) 29 16, islot := bf (w 1) 13 0 }
  else none

/-! ## Words of the banks stored -/

/-- A word of a berth's window stored, by offset (R168). -/
def windowPut (m : Mems) (o : Nat) (w : W32) : Mems :=
  let put := fun (p : SMap W32) (b : Nat) => insD p 0 ((o - b) / 4) w
  if o < 0x10000 then
    let old : W64 := lookD m.prog 0 (o / 8)
    { m with prog := insD m.prog 0 (o / 8) (if o % 8 = 0 then setBf old 31 0 w.toNat else setBf old 63 32 w.toNat) }
  else if 0x40000 ≤ o ∧ o < 0x60000 then { m with x := put m.x 0x40000 }
  else if 0x80000 ≤ o ∧ o < 0xA0000 then { m with y := put m.y 0x80000 }
  else if 0xC0000 ≤ o ∧ o < 0xC1000 then m.setActive (put m.active 0xC0000)
  else if 0xC1000 ≤ o ∧ o < 0xC2000 then m.setInactive (put m.inactive 0xC1000)
  else m

/-- A word of the stream bank stored: it reads as written, and which port word it then holds is not stated, so that word is free
(log 7). -/
def State.streamPut (s : State) (a : Nat) (w : W32) : State :=
  let d := s.draw
  { d.2 with net := { d.2.net with bank := ins d.2.net.bank a ((Config.freeWord d.1).toNat, (Config.freeWord d.1).setWidth 24) },
             ecc := { d.2.ecc with held := ins d.2.ecc.held a w } }

/-- The word stored in the memory at an address, without a look at its codes. -/
def State.putWord (s : State) (a : Nat) (w : W32) : State :=
  match s.region a with
  | .ctlSram => s.setWord a w
  | .landing => s.setWord a w
  | .dram => s.setWord a w
  | .xm =>
    let o := a - 0x50000000
    if s.console && 0x600000 ≤ o then s
    else s.storeXm (o / 16) (xmOfWords ((xmWords (s.xmEntry (o / 16))).set (o % 16 / 4) w))
  | .pn =>
    let n := (a - 0x58000000) / 128
    s.storeSection n (sectionOfWords ((sectionWords (s.section_ n)).set (a % 128 / 4) w))
  | .spans =>
    let n := (a - 0x5C000000) / 16
    s.storeSpan n (spanOfWords ((spanWords (look s.pn.spans n)).set (a % 16 / 4) w))
  | .stream => s.streamPut a w
  | .deck => { s with deck := { s.deck with words := ins s.deck.words ((a - 0x90000000) / 4) w } }
  | .sc =>
    let c := (a - 0x70000000) / 0x100000
    let o := a % 0x100000
    let own := s.modCore c (fun k => { k with mems := windowPut k.mems o w })
    if 0x40000 ≤ o ∧ o < 0x60000 then
      match s.shadowAt c false ((o - 0x40000) / 4) with
      | some e => s.modTask e.1 (fun r => { r with shX := insD r.shX 0 e.2 w })
      | none => own
    else if 0x80000 ≤ o ∧ o < 0xA0000 then
      match s.shadowAt c true ((o - 0x80000) / 4) with
      | some e => s.modTask e.1 (fun r => { r with shY := insD r.shY 0 e.2 w })
      | none => own
    else own
  | _ => s

/-! ## Raw mode (R492) -/

/-- The check bits of a bank's code words that exist: 8 under SECDED (72,64), 7 under (39,32), 1 under parity. -/
def chkMask (a : Nat) : Byte := if bankOf a == some 2 then 1 else if codeBytes a = 8 then 0xFF else 0x7F

/-- The data of a code word. -/
def State.codeData (s : State) (a : Nat) : W64 :=
  let c := codeWord a
  if codeBytes a = 8 then s.rawWord (c + 4) ++ s.rawWord c else (s.rawWord c).setWidth 64

/-- What a code word stores, data and check bits, with what an error has inverted; an error of which only its presence is
known leaves both free. -/
def State.stored (s : State) (a : Nat) : W64 × Byte × State :=
  let d := s.codeData a
  let c := codeWord a
  match s.markAt a, look s.ecc.flips c with
  | some _, none =>
    let x := s.draw
    let y := x.2.draw
    ((Config.freeWord x.1 ++ Config.freeWord y.1), (Config.freeWord y.1).setWidth 8 &&& chkMask a, y.2)
  | _, f =>
    let e := f.getD (0, 0)
    (d ^^^ e.1, (Config.checkBits d ^^^ e.2) &&& chkMask a, s)

/-- The half of a code word that an address names. -/
def halfOf (a : Nat) (d : W64) : W32 := if codeBytes a = 8 ∧ a % 8 ≠ 0 then d.extractLsb' 32 32 else d.setWidth 32

/-- The data bit whose inversion makes stored check bits fit. -/
def fitBit (a : Nat) (d : W64) (chk : Byte) : Option Nat :=
  (List.range (8 * codeBytes a)).find? (fun i => Config.checkBits (d ^^^ BitVec.ofNat 64 (2 ^ i)) &&& chkMask a == chk)

/-- A code word stored raw with check bits: the error it holds, if any. -/
def State.storeRaw (s : State) (a : Nat) (d : W64) (chk : Byte) : State :=
  let c := codeWord a
  let e := (Config.checkBits d &&& chkMask a) ^^^ chk
  let put := fun (t : State) (d : W64) =>
    if codeBytes a = 8 then (t.putWord c (d.setWidth 32)).putWord (c + 4) (d.extractLsb' 32 32) else t.putWord c (d.setWidth 32)
  let flips := fun (t : State) (f : W64 × Byte) => { t with ecc := { t.ecc with flips := ins t.ecc.flips c f } }
  if e = 0 then (put s d).setMark a none
  else if bankOf a == some 2 then flips ((put s d).setMark a (some .bad)) (0, e)
  else if ones e = 1 then flips ((put s d).setMark a (some .single)) (0, e)
  else match fitBit a d chk with
    | some i =>
      let m : W64 := BitVec.ofNat 64 (2 ^ i)
      flips ((put s (d ^^^ m)).setMark a (some .single)) (m, 0)
    | none => flips ((put s d).setMark a (some .bad)) (0, e)

/-- A raw write of a word takes its check bits from ECC_TEST_CHK. -/
def State.rawPut (s : State) (a : Nat) (w : W32) : State :=
  let x := s.stored a
  let d := if codeBytes a = 8 then (if a % 8 = 0 then setBf x.1 31 0 w.toNat else setBf x.1 63 32 w.toNat) else w.setWidth 64
  x.2.2.storeRaw a d (BitVec.ofNat 8 (x.2.2.fld F.ECC_TEST_CHK_CHK) &&& chkMask a)

/-! ## Accesses of DEBUG -/

/-- A word brought out over the debug port. -/
def State.show (s : State) (l : List W32) : State := { s with side := { s.side with data := l } }

/-- The error response that an access of DEBUG meets: the counter it adds to (R477, R479, R502). -/
def State.debugError (s : State) (a : Nat) (write : Bool) : Option (Option Fld) :=
  if s.otp.lc == lcDeployed then some none
  else match s.region a with
    | .secure => some (some F.FAB_STAT_NOPATH)
    | .hole => some (some F.FAB_STAT_HOLE)
    | .bootRom => if write then some (some F.FAB_STAT_HOLE) else none
    | .dram => if s.dramServes then none else some none
    | _ => match bankOf a with
      | some b => if !s.bankOn b then some (some F.FAB_STAT_PDERR) else if s.marching b then some none else none
      | none => none

def State.debugRead (s : State) (a : Nat) : State :=
  match bankOf a with
  | some b =>
    if s.rawBank b then
      let x := s.stored a
      (x.2.2.setFld F.ECC_TEST_CHK_CHK x.2.1.toNat).show [halfOf a x.1]
    else
      let t := s.fixSingles a 4
      if t.bad a 4 then (t.ueRecord a).show [0] else t.show [t.rawWord a]
  | none =>
    let r := s.readWord a
    r.2.show [r.1.getD 0]

def State.debugWrite (s : State) (a : Nat) (w : W32) : State :=
  match s.region a with
  | .periph => s.writeReg (a - periphBase) w false
  | .dram => (s.writeDram a [w]).dramScan a 4 4
  | _ => match bankOf a with
    | some b => if s.rawBank b then s.rawPut a w else if b = 7 then s else if b = 2 then (s.putWord a w).wroteParity a 4 else (s.putWord a w).wrote a 4
    | none => s

/-- A debug access to a word. It counts as open until the TAP takes another instruction or a reset (log 150). Through a closed DEBUG gate reads are zeros and writes are dropped (R446). -/
def State.debug (s : State) (a0 : Nat) (write : Option W32) : State :=
  if s.pwr.por || s.pwr.held || a0 % 4 != 0 then s
  else
    let a := s.remapped a0
    if !s.gateOpen 1 22 then (if write.isSome then s else s.show [0])
    else
      let s := { s with side := { s.side with debug := true } }
      match s.debugError a write.isSome, write with
      | some c, w =>
        let t := match c with
          | some f => s.bump f
          | none => s
        if w.isSome then t else t.show [0]
      | none, some w => s.debugWrite a w
      | none, none => s.debugRead a

def execJtagDebugAccess (addr : Nat) (write : Option W32) (s : State) : Out := doneMem s (s.debug addr write)

end Sys2Proof.Machine
end

