-- ==== Sys2Proof/Machine/FerryEvents.lean ====
section
/-! DEFINITION. Machine/FerryEvents.lean: what ends in the compute stage and in the ferry engine: phases of the array and the
matrix, the delay-line pass, repeats and fades, copies, fills, tests and holds (R40, R124, R168, R239 to R262, R533). -/

namespace Sys2Proof.Machine

/-! ## Phases -/

/-- A phase of a kind that runs, with the cycle of its start; it ends at a cycle that its duration allows: at its end, or
later where recomputations add to it (R124, R127). -/
def State.phaseEnds (s : State) (q : PhUnit → Bool) (i cycle : Nat) (late : Bool) : Option (Phase × Nat) :=
  match s.tt.active[i]?, look s.tt.startAt i with
  | some p, some st =>
    let fin := st + s.tt.durs.getD i 0
    if q p.unit && !s.tt.done.contains i && s.inStage cycle && (fin == cycle || (late && fin < cycle)) then some (p, st) else none
  | _, _ => none

def State.pnPhaseEnd (s : State) (i cycle : Nat) (ups : List PnUpset) : State :=
  match s.phaseEnds (· == .pn) i cycle (!ups.isEmpty) with
  | some (p, st) => (s.pnPhase p.arg st s.stageLen ups).phaseDone i cycle
  | none => s

def execPnPhaseDone (phase : Fin 16) (cycle : Nat) (upsets : List PnUpset) (s : State) : Out :=
  done s (s.pnPhaseEnd phase.val cycle upsets)

/-- The matrix phase in progress ends; found are the entries in which it met an uncorrectable error (R103). -/
def State.xmPhaseEnd (s : State) (i cycle : Nat) (found : List Nat) : State :=
  match s.phaseEnds PhUnit.isXm i cycle false, s.xm.job with
  | some (p, _), some j =>
    if j.phase = i then
      let two := p.unit == .xm2
      let t := s.xmRun two j.src (s.ndst two) found
      { t with xm := { t.xm with job := none } }.phaseDone i cycle
    else s
  | _, _ => s

def execXmPhaseDone (phase : Fin 16) (cycle : Nat) (upsets : List Nat) (s : State) : Out :=
  done s (s.xmPhaseEnd phase.val cycle upsets)

def execDelayLinePassDone (cycles : Nat) (cut : Option Nat) (s : State) : Out := doneMem s (s.passDone cycles cut)

/-! ## Repeats and fades -/

/-- The patch owed to a task: the repeat of a ferry or the fade of a stop. -/
def State.patchOf (s : State) (t : Nat) (fade : Bool) : Option Patch :=
  s.ferry.patches.find? (fun p => p.task == t && p.fade == fade)

/-- A repeat or fade ends, after the posted writes of the stopped core (R243, R244). -/
def State.patchEnd (s : State) (t : Nat) (fade : Bool) (cycle : Nat) : State :=
  match s.patchOf t fade with
  | some p => if s.inStage cycle then (s.drain p.berth cycle).patchDone p cycle else s
  | none => s

def execFaultRepeat (t : Fin 32) (cycle : Nat) (s : State) : Out := done s (s.patchEnd t.val false cycle)
def execStopFade (t : Fin 32) (cycle : Nat) (s : State) : Out := done s (s.patchEnd t.val true cycle)

/-! ## Copies and fills -/

/-- The copy of the ferry in progress ends; it starts once the journal has been applied (R245, R246). -/
def State.ferryCopyEnd (s : State) (cycle : Nat) (error : Bool) : State :=
  match s.ferry.cur with
  | some j =>
    if j.copied || !(s.task j.task).applying.isEmpty || !(s.inStage cycle || error || !s.tt.staged) then s
    else s.copyDone j cycle error
  | none => s

def execFerryCopyDone (cycle : Nat) (error : Bool) (s : State) : Out := done s (s.ferryCopyEnd cycle error)

/-- The fill copy of a shadow ends: it holds the state regions; the journal of the frame is still to be applied (R240). -/
def State.shadowFilled (s : State) (t : Nat) : State :=
  let r := s.task t
  let k := s.core r.berth
  if r.sh == .filling && r.fillOn && !r.filled then
    s.setTask t { r with filled := true, shX := sub k.mems.x k.image.xsbase (16 * k.image.xslen),
                         shY := sub k.mems.y k.image.ysbase (16 * k.image.yslen) }
  else s

def execShadowFillDone (t : Fin 32) (s : State) : Out := done s (s.shadowFilled t.val)

/-- The journal entries of a task's frame have been applied (R239, R240). -/
def State.journalEnd (s : State) (t : Nat) : State :=
  if (s.task t).applying.isEmpty then s else s.modTask t TaskRec.applied

def execJournalApplied (t : Fin 32) (s : State) : Out := done s (s.journalEnd t.val)

/-- A berth's memories are filled (R168): what waits for the fill falls due, and a berth that no task loads takes its new state
(R236, R256). -/
def State.berthFilled (s : State) (b : Nat) : State :=
  if s.ferry.fills.contains b then
    let t := { s with ferry := { s.ferry with fills := s.ferry.fills.erase b } }
    let u := if (t.core b).load.isSome then t else (t.setCore b (emptyCore (t.restState b))).rested b
    u.release (fun w => w == Wait.fill b)
  else s

def execBerthFillDone (b : Fin 32) (s : State) : Out := done s (s.berthFilled b.val)

/-! ## Tests -/

/-- A home berth has retired: the spare that runs its task is a spare no longer (R250). -/
def State.spareLost (s : State) (b : Nat) : State :=
  let run := (s.task b).berth
  if run != b && s.designated run then s.setReg F.SC_SPARE (setBf (s.reg F.SC_SPARE) run run 0) else s

/-- A ferry has yet to copy what a berth holds. -/
def State.copyOwed (s : State) (b : Nat) : Bool :=
  (s.ferry.cur.toList ++ s.ferry.queue).any (fun j => j.src == b && !j.copied && !j.resumed)

/-- The test of a berth ends (R250); it cannot end before a ferry has copied what the berth holds (log 110). -/
def State.testEnd (s : State) (b : Nat) (pass : Bool) (repairs : Nat) : State :=
  if (s.core b).state != .testing || s.copyOwed b then s
  else
    let t := ((s.setFld (F.SCc_TEST_DONE b) 1).setFld (F.SCc_TEST_PASS b) (if pass then 1 else 0)).setFld (F.SCc_TEST_STEP b) 0
    let t := (t.setFld (F.SCc_TEST_REPAIRS b) repairs).bump (F.SCc_TEST_TESTS b)
    let task := (s.core b).task
    if pass then ((t.emptyBerth b (t.restState b)).rested b).ferryNotice 4 0 task b b 0 0
    else ((t.emptyBerth b .retired).spareLost b).ferryNotice 5 0 task b b 0 0

def execBerthTestDone (b : Fin 32) (pass : Bool) (repairs : Byte) (s : State) : Out :=
  done s (s.testEnd b.val pass repairs.toNat)

/-! ## Planned moves -/

/-- The mirror of a move ends, or meets an uncorrectable error (R253, R263). -/
def State.mirrorEnd (s : State) (t : Nat) (error : Bool) : State :=
  match (s.task t).move with
  | some mv =>
    if mv.mirrored || mv.handed.isSome then s
    else if error || s.anyBad (s.mirrorReads mv) then s.cancelMove t 2
    else s.modTask t (fun r => { r with move := some { mv with mirrored := true } })
  | none => s

def execMirrorDone (t : Fin 32) (error : Bool) (s : State) : Out := done s (s.mirrorEnd t.val error)

/-- The 64 cycles after the incoming core's first deck write have passed (R255). -/
def State.windowEnd (s : State) (t : Nat) : State :=
  match (s.task t).move with
  | some mv => if mv.handed.isSome && mv.firstWrite.isSome then s.finishMove t false else s
  | none => s

def execHandoverWindowEnd (t : Fin 32) (s : State) : Out := done s (s.windowEnd t.val)

/-- The hold of an away task has run out (R252). -/
def State.holdEnd (s : State) (t : Nat) : State :=
  if (s.task t).rvwait && (s.task t).holdLeft == 0 then s.startReturn t else s

def execReturnHoldExpiry (t : Fin 32) (s : State) : Out := done s (s.holdEnd t.val)

/-- A tested member starts to rejoin its pair (R259, R262). -/
def State.rejoinStart (s : State) (t : Nat) : State :=
  let r := s.task t
  match r.rejoin with
  | some b =>
    if r.solo && r.holdLeft == 0 && r.move.isNone && (s.core b).state == .idle && !s.ferry.fills.contains b then
      s.startMove t .join b 0 true
    else s
  | none => s

def execTandemRejoin (t : Fin 32) (s : State) : Out := done s (s.rejoinStart t.val)

end Sys2Proof.Machine
end

