-- ==== Sys2Proof/Machine/Balls.lean ====
section
/-! DEFINITION. Machine/Balls.lean: the level of each output ball, read from the state (R571, and the rules of the units that
drive them). -/

namespace Sys2Proof.Machine

/-- A ball that the device drives, by its group in the table of R571: mem are the other MA_ or MB_ balls of a DRAM channel, net and
pcie the transmitters of a link, xtal is XIN and XOUT. -/
inductive Ball
  | sdo (lane : Fin 16) | bclk (group : Fin 4) | fsync (group : Fin 4) | aestx (t : Fin 8) | mclkOut (n : Fin 4)
  | wclkOut | ppsOut | lockmon | net (port : Fin 2) | pcie | clkreq | mdc | mdio
  | qpIo (port : Fin 2) | qpIrq (port : Fin 2) | bfSclk | bfCs | bfIo | mgSda | mgAlert | tdo | dramRst | cke | mem (ch : Fin 2) | xtal
  deriving DecidableEq, Repr

/-- What a ball shows: a level, its pull, nothing, what its unit sends, or what the TAP drives. -/
inductive Level
  | low | high | pulledUp | pulledDown | released | signal | tap
  deriving DecidableEq, Repr

/-- MG_ALERT_N is low while a bit of the alert word is 1 (R306). -/
def State.alertLevel (s : State) : Level := if s.side.alert = 0 then .released else .low

/-- The balls while a DEVICE reset is held (R571): released at the inactive level, but for DRAM_RST_N, CKE, TDO and those of PD0. -/
def State.heldBall (s : State) (b : Ball) : Level :=
  match b with
  | .sdo _ | .bclk _ | .fsync _ | .aestx _ | .mclkOut _ | .wclkOut | .ppsOut | .lockmon | .mdc | .bfSclk => .pulledDown
  | .clkreq | .qpIo _ | .qpIrq _ | .bfCs | .bfIo => .pulledUp
  | .net _ | .pcie | .mdio | .mgSda | .tdo | .mem _ => .released
  | .xtal => if s.pwr.good then .signal else .released
  | .mgAlert => s.alertLevel
  | .dramRst | .cke => .low

/-- The clock balls of a group: driven by a master once MOUT runs and low before (R413, R457), inputs of a slave. -/
def State.clockBall (s : State) (g : Nat) : Level :=
  if s.on (F.TDMg_GCFG_EN g) && s.on (F.TDMg_GCFG_MASTER g) then (if s.clk.mout then .signal else .low) else .pulledDown

/-- An output lane (R420): low until its group is in RUN, released where an ASRC instance serves the group. -/
def State.laneBall (s : State) (l : Nat) : Level :=
  let g := s.fld (F.TDMl_OCFG_GROUP l)
  if !s.on (F.TDMl_OCFG_EN l) || s.served 1 g then .released else if s.grpRun g then .signal else .low

/-- DRAM_RST_N and CKE: low before step 1 of R521 ends, in the reset state of the controller and, for CKE, in self-refresh. -/
def State.dramBall (s : State) (cke : Bool) : Level :=
  let st := s.fld F.DRC_STAT_STATE
  if st = 0 ∨ cke ∧ st = 5 then .low
  else if st = 1 ∧ s.fld F.DPHY_STAT_STEP = 1 then (if cke then .low else .signal)
  else if cke then .signal else .high

/-- The other balls of a DRAM channel: high-impedance until step 1 of R521 has driven DRAM_RST_N high, and from then on as
JESD209-4B gives. -/
def State.memBall (s : State) : Level :=
  let st := s.fld F.DRC_STAT_STATE
  if st = 0 ∨ (st = 1 ∧ s.fld F.DPHY_STAT_STEP = 1) then .released else .signal

/-- The balls after the release of the reset (R571). -/
def State.liveBall (s : State) (b : Ball) : Level :=
  match b with
  | .sdo l => s.laneBall l.val
  | .bclk g | .fsync g => s.clockBall g.val
  | .aestx _ => if s.on F.SYS_READY_MPLL || s.clk.mout then .signal else .low
  | .mclkOut n => if s.on (F.MPLL_MCLKn_EN n.val) && s.clk.mout then .signal else .low
  | .wclkOut | .ppsOut => if s.on F.SYS_READY_TIME then .signal else .low
  | .lockmon => if s.lockmonDark then .low else .signal
  | .net p => if s.on F.PLL0_STAT_LOCK && s.on (F.NETx_CTRL_EN p.val) then .signal else .released
  | .pcie => if s.fld F.PCIE_STAT_SPEED = 0 then .released else .signal
  | .clkreq => .low
  | .mdc => if s.on F.NETA_MDIO_GO then .signal else .low
  | .mdio => if s.on F.NETA_MDIO_GO then .signal else .released
  | .qpIo _ => .pulledUp
  | .qpIrq p => if !s.on (F.QPn_CTRL_EN p.val) || (s.quayStore p.val).isEmpty then .high else .low
  | .bfSclk => if s.ctl.run == .booting then .signal else .low
  | .bfCs => if s.ctl.run == .booting then .signal else .high
  | .bfIo => if s.ctl.run == .booting then .signal else .pulledUp
  | .mgSda | .tdo => .released
  | .mgAlert => s.alertLevel
  | .dramRst => s.dramBall false
  | .cke => s.dramBall true
  | .mem _ => s.memBall
  | .xtal => if s.pwr.good then .signal else .released

/-- The balls that VDD_IO18, VDD_SD18 and VDD_SD085 supply (R572): all but those of PD0, of the DRAM and of the crystal. -/
def Ball.onIo (b : Ball) : Bool :=
  match b with
  | .mgSda | .mgAlert | .dramRst | .cke | .mem _ | .xtal => false
  | _ => true

/-- The level of a ball: the TAP's under EXTEST and CLAMP, none under HIGHZ (R565) and none where its rail is absent (R572). -/
def State.ball (s : State) (b : Ball) : Level :=
  if b.onIo && !s.ioPowered then .released
  else match s.tap with
    | .extest | .clamp => .tap
    | .highz => .released
    | _ => if s.pwr.por || s.pwr.held then s.heldBall b else s.liveBall b

end Sys2Proof.Machine
end

