-- ==== Sys2Proof/Machine/PowerEvents.lean ====
section
/-! DEFINITION. Machine/PowerEvents.lean: events of power, reset, clocks, references, boot, banks and DRAM (R439 to R473,
R486 to R511, R519 to R566). An event whose precondition does not hold changes nothing (log 1). -/

namespace Sys2Proof.Machine

/-- The engine is out of POR and DEVICE reset. -/
def State.awake (s : State) : Bool := !s.pwr.por && !s.pwr.held

/-- A state where a condition holds, else the state before. -/
def State.when (s : State) (b : Bool) (t : State) : State := if b then t else s

/-! ## Supplies and resets (R541, R542, R558, R582, R584) -/

def execVddAoRise (s : State) : Out := done s (s.when s.pwr.por s.porEnd)

def execVddAoFall (s : State) : Out := doneMem s s.porReset

/-- PWRGOOD rises: PD1 to PD7 are powered. -/
def State.goodRises (s : State) : State :=
  let t := { s with pwr := { s.pwr with good := true } }
  if !t.pwr.por && t.powered then t.setPds 0 else t

def execPwrgoodRise (s : State) : Out := done s (s.when (!s.pwr.good) s.goodRises)

/-- PWRGOOD falls: a DEVICE reset, held until it has risen again. With RESET_N low it is the one reset that RESET_N began, and its
cause becomes 2 (R582, log 138). -/
def State.goodFalls (s : State) : State :=
  let t := { s with pwr := { s.pwr with good := false } }
  if t.pwr.por then t
  else
    let u := t.unblock.deviceReset 2
    if t.pwr.held && t.fld F.RST_STAT_LAST == 1 then u.setFld F.RST_STAT_DEVCNT (t.fld F.RST_STAT_DEVCNT) else u

def execPwrgoodFall (s : State) : Out := doneMem s (s.when s.pwr.good s.goodFalls)

/-- RESET_N low. -/
def State.resetLow (s : State) : State :=
  if s.pwr.por then s else if s.pwr.good then s.unblock.deviceReset 1 else s.unblock

def execResetNLow (s : State) : Out := doneMem s s.resetLow

def execDeviceResetRelease (bootsel : BitVec 3) (s : State) : Out := done s (s.releaseReset bootsel.toNat)

/-! ## Tamper (R504 to R506) -/

def execTamperN (s : State) : Out := doneMem s (s.tamper 1)
def execVoltageGlitch (s : State) : Out := doneMem s (s.tamper 2)
def execClockGlitch (s : State) : Out := doneMem s (s.tamper 4)
def execTamperWipeDone (s : State) : Out := done s s.wipeDone

/-! ## Temperature (R548 to R551) -/

def execTempSample (temps : List Temp) (s : State) : Out := done s (s.tempSample temps)

def execThermalShutdown (gradient : Bool) (s : State) : Out := doneMem s (s.shutdown gradient)

/-- TS0 has read below 95 degC for 1 s (R551). -/
def State.ts0Cool (s : State) : Bool := s.pwr.cool == 1000

def execShutdownRelease (s : State) : Out := done s (s.when s.ts0Cool s.shutdownEnd)

/-! ## Clocks (R439 to R458) -/

/-- 256 good windows: the XO is stable. -/
def execXoStable (s : State) : Out :=
  done s (s.when (s.awake && s.fld F.CKM_XO_GOOD == 256 && !s.on F.CKM_STAT_XOSTABLE)
    ((s.setFld F.CKM_STAT_XOSTABLE 1).setFld F.CKM_STAT_XOFAIL 0).bringUp)

/-- PLL0 locks on a band. While it coasted, its relock ends in a DEVICE reset (R450). Else the domains move to the root, and
what waits for PLL0 starts: the media PLL's selection, DRAM training, a fast start. -/
def State.pllLock (s : State) (band : Nat) : State :=
  if s.on F.PLL0_STAT_COAST then s.deviceReset 5
  else
    let t := (s.setFld F.PLL0_STAT_LOCK 1).setFld F.PLL0_STAT_BAND band
    let t := { t with clk := { t.clk with moves := [7, 3, 2, 6, 4, 5, 1, 0] } }
    let t := t.mpllSelect.trainStart false
    if t.pwr.fast then t.fastBanks.bringUp.bootStart else t.bringUp

def execPll0Lock (band : BitVec 3) (s : State) : Out :=
  doneMem s (s.when (s.awake && s.on F.CKM_STAT_XOSTABLE && !s.on F.PLL0_STAT_LOCK) (s.pllLock band.toNat))

def execDomainSwitchDone (d : Fin 8) (s : State) : Out := done s (s.when (s.muxBusy d.val) (s.muxDone d.val))

/-- The accesses in flight across the crossings of a domain that the model holds, lost with an error response (R445, log 135): of
the fabric and the cores their deck reads, which deliver free values, and their posted deck writes; of the fabric and the DRAM
controller the lines of the recorders. Registers, memories and state stay. -/
def State.domainReset (s : State) (d : Nat) : State :=
  let t := if d = 0 ∨ d = 2 then
      all32.foldl (fun t c =>
        let k := t.core c
        if k.reads.isEmpty && k.writes.isEmpty then t
        else
          let lost := fun (i : Nat) => some ((Config.freeWord (t.free + i)).setWidth 32)
          let reads := (k.reads.zip (List.range k.reads.length)).map (fun e => { e.1 with after := 0, got := lost e.2 })
          { t.setCore c { k with writes := [], reads := reads } with free := t.free + k.reads.length }) s
    else s
  if d = 2 ∨ d = 5 then { t with dram := { t.dram with recs := [] } } else t

/-- A hung switch: the new clock is forced, and the domain is reset (R444, R445). A domain that has failed has had its CLKFAIL (R473). -/
def State.muxHang (s : State) (d : Nat) : State :=
  let t := ((s.setFld (ckmBit F.CKM_STAT_CKMUX_HANG d) 1).muxDone d).domainReset d
  if s.clk.toSrc.contains d then t else t.clkFail 4 d 0

def execCkmuxHang (d : Fin 8) (s : State) : Out := done s (s.when (s.muxBusy d.val) (s.muxHang d.val))

/-- A failure of SRC or D7 (R450). -/
def State.guardFail (s : State) (src : Bool) : State :=
  let t := s.alertBit 2
  { t with pwr := { t.pwr with srcBad := src || t.pwr.srcBad } }.deviceReset 4

/-- A window of the clock monitors ends: the guard class is judged first, then the service class, whose XO and PLL0 failures
abandon a switch of the selector (R449, R450, R473). -/
def State.clockWindow (s : State) (c : ClockCounts) : State :=
  let bad := s.windowBad c
  let t := { s.windowShow c with clk := { s.clk with bad := bad } }
  if s.pwr.srcBad then (if c.srcGood then { t with pwr := { t.pwr with srcBad := false } } else t)
  else if s.pwr.held then t
  else if s.on F.PLL0_STAT_LOCK && !c.srcGood then t.guardFail true
  else if bad.getD 7 0 == 2 then t.guardFail false
  else
    let u := t.windowJudge c
    if bad.getD 8 0 == 2 || bad.getD 9 0 == 2 then u.abandonSwitch else u

def execClockMonitorWindow (counts : ClockCounts) (s : State) : Out :=
  doneMem s (s.when (!s.pwr.por) (s.clockWindow counts))

def execSrcTrim (count : Nat) (s : State) : Out := done s (s.when (!s.pwr.por) (s.srcTrim count))

/-- A gate that waits to close may do so: its domain's multiplexer is not switching (R473). -/
def State.mayClose (s : State) (n b : Nat) : Bool := s.clk.closing.contains (n, b) && !s.muxBusy (gateDomain n b)

def execGateClose (reg : Fin 4) (bit : Fin 32) (s : State) : Out :=
  done s (s.when (s.mayClose reg.val bit.val) (s.gateClose reg.val bit.val))

/-- A gate closes on accesses still outstanding, which end in an error response (R447): of the DRAM controller the model holds the
lines of the recorders. -/
def State.gateCut (s : State) (n b : Nat) : State :=
  let t := s.gateClose n b
  if n = 1 ∧ b = 13 then { t with dram := { t.dram with recs := [] } } else t

def execGateCloseTimeout (reg : Fin 4) (bit : Fin 32) (s : State) : Out :=
  done s (s.when (s.mayClose reg.val bit.val) ((s.gateCut reg.val bit.val).setFld F.CKG_STAT_CUT 1))

/-- The media PLL is on a band and neither locked nor coasting. -/
def State.mpllSeeks (s : State) : Bool := s.clk.band.isSome && !s.on F.MPLL_STAT_LOCK && !s.on F.MPLL_STAT_COAST

def execMpllLock (s : State) : Out := done s (s.when s.mpllSeeks s.mpllLock)

/-- The media PLL coasts, from lock or from a reacquisition, in which MOUT runs (R455). -/
def execMpllCoast (s : State) : Out :=
  done s (s.when (s.on F.MPLL_STAT_LOCK || (s.mpllSeeks && s.clk.mout)) (s.mpllUnlock.setFld F.MPLL_STAT_COAST 1))

/-- Reacquisition from the frozen value, or a new selection at the edge of the band (R455). -/
def execMpllReacquire (atBandEdge : Bool) (s : State) : Out :=
  done s (s.when (s.on F.MPLL_STAT_COAST) (if atBandEdge then s.mpllSelect else s.setFld F.MPLL_STAT_COAST 0))

/-! ## References (R460 to R465) -/

def execRefPhaseSample (i : Fin 12) (phase : Int) (s : State) : Out :=
  done s (s.when (s.refEn i.val) (s.refSample i.val phase))

/-- An input becomes absent. What the engine itself knows of PTP and AES3 inputs decides for those. -/
def State.refGone (s : State) (i : Nat) : State :=
  if !s.refEn i || s.refState i == refAbs || (i == 0 || (2 ≤ i && i < 10)) && s.refPresent i 0 then s
  else (s.setRef i refAbs).selAsk

def execRefAbsent (i : Fin 12) (s : State) : Out := done s (s.refGone i.val)

def execRefMeasurementDone (i : Fin 12) (offset : Int) (hz : Nat) (s : State) : Out :=
  done s (s.refMeasured i.val offset hz)

/-- An input whose time in a state has run out. -/
def State.refTimed (s : State) (i st next : Nat) : State :=
  if s.refState i == st && s.rsel.left.getD i 0 == 0 then (s.setRef i next).selAsk else s

def execRefWtrExpiry (i : Fin 12) (s : State) : Out := done s (s.refTimed i.val refWait refQual)
def execRefQualTimeout (i : Fin 12) (s : State) : Out := done s (s.refTimed i.val refDrift refOut)

def execRselSwitchDone (a : Int) (s : State) : Out :=
  done s (s.when (s.firmware && s.selState == selSwitch) (s.switchDone a))

/-! ## Registers (R15, R18, R275, R327, R492, R557, R591) -/

/-- A write of a register that has no row of its own; through BAR0 the address is the offset there (R298). -/
def State.regWrite (s : State) (a : Nat) (v : W32) (bar0 : Option (Fin 4)) : State :=
  if !s.awake || a % 4 != 0 then s
  else match bar0 with
    | some pf => s.barWrite pf.val a v
    | none => s.writeReg a v false

def execRegisterWrite (addr : Nat) (v : W32) (bar0 : Option (Fin 4)) (s : State) : Out :=
  doneMem s (s.regWrite addr v bar0)

/-- A read of a register, or of BAR0 at an offset: its word is brought out. -/
def State.regRead (s : State) (a : Nat) (bar0 : Option (Fin 4)) : State :=
  if !s.awake || a % 4 != 0 then s
  else
    let r := match bar0 with
      | some pf => s.barRead pf.val a
      | none => s.readReg a
    { r.2 with side := { r.2.side with data := [r.1] } }

def execRcRead (addr : Nat) (bar0 : Option (Fin 4)) (s : State) : Out := done s (s.regRead addr bar0)
def execLatchRead (addr : Nat) (s : State) : Out := done s (s.regRead addr none)

def execMoorBindWrite (m : Fin 8) (v : W32) (s : State) : Out := done s (s.regWrite (F.MOOR_BINDm m.val) v none)
def execEccTestRawWrite (v : W32) (s : State) : Out := done s (s.regWrite F.ECC_TEST_CTRL v none)
def execGwdtKick (v : W32) (s : State) : Out := done s (s.regWrite F.RST_GWDT v none)

def execGwdtExpiry (s : State) : Out :=
  doneMem s (s.when (s.awake && s.on F.RST_GWDT_RUN && s.pwr.guard == 0) (s.deviceReset 3))

/-! ## Boot and controllers (R554 to R563) -/

/-- SYS_BOOT written while the loader runs. -/
def State.goWrite (s : State) (v : W32) : State :=
  let t := s.writeReg F.SYS_BOOT v false
  if bit v 31 then t.loaderGo.1 else t

def execLoaderGo (v : W32) (s : State) : Out := doneMem s (s.when (s.ctl.run == .loader) (s.goWrite v))

def execBootFlashDone (copy0 copy1 : List Byte) (s : State) : Out := doneMem s (s.bootFlash copy0 copy1)

/-- The controllers run. -/
def State.ctlRuns (s : State) : Bool := s.ctl.run == .firmware || s.ctl.run == .loader || s.ctl.run == .booting

def execCtlLockstepMismatch (s : State) : Out := doneMem s (s.when s.ctlRuns (s.ctlRestart 1 0))
def execCtlWatchdogExpiry (s : State) : Out := doneMem s (s.when s.ctlRuns (s.ctlRestart 2 0))

/-- A controller restart ends; the firmware that runs again takes up its work. -/
def State.restartEnd (s : State) (copy0 copy1 : List Byte) : State :=
  let t := s.ctlRestartDone copy0 copy1
  if s.ctl.run == .restarting && t.ctl.run == .firmware then t.ctlResume else t

def execCtlRestartDone (copy0 copy1 : List Byte) (s : State) : Out := doneMem s (s.restartEnd copy0 copy1)

/-! ## Banks (R486, R490, R498, R499, R543) -/

/-- A corrected word written back, unless another master has written it in the meantime (R486). -/
def State.writeBack (s : State) (a : Nat) : State :=
  if s.markAt a == some .single then (s.setMark a none).ceRecord a else s

def execEccWriteBack (addr : Nat) (s : State) : Out := done s (s.writeBack addr)

/-- The scrubber and the march engine run: MEMT is ready and the unit's gate is open. -/
def State.memtRuns (s : State) (gate : Nat) : Bool := s.unit F.SYS_READY_MEMT (1, gate)

def execScrubWord (found : Finding) (cycles : Nat) (s : State) : Out :=
  done s (s.when (s.memtRuns 20) (s.scrubWord found cycles))

def execMarchDone (fails : List SubFail) (addr : Nat) (s : State) : Out :=
  doneMem s (s.when (s.on F.MARCH_STAT_RUN) (s.marchEnd fails addr))

def execBankReady (bank : Nat) (fails : List SubFail) (s : State) : Out :=
  doneMem s (s.bankReady bank fails)

def execPowerDone (d : Fin 8) (s : State) : Out := doneMem s (s.powerDone d.val)

/-! ## DRAM (R519 to R523, R535) -/

/-- PLL0 is locked and D5 runs on it. -/
def State.dramClock (s : State) : Bool := s.awake && s.on F.PLL0_STAT_LOCK && s.domOk 5

def execDramTrainingStep (r : TrainResult) (s : State) : Out := doneMem s (s.when s.dramClock (s.trainStep r))

def execDramRefresh (chB : Bool) (track : Track) (s : State) : Out :=
  done s (s.when s.dramClock (s.dramRefresh chB track))

def execMr4Poll (rate : BitVec 3) (s : State) : Out := done s (s.when s.dramClock (s.mr4 rate.toNat))

def execPatrolRead (singles bads : List (Fin 8)) (s : State) : Out :=
  done s (s.when s.dramClock (s.patrol (singles.map (·.val)) (bads.map (·.val))))

def execRecorderWriteDone (c : Fin 32) (s : State) : Out := doneMem s (s.capDone c.val)

/-! ## Fuses and boundary scan (R354, R565) -/

/-- The fuses of the oldest LIFECYCLE are programmed, and the secure bank is wiped; a wipe of this kind sends no notice (R506).
Its reply uses the key that M0 held before the wipe (R354). -/
def State.fuseDone (s : State) : State :=
  match s.sec.fusing with
  | [] => s
  | (pid, target) :: rest =>
    let t := { s with otp := { s.otp with lc := target }, sec := { s.sec with fusing := rest },
                      ctl := { s.ctl with oldKey := ins s.ctl.oldKey pid (s.key 0) } }.wipeSecure
    let t := t.setFld F.SEC_STAT_WIPED 1
    State.flushDue { t with ctl := { t.ctl with waits := t.ctl.waits.filter (fun w => w != (pid, Wait.fuses)) } }

def execLifecycleFuseDone (s : State) : Out := doneAll s s.fuseDone

/-- An instruction of the TAP; it answers in every life-cycle state while PD0 is powered. -/
def State.scan (s : State) (i : Tap) : State := s.when (!s.pwr.por) { s with tap := i, side := { s.side with debug := false } }

def execBypass (s : State) : Out := done s (s.scan .bypass)
def execSamplePreload (s : State) : Out := done s (s.scan .sample)
def execExtest (s : State) : Out := done s (s.scan .extest)
def execClamp (s : State) : Out := done s (s.scan .clamp)
def execHighz (s : State) : Out := done s (s.scan .highz)

/-- IDCODE of a stepping. -/
def idcodeOf (step : Nat) : W32 := 0x114806B9 + BitVec.ofNat 32 (0x10000000 * step)

/-- IDCODE brings the identity word out on TDO, which drives only while VDD_IO18 is present (R572). -/
def State.idcode (s : State) : State :=
  if s.pwr.por then s
  else { s.scan .idcode with side := { s.side with debug := false, data := if s.ioPowered then [idcodeOf s.otp.step.toNat] else [] } }

def execIdcode (s : State) : Out := done s s.idcode

end Sys2Proof.Machine
end

