-- ==== Sys2Proof/Machine/LinkEvents.lean ====
section
/-! DEFINITION. Machine/LinkEvents.lean: events of the host links and of MGMT (R272, R285 to R307). -/

namespace Sys2Proof.Machine

/-! ## PCIe (R296 to R300) -/

def execPcieApertureWrite (pf : Fin 4) (m : Fin 8) (cls : Fin 4) (words : List W32) (how : Arrival) (s : State) : Out :=
  doneMem s (s.when s.awake (s.apertureWrite pf.val m.val m cls.val words how))

def execPcieDbWrite (pf : Fin 4) (m : Fin 8) (v : W32) (s : State) : Out :=
  doneMem s (s.when s.awake (s.doorbell pf.val m v))

/-- Bus Master Enable of a function. -/
def State.bmeSet (s : State) (pf : Nat) (up : Bool) : State :=
  { s with pcie := { s.pcie with bme := s.pcie.bme.set pf up } }

def execPcieBmeChange (pf : Fin 4) (up : Bool) (s : State) : Out := done s (s.when s.awake (s.bmeSet pf.val up))

def execPcieFlr (pf : Fin 4) (s : State) : Out := done s (s.when s.awake (s.linkReset (· == pf.val)))
def execPerstN (s : State) : Out := done s (s.when s.awake s.pcieDown)
def execPcieLinkLoss (s : State) : Out := done s (s.when s.awake s.pcieDown)

/-- The data link layer is up (R564). -/
def State.pcieUp (s : State) (speed width : Nat) : State :=
  ((s.setFld F.PCIE_STAT_SPEED speed).setFld F.PCIE_STAT_WIDTH width).setReady [F.SYS_READY_PCIE]

def execPcieLinkUp (speed : BitVec 3) (width : BitVec 2) (s : State) : Out :=
  done s (s.when (s.awake && speed != 0 && s.on F.PLL0_STAT_LOCK) (s.pcieUp speed.toNat width.toNat))

def execReplyDma (m : Fin 8) (s : State) : Out := done s (s.when s.awake (s.replyDma m))
def execMessageSpacingEnd (m : Fin 8) (s : State) : Out := done s (s.spacingEnd m.val)

/-! ## Quay ports (R301 to R303) -/

def execQpPacket (port : Fin 2) (words : List W32) (partialWord ended : Bool) (s : State) : Out :=
  doneMem s (s.when s.awake (s.quayPacket port.val words partialWord ended))

def execQpReply (port : Fin 2) (whole : Bool) (s : State) : Out := done s (s.when s.awake (s.quayReply port.val whole))
def execQpStatus (port : Fin 2) (s : State) : Out := done s (s.when s.awake (s.quayStatus port.val))

/-- MRESET names a mooring bound to the port, or is ignored. -/
def State.quayReset (s : State) (n : Nat) (w : W32) : State :=
  if h : w.toNat - 0x4D520000 < 8 then
    let m : Fin 8 := ⟨w.toNat - 0x4D520000, h⟩
    if s.quayOpen n && 0x4D520000 ≤ w.toNat && s.fld (F.MOOR_BINDm_LINK m.val) == 4 + n then s.mooringReset m else s
  else s

def execQpMreset (port : Fin 2) (w : W32) (s : State) : Out := done s (s.when s.awake (s.quayReset port.val w))

/-- A first byte that selects no operation. -/
def quayBad (op : Byte) : Bool := op != 0x5C && op != 0x3A && op != 0x96 && op != 0x6E

def execQpBadOpcode (port : Fin 2) (op : Byte) (s : State) : Out :=
  done s (s.when (s.awake && s.quayOpen port.val && quayBad op) (s.bump (F.QPn_STAT_BADOP port.val)))

/-! ## Packets (R290 to R292) -/

def execPacketStart (s : State) : Out := doneMem s (s.when s.awake s.packetStart)

/-! ## MGMT (R305 to R307) -/

def execMgmtWrite (index : Byte) (s : State) : Out :=
  done s (s.when (!s.pwr.por) { s with side := { s.side with mgmtIndex := index } })

def execMgmtRead (bytes : Nat) (s : State) : Out :=
  done s (s.when (!s.pwr.por) (State.mgmtRead (bytes % 4) (bytes / 4) s []))

end Sys2Proof.Machine
end

