-- ==== Sys2Proof/Machine/NetEvents.lean ====
section
/-! DEFINITION. Machine/NetEvents.lean: events of the network ports, the time unit, TDM slave groups, AES3 receivers and ASRC
instances (R363 to R403, R414 to R434). An event whose precondition does not hold changes nothing (log 1). -/

namespace Sys2Proof.Machine

/-! ## Links and the firmware's answers (R363 to R369) -/

/-- A port goes up, goes down or changes speed; its SYS_READY bit follows its link (R322, R365). -/
def State.netLink (s : State) (b : Bool) (speed : Nat) : State :=
  let t := s.linkChange b speed
  let t := if speed = 0 then t.clearReady [netReady b] else t.bringUp
  (if t.on F.SYS_READY_NETA || t.on F.SYS_READY_NETB then t else t.clearReady [F.SYS_READY_PTPLOCK]).ptpFollow

def execNetLinkChange (netB : Bool) (speed : BitVec 3) (s : State) : Out :=
  done s (s.when (s.awake && s.pd 5 == 0 && speed.toNat ≤ 5) (s.netLink netB speed.toNat))

/-- A frame that an enabled port hears. -/
def State.hears (s : State) (b : Bool) : Bool := s.awake && s.netUp b && !s.tapHolds

/-- What a MAC does with a frame of a length on the wire (R363): it takes it, or counts it in RXERR or RXOVF. -/
def State.macTakes (s : State) (b : Bool) (m : MacIn) (bytes : Nat) (take : State) : State :=
  if m == .bad || bytes < 64 || 1522 < bytes then s.bump (F.NETx_STAT_RXERR (netIx b))
  else if m == .lost then s.bump (F.NETx_STAT_RXOVF (netIx b))
  else take

/-- A request to a port's own address, while the firmware runs (R367). -/
def State.asks (s : State) (b : Bool) (ip : W32) : Bool :=
  s.hears b && s.firmware && s.reg (F.NETx_IP (netIx b)) == ip && ip != 0

def execArpRequestRx (netB : Bool) (ip : W32) (s : State) : Out :=
  done s (s.when (s.asks netB ip) (s.sentOwn netB (.arpReply ip)))

def execIcmpEchoRx (netB : Bool) (ip : W32) (data : List Byte) (s : State) : Out :=
  done s (s.when (s.asks netB ip && data.length ≤ 1472) (s.sentOwn netB (.icmpReply ip data)))

/-- How long an older querier is taken as present after its query, in the counter's units: 260 s, the Older Version Querier
Present Timeout of RFC 3376 with its default values (log 130). -/
def querierTime : Nat := 260 * secUnits

/-- An IGMP query: its version puts the port into a compatibility mode for a while (R368), and every running receive context of
the port, or those of one group, are reported (R369). -/
def State.igmpAnswer (s : State) (b : Bool) (v : IgmpVersion) (group : W32) : State :=
  let heard := fun (k : Nat) =>
    { s with net := { s.net with queriers := ins s.net.queriers (4 * netIx b + k) (s.time.t48 + querierTime) } }
  let t := match v with
    | .v1 => heard 1
    | .v2 => heard 2
    | .v3 => s
  t.net.ctxs.foldl (fun u e =>
    if e.2.run && !e.2.tx && (group == 0 || e.2.dst b == group) then u.igmpOn e.2 b false else u) t

def execIgmpQueryRx (netB : Bool) (version : IgmpVersion) (group : W32) (s : State) : Out :=
  done s (s.when (s.hears netB && s.firmware) (s.igmpAnswer netB version group))

/-- The second unsolicited report of a context (R369). -/
def State.igmpSecond (s : State) (n : Nat) : State :=
  match s.ctx n with
  | some c => if c.run && !c.tx && c.reports == 1 && s.firmware then (s.setCtx n { c with reports := 0 }).igmp c else s
  | none => s

def execIgmpReportTimer (ctx : Fin 512) (s : State) : Out := done s (s.when s.awake (s.igmpSecond ctx.val))

/-! ## Network tap (R339, R402) -/

/-- A frame matches an enabled filter. -/
def State.tapWants (s : State) (f : TapIn) : Bool :=
  s.net.filters.any (fun e => bit e.2 31 && (match bf e.2 17 16 with
    | 0 => f.etherType.toNat == bf e.2 15 0
    | 1 => f.udp.any (fun u => u.dport.toNat == bf e.2 15 0)
    | 2 => f.ipProto.any (fun p => p.toNat == bf e.2 15 0)
    | _ => false))

/-- A PTP message on the profile's transport, an ARP request or ICMP echo request for NETx_IP, or an IGMP message: the tap takes
none of them (R402). -/
def State.tapBars (s : State) (f : TapIn) : Bool :=
  f.request.any (· == s.reg (F.NETx_IP (netIx f.netB))) || f.ipProto == some 2 || (match s.fld F.TIME_CFG_PROFILE with
    | 3 => f.etherType == 0x88F7
    | 4 => false
    | _ => f.udp.any (fun u => u.dport == 319 || u.dport == 320))

/-- A frame that no running receive context takes: queued, or dropped and counted where the 64 KiB queue is full. -/
def State.tapFrame (s : State) (f : TapIn) : State :=
  if !s.firmware || s.tapBars f || !s.tapWants f then s
  else if 65536 < (s.net.tapQ.map (fun e => e.2.length)).sum + f.bytes.length then
    { s with net := { s.net with tapDrop := min 255 (s.net.tapDrop + 1) } }
  else { s with net := { s.net with tapQ := s.net.tapQ ++ [(f.netB, f.bytes)] } }

/-- The running receive context that takes a frame, where the stream plane runs. -/
def State.taker (s : State) (b : Bool) (u : UdpIn) : Option (Nat × Ctx) :=
  if s.gateOpen 1 10 && !s.rateStopped then s.net.ctxs.find? (fun e => e.2.takes b u) else none

/-- A received frame that is not RTP. -/
def State.tapRx (s : State) (f : TapIn) : State :=
  s.macTakes f.netB f.mac (f.bytes.length + 4)
    (if f.udp.any (fun u => (s.taker f.netB u).isSome) then s else s.tapFrame f)

/-- A received RTP frame (R363, R375): where no context takes it, the tap's filters judge it (R402). -/
def State.rtpRx (s : State) (f : RtpIn) : State :=
  s.macTakes f.netB f.mac (f.bytes.length + 4) (match s.taker f.netB f.udp with
    | some (n, c) => s.rtpIn n c f
    | none => s.tapFrame ⟨f.netB, f.mac, none, some f.udp, 0x0800, some 17, f.bytes⟩)

def execRtpPacketRx (f : RtpIn) (s : State) : Out := done s (s.when (s.hears f.netB) (s.rtpRx f))

def execTapFrameRx (f : TapIn) (s : State) : Out := done s (s.when (s.hears f.netB) (s.tapRx f))

/-! ## Stream packets (R364, R381) -/

/-- A transmit context whose packet is ready; late where a packet time has passed since (R364). -/
def State.packetReady (s : State) (c : Ctx) (late : Bool) : Bool :=
  s.ctxReady c && decide (c.next + 2 * spp s.rate c.ptime ≤ s.msi) == late

/-- A packet is discarded on the ports on which it has not begun to leave within one packet time, and counted for each (R364). -/
def State.streamLate (s : State) (n : Nat) : State :=
  match s.ctx n with
  | some c => if s.packetReady c true then (c.unsent.foldl (fun t _ => t.bump (F.STRMn_PKT_DROP n)) s).afterPacket n c else s
  | none => s

/-- A packet begins to leave on ports that are up. -/
def State.streamTx (s : State) (n : Nat) (onA onB : Bool) : State :=
  match s.ctx n with
  | some c =>
    let ports := c.unsent.filter (fun b => (if b then onB else onA) && s.netUp b)
    if s.packetReady c false && !ports.isEmpty then s.sendPacket n c ports else s
  | none => s

/-- The packetiser runs. -/
def State.packetises (s : State) : Bool := s.awake && s.gateOpen 1 10 && !s.rateStopped

/-- The frames that a stream packet held up leave behind the last one (R364). -/
def State.sendBehind (s : State) : State := (s.sendWaiting false).sendWaiting true

def execStreamPacketTx (ctx : Fin 512) (onA onB : Bool) (s : State) : Out :=
  done s (s.when s.packetises (s.streamTx ctx.val onA onB).sendBehind)
def execStreamTxDiscard (ctx : Fin 512) (s : State) : Out :=
  done s (s.when s.packetises (s.streamLate ctx.val).sendBehind)

/-! ## PTP (R394 to R401) -/

/-- The PTP software runs: not during a controller restart, and not with the servo off (R394, R400). -/
def State.ptpRuns (s : State) : Bool := s.firmware && s.fld F.TIME_STAT_SERVO != svOff

/-- A port is a slave's: UNCALIBRATED or SLAVE. -/
def State.ptpSlave (s : State) (b : Bool) : Bool := s.fld (portFld b) == 8 || s.fld (portFld b) == 9

/-- Profile 3 measures peer delay, profiles 0 to 2 end-to-end delay (R394). -/
def State.peerDelay (s : State) : Bool := s.fld F.TIME_CFG_PROFILE == 3

/-- A PTP message leaves a port; event messages (types 0 to 3) go before stream packets (R364, R393). -/
def State.ptpSend (s : State) (b : Bool) (kind : Nat) (stamp corr : Int) (answers : Option (BitVec 80 × W16)) : State :=
  let dst : PtpDst := if s.peerDelay then .ethernet 0x0180C200000E 0x88F7
    else .udp 0xE0000181 (if kind < 4 then 319 else 320) (s.fld (F.NETx_CTRL_PTPDSCP (netIx b)))
  let m : OwnMsg := .ptp kind (s.fld F.TIME_CFG_DOMAIN) dst stamp corr answers
  if kind < 4 then s.sent b (.own (s.ownTag b) m) else s.sentOwn b m

/-- A PTP message received on a port (R393, R395, R397). -/
def State.ptpRx (s : State) (b : Bool) (msg : PtpMsg) : State :=
  let p := s.ptpPort b
  match msg with
  | .announce d => (s.announce b d).ptpFollow
  | .sync rx t1 corr => if s.ptpSlave b then (s.syncDone b (s.ingress b rx) t1 corr).ptpFollow else s
  | .syncTwoStep rx seq corr =>
    if s.ptpSlave b then s.modPtp b (fun p => { p with open_ := some (seq, s.ingress b rx, corr) }) else s
  | .followUp seq t1 corr =>
    match p.open_ with
    | some (q, t2, c) => if s.ptpSlave b && q == seq then (s.syncDone b t2 t1 (c + corr)).ptpFollow else s
    | none => s
  | .delayReq rx from_ seq corr =>
    if !s.peerDelay && s.fld (portFld b) == 6 then s.ptpSend b 9 (s.ingress b rx) corr (some (from_, seq)) else s
  | .delayResp t4 corr =>
    match p.req, p.down with
    | some t3, some d =>
      if !s.peerDelay && s.ptpSlave b then
        (s.modPtp b (fun p => { p with req := none })).ptpDelay b (d + (t4 - t3 - corr))
      else s
    | _, _ => s
  | .pdelayReq rx tx from_ seq corr =>
    if s.peerDelay then
      (s.ptpSend b 3 (s.ingress b rx) corr (some (from_, seq))).ptpSend b 10 (s.egress b tx) 0 (some (from_, seq))
    else s
  | .pdelayResp rx corr =>
    match p.preq with
    | some t1 =>
      if s.peerDelay then
        (s.modPtp b (fun p => { p with preq := none })).ptpDelay b (s.ingress b rx - t1 - (corr + s.asym b))
      else s
    | none => s
  | .pdelayRespTwoStep rx t2 corr =>
    match p.preq with
    | some t1 =>
      if s.peerDelay then
        s.modPtp b (fun p => { p with preq := none, presp := some (t2, s.ingress b rx - t1 - (corr + s.asym b)) })
      else s
    | none => s
  | .pdelayFollowUp t3 corr =>
    match p.presp with
    | some (t2, d) =>
      if s.peerDelay then
        (s.modPtp b (fun p => { p with presp := none })).ptpDelay b (d - (t3 - t2) - corr)
      else s
    | none => s

def execPtpMessageRx (netB : Bool) (msg : PtpMsg) (s : State) : Out :=
  done s (s.when (s.hears netB && s.ptpRuns && s.ptpPorts netB) (s.ptpRx netB msg))

/-- A PTP message falls due (R394, R395): a master port sends Sync, with its Follow_Up, and Announce; a slave's port asks for the
path delay; with profile 3 every port that is up asks for the link delay. -/
def State.ptpTx (s : State) (b : Bool) (kind : PtpKind) (tx : Nat) : State :=
  let master := s.fld (portFld b) == 6
  let out := s.egress b tx
  match kind with
  | .sync => if master then (s.ptpSend b 0 0 0 none).ptpSend b 8 out 0 none else s
  | .announce => if master then s.ptpSend b 11 0 0 none else s
  | .delayReq =>
    if !s.peerDelay && s.ptpSlave b then (s.ptpSend b 1 0 (-(s.asym b)) none).modPtp b (fun p => { p with req := some out }) else s
  | .pdelayReq =>
    if s.peerDelay then
      (s.ptpSend b 2 0 (-(s.asym b)) none).modPtp b (fun p => { p with preq := some out, presp := none })
    else s

def execPtpMessageTx (netB : Bool) (kind : PtpKind) (tx : Nat) (s : State) : Out :=
  done s (s.when (s.hears netB && s.ptpRuns && s.ptpPorts netB) (s.ptpTx netB kind tx))

/-- The announce receipt timeout of a port: it becomes master where its role lets it, else it listens. -/
def State.announceLost (s : State) (b : Bool) : State :=
  let t := s.modPtp b (fun p => { p with heard := none })
  ((t.setPort b (if s.fld F.TIME_CFG_ROLE = 0 then 4 else 6)).bmca).ptpFollow

def execAnnounceReceiptTimeout (netB : Bool) (s : State) : Out :=
  let p := s.fld (portFld netB)
  done s (s.when (s.hears netB && s.ptpRuns && s.ptpPorts netB && 4 ≤ p && p != 6) (s.announceLost netB))

/-! ## MDIO (R366) -/

/-- The frame reads: OP 2 of Clause 22, OP 2 and 3 of Clause 45 (IEEE 802.3; log 60). -/
def State.mdioReads (s : State) : Bool :=
  let op := s.fld F.NETA_MDIO_OP
  op == 2 || (op == 3 && s.on F.NETA_MDIO_C45)

def State.mdioEnd (s : State) (data : W16) : State :=
  let t := s.setFld F.NETA_MDIO_GO 0
  if s.mdioReads then t.setFld F.NETA_MDIO_DATA data.toNat else t

def execMdioFrameDone (data : W16) (s : State) : Out :=
  done s (s.when (s.awake && s.on F.NETA_MDIO_GO) (s.mdioEnd data))

/-! ## ASRC instances (R432, R433) -/

/-- The ratio lies in the range of R433, as Q4.24. -/
def asrcRange (r : Nat) : Bool := 2 ^ 22 ≤ r && r ≤ 2 ^ 26

/-- One frame start of a DPLL of a bandwidth in Hz (R432, log 158): a proportional-integral loop of damping 0.707 on the
prediction and the period. -/
def dpllStep (d : Dpll) (bw now : Nat) : Dpll :=
  let d1 := { d with last := some now, frames := d.frames + 1 }
  match d.last with
  | none => d1
  | some l =>
    if d.per = 0 then { d1 with per := max 1 (now - l), pred := now + (now - l) }
    else
      let e : Int := (now : Int) - d.pred
      { d1 with per := max 1 (d.per + roundDiv (9320853 * bw ^ 2 * d.per ^ 2 * e) (10 ^ 6 * secUnits ^ 2)).toNat,
                pred := (d.pred + d.per + roundDiv (4316952 * bw * d.per * e) (10 ^ 6 * secUnits)).toNat }

/-- RATIO of an input frame period, as Q4.24. -/
def State.asrcRatio (s : State) (per : Nat) : Nat := min (2 ^ 28 - 1) (roundDiv (secUnits * 2 ^ 24 : Nat) (max 1 (per * rateHz s.rate))).toNat

/-- An instance after an input frame of its source: it leaves LOCKED at the fourth consecutive start more than 0.5 % of a frame period
off its prediction, or where the ratio leaves its range; it leaves OUTRANGE where the ratio returns. -/
def State.asrcFrame (s : State) (n now : Nat) : State :=
  let st := s.fld (F.ASRCn_STAT_STATE n)
  if st < 2 then s
  else
    let d := lookD s.ports.dplls idleDpll n
    let d1 := dpllStep d (if st = 2 then 20 else 2) now
    let r := s.asrcRatio d1.per
    let off := d.per != 0 && decide (d.per < 200 * ((now : Int) - d.pred).natAbs)
    let k := if off then d.off + 1 else 0
    let t := { s with ports := { s.ports with
      dplls := insD s.ports.dplls idleDpll n { d1 with off := k, hist := if d1.per = 0 then [] else (r :: d.hist).take 1025 } } }
    if d1.per = 0 then t
    else
      let t := t.setFld (F.ASRCn_STAT_RATIO n) r
      if st = 3 ∧ asrcRange r = false then t.setAsrc n 4
      else if st = 3 ∧ 4 ≤ k then t.setAsrc n 2
      else if st = 4 ∧ asrcRange r then t.setAsrc n 2
      else t

/-- The instances that serve a source after one of its frames. -/
def State.asrcFrames (s : State) (kind n now : Nat) : State := (s.servers kind n).foldl (fun t i => t.asrcFrame i now) s

/-- What an instance keeps of its source's frames: those of the last 2 D periods (R434). -/
def State.keepPast (s : State) (l : List (Nat × SMap W24)) (now : Nat) (words : SMap W24) : List (Nat × SMap W24) :=
  (now, words) :: l.filter (fun e => now * rateHz s.rate ≤ e.1 * rateHz s.rate + 2 * asrcDelay s.rate * secUnits)

/-- ACQUIRE may end (R433): 2,048 frames after its entry, with RATIO within 1 ppm of its value 1,024 frames earlier. -/
def State.asrcReady (s : State) (n : Nat) : Bool :=
  let d := lookD s.ports.dplls idleDpll n
  s.fld (F.ASRCn_STAT_STATE n) == 2 && 2048 ≤ d.frames && (match (d.hist.head? : Option Nat), (d.hist[1024]? : Option Nat) with
    | some r, some old => decide (((r : Int) - old).natAbs * 1000000 ≤ old)
    | _, _ => false)

/-- ACQUIRE ends: LOCKED or OUTRANGE. -/
def State.asrcAcquired (s : State) (n : Nat) : State := s.setAsrc n (if asrcRange (s.fld (F.ASRCn_STAT_RATIO n)) then 3 else 4)

/-- The instances run. -/
def State.asrcRuns (s : State) : Bool := s.awake && s.gateOpen 1 14 && !s.rateStopped

def execAsrcAcquireDone (n : Fin 24) (s : State) : Out :=
  done s (s.when (s.asrcRuns && s.asrcReady n.val) (s.asrcAcquired n.val))

/-! ## TDM slave groups (R418, R419) -/

/-- A frame of a group that an instance serves: only the ratio is checked. -/
def State.servedFrame (s : State) (g : Nat) (f : TdmIn) : State :=
  let now := s.countTo f.d4
  let sw := s.fld (F.TDMg_GCFG_SW g)
  let mine := f.words.filter (fun e => e.1 < 512 && s.fld (F.TDMl_ICFG_GROUP (e.1 / 32)) == g)
  let x := { s.grp g with at_ := some now, past := s.keepPast (s.grp g).past now (mine.foldl (fun m e => ins m e.1 (slotIn sw e.2)) []) }
  let t := match s.fld (F.TDMg_GSTAT_STATE g) with
    | 1 => if x.good + 1 = 16 then (s.setGrp g { x with good := 0 }).setGrpState g 2 else s.setGrp g { x with good := x.good + 1 }
    | 3 => (s.setGrp g x).setGrpState g 2
    | _ => s.setGrp g x
  if t.grpRun g && s.gateOpen 1 14 then t.asrcFrames 1 g now else t

/-- A slave group is enabled and its port runs. -/
def State.slaveRuns (s : State) (g : Nat) : Bool :=
  s.awake && (s.rdTDM || (s.clk.mute && s.domOk 6)) && !s.rateStopped && s.on (F.TDMg_GCFG_EN g) && !s.on (F.TDMg_GCFG_MASTER g)

/-- An instant d4 D4 cycles after the last period start lies in the same period. -/
def State.inPeriodAt (s : State) (d4 : Nat) : Bool := msiOf s.rate (s.countTo d4) == s.msi

def execTdmSlaveFrame (g : Fin 4) (f : TdmIn) (s : State) : Out :=
  done s (s.when (s.slaveRuns g.val && !s.tapHolds && s.inPeriodAt f.d4) (if s.served 1 g.val then s.servedFrame g.val f else s.slaveFrame g.val f))

/-- No active edge for 2 reference periods: the frame that the clock broke off is bad (R437). -/
def State.fsyncLost (s : State) (g : Nat) : State :=
  let t := if s.grpRun g && !s.served 1 g then s.bump (F.TDMg_GSTAT_BADFRM g) else s
  let t := t.setGrp g { s.grp g with good := 0, bad := 0, at_ := none }
  if 2 ≤ s.fld (F.TDMg_GSTAT_STATE g) then t.setGrpState g 1 else t

def execTdmFsyncLoss (g : Fin 4) (s : State) : Out := done s (s.when (s.slaveRuns g.val) (s.fsyncLost g.val))

/-! ## AES3 receivers (R424 to R428) -/

/-- A receiver is enabled and its clock runs. -/
def State.rxRuns (s : State) (n : Nat) : Bool :=
  s.awake && s.rdAES && s.gateOpen 3 n && !s.rateStopped && s.on (F.AESRXn_CFG_EN n)

/-- A frame of a receiver, and the instances it feeds. -/
def State.aesRx (s : State) (n : Nat) (f : AesIn) : State :=
  let now := s.countTo f.d4
  let t := s.aesFrame n f
  if t.on (F.AESRXn_STAT_LOCK n) && t.served 0 n then
    let x := t.rx n
    let words := [(4096 + 2 * n, x.words.getD 0 0), (4096 + 2 * n + 1, x.words.getD 1 0)]
    let t := t.setRx n { x with past := t.keepPast x.past now words }
    if t.gateOpen 1 14 then t.asrcFrames 0 n now else t
  else t

def execAes3FrameRx (n : Fin 8) (f : AesIn) (s : State) : Out := done s (s.when (s.rxRuns n.val && !s.tapHolds && s.inPeriodAt f.d4) (s.aesRx n.val f))

def execAes3LockLoss (n : Fin 8) (s : State) : Out :=
  done s (s.when (s.rxRuns n.val && s.on (F.AESRXn_STAT_LOCK n.val)) (s.loseLock n.val))

end Sys2Proof.Machine
end

