-- ==== Sys2Proof/Machine/Dispatch.lean ====
section
/-! DEFINITION. Machine/Dispatch.lean: each command is given its meaning. -/

namespace Sys2Proof.Machine

/-- The effect of a command on everything but the queue. -/
def exec (i : Instr) (s : State) : Host.Outcome State Fault Refusal :=
  match i with
  | .vddAoRise => Sys2Proof.Machine.execVddAoRise s
  | .vddAoFall => Sys2Proof.Machine.execVddAoFall s
  | .pwrgoodRise => Sys2Proof.Machine.execPwrgoodRise s
  | .pwrgoodFall => Sys2Proof.Machine.execPwrgoodFall s
  | .resetNLow => Sys2Proof.Machine.execResetNLow s
  | .deviceResetRelease bootsel => Sys2Proof.Machine.execDeviceResetRelease bootsel s
  | .tamperN => Sys2Proof.Machine.execTamperN s
  | .voltageGlitch => Sys2Proof.Machine.execVoltageGlitch s
  | .clockGlitch => Sys2Proof.Machine.execClockGlitch s
  | .tamperWipeDone => Sys2Proof.Machine.execTamperWipeDone s
  | .tempSample temps => Sys2Proof.Machine.execTempSample temps s
  | .thermalShutdown gradient => Sys2Proof.Machine.execThermalShutdown gradient s
  | .shutdownRelease => Sys2Proof.Machine.execShutdownRelease s
  | .xoStable => Sys2Proof.Machine.execXoStable s
  | .pll0Lock band => Sys2Proof.Machine.execPll0Lock band s
  | .domainSwitchDone d => Sys2Proof.Machine.execDomainSwitchDone d s
  | .ckmuxHang d => Sys2Proof.Machine.execCkmuxHang d s
  | .clockMonitorWindow counts => Sys2Proof.Machine.execClockMonitorWindow counts s
  | .srcTrim count => Sys2Proof.Machine.execSrcTrim count s
  | .gateClose reg bit => Sys2Proof.Machine.execGateClose reg bit s
  | .gateCloseTimeout reg bit => Sys2Proof.Machine.execGateCloseTimeout reg bit s
  | .mpllLock => Sys2Proof.Machine.execMpllLock s
  | .mpllCoast => Sys2Proof.Machine.execMpllCoast s
  | .mpllReacquire atBandEdge => Sys2Proof.Machine.execMpllReacquire atBandEdge s
  | .refPhaseSample idx phase => Sys2Proof.Machine.execRefPhaseSample idx phase s
  | .refAbsent idx => Sys2Proof.Machine.execRefAbsent idx s
  | .refMeasurementDone idx offset hz => Sys2Proof.Machine.execRefMeasurementDone idx offset hz s
  | .refWtrExpiry idx => Sys2Proof.Machine.execRefWtrExpiry idx s
  | .refQualTimeout idx => Sys2Proof.Machine.execRefQualTimeout idx s
  | .rselSwitchDone a => Sys2Proof.Machine.execRselSwitchDone a s
  | .samplePeriod sp => Sys2Proof.Machine.execSamplePeriod sp s
  | .zcTimeout output chan => Sys2Proof.Machine.execZcTimeout output chan s
  | .stageEdge e => Sys2Proof.Machine.execStageEdge e s
  | .delayLinePassDone cycles cut => Sys2Proof.Machine.execDelayLinePassDone cycles cut s
  | .pnPhaseDone phase cycle upsets => Sys2Proof.Machine.execPnPhaseDone phase cycle upsets s
  | .xmPhaseDone phase cycle upsets => Sys2Proof.Machine.execXmPhaseDone phase cycle upsets s
  | .scAllowanceExpiry phase cycle => Sys2Proof.Machine.execScAllowanceExpiry phase cycle s
  | .watchdog c cycle => Sys2Proof.Machine.execWatchdog c cycle s
  | .bundle c cycle upset => Sys2Proof.Machine.execBundle c cycle upset s
  | .deckReadReturn c => Sys2Proof.Machine.execDeckReadReturn c s
  | .deckWriteArrive c cycle => Sys2Proof.Machine.execDeckWriteArrive c cycle s
  | .bra c cycle upset => Sys2Proof.Machine.execBra c cycle upset s
  | .call c cycle upset => Sys2Proof.Machine.execCall c cycle upset s
  | .ret c cycle upset => Sys2Proof.Machine.execRet c cycle upset s
  | .loop c cycle upset => Sys2Proof.Machine.execLoop c cycle upset s
  | .frame c cycle => Sys2Proof.Machine.execFrame c cycle s
  | .sync c cycle => Sys2Proof.Machine.execSync c cycle s
  | .trap c cycle => Sys2Proof.Machine.execTrap c cycle s
  | .faultRepeat t cycle => Sys2Proof.Machine.execFaultRepeat t cycle s
  | .stopFade t cycle => Sys2Proof.Machine.execStopFade t cycle s
  | .ferryCopyDone cycle error => Sys2Proof.Machine.execFerryCopyDone cycle error s
  | .shadowFillDone t => Sys2Proof.Machine.execShadowFillDone t s
  | .berthTestDone b pass repairs => Sys2Proof.Machine.execBerthTestDone b pass repairs s
  | .berthFillDone b => Sys2Proof.Machine.execBerthFillDone b s
  | .mirrorDone t error => Sys2Proof.Machine.execMirrorDone t error s
  | .handoverWindowEnd t => Sys2Proof.Machine.execHandoverWindowEnd t s
  | .returnHoldExpiry t => Sys2Proof.Machine.execReturnHoldExpiry t s
  | .tandemRejoin t => Sys2Proof.Machine.execTandemRejoin t s
  | .pcieApertureWrite pf m cls words how => Sys2Proof.Machine.execPcieApertureWrite pf m cls words how s
  | .pcieDbWrite pf m v => Sys2Proof.Machine.execPcieDbWrite pf m v s
  | .qpPacket port words partialWord ended => Sys2Proof.Machine.execQpPacket port words partialWord ended s
  | .qpReply port whole => Sys2Proof.Machine.execQpReply port whole s
  | .qpStatus port => Sys2Proof.Machine.execQpStatus port s
  | .qpMreset port w => Sys2Proof.Machine.execQpMreset port w s
  | .qpBadOpcode port op => Sys2Proof.Machine.execQpBadOpcode port op s
  | .packetStart => Sys2Proof.Machine.execPacketStart s
  | .replyDma m => Sys2Proof.Machine.execReplyDma m s
  | .pcieBmeChange pf up => Sys2Proof.Machine.execPcieBmeChange pf up s
  | .pcieFlr pf => Sys2Proof.Machine.execPcieFlr pf s
  | .perstN => Sys2Proof.Machine.execPerstN s
  | .pcieLinkLoss => Sys2Proof.Machine.execPcieLinkLoss s
  | .mgmtWrite index => Sys2Proof.Machine.execMgmtWrite index s
  | .mgmtRead bytes => Sys2Proof.Machine.execMgmtRead bytes s
  | .registerWrite addr v bar0 => Sys2Proof.Machine.execRegisterWrite addr v bar0 s
  | .rcRead addr bar0 => Sys2Proof.Machine.execRcRead addr bar0 s
  | .latchRead addr => Sys2Proof.Machine.execLatchRead addr s
  | .moorBindWrite m v => Sys2Proof.Machine.execMoorBindWrite m v s
  | .eccTestRawWrite v => Sys2Proof.Machine.execEccTestRawWrite v s
  | .gwdtKick v => Sys2Proof.Machine.execGwdtKick v s
  | .gwdtExpiry => Sys2Proof.Machine.execGwdtExpiry s
  | .loaderGo v => Sys2Proof.Machine.execLoaderGo v s
  | .bootFlashDone copy0 copy1 => Sys2Proof.Machine.execBootFlashDone copy0 copy1 s
  | .ctlLockstepMismatch => Sys2Proof.Machine.execCtlLockstepMismatch s
  | .ctlWatchdogExpiry => Sys2Proof.Machine.execCtlWatchdogExpiry s
  | .ctlRestartDone copy0 copy1 => Sys2Proof.Machine.execCtlRestartDone copy0 copy1 s
  | .eccWriteBack addr => Sys2Proof.Machine.execEccWriteBack addr s
  | .scrubWord found cycles => Sys2Proof.Machine.execScrubWord found cycles s
  | .marchDone fails addr => Sys2Proof.Machine.execMarchDone fails addr s
  | .bankReady bank fails => Sys2Proof.Machine.execBankReady bank fails s
  | .powerDone d => Sys2Proof.Machine.execPowerDone d s
  | .dramTrainingStep r => Sys2Proof.Machine.execDramTrainingStep r s
  | .dramRefresh chB track => Sys2Proof.Machine.execDramRefresh chB track s
  | .mr4Poll rate => Sys2Proof.Machine.execMr4Poll rate s
  | .patrolRead singles bads => Sys2Proof.Machine.execPatrolRead singles bads s
  | .recorderWriteDone c => Sys2Proof.Machine.execRecorderWriteDone c s
  | .netLinkChange netB speed => Sys2Proof.Machine.execNetLinkChange netB speed s
  | .rtpPacketRx f => Sys2Proof.Machine.execRtpPacketRx f s
  | .arpRequestRx netB ip => Sys2Proof.Machine.execArpRequestRx netB ip s
  | .icmpEchoRx netB ip data => Sys2Proof.Machine.execIcmpEchoRx netB ip data s
  | .igmpQueryRx netB version group => Sys2Proof.Machine.execIgmpQueryRx netB version group s
  | .igmpReportTimer ctx => Sys2Proof.Machine.execIgmpReportTimer ctx s
  | .tapFrameRx f => Sys2Proof.Machine.execTapFrameRx f s
  | .streamPacketTx ctx onA onB => Sys2Proof.Machine.execStreamPacketTx ctx onA onB s
  | .streamTxDiscard ctx => Sys2Proof.Machine.execStreamTxDiscard ctx s
  | .ptpMessageRx netB msg => Sys2Proof.Machine.execPtpMessageRx netB msg s
  | .ptpMessageTx netB kind tx => Sys2Proof.Machine.execPtpMessageTx netB kind tx s
  | .announceReceiptTimeout netB => Sys2Proof.Machine.execAnnounceReceiptTimeout netB s
  | .mdioFrameDone data => Sys2Proof.Machine.execMdioFrameDone data s
  | .tdmSlaveFrame g f => Sys2Proof.Machine.execTdmSlaveFrame g f s
  | .tdmFsyncLoss g => Sys2Proof.Machine.execTdmFsyncLoss g s
  | .aes3FrameRx n f => Sys2Proof.Machine.execAes3FrameRx n f s
  | .aes3LockLoss n => Sys2Proof.Machine.execAes3LockLoss n s
  | .asrcAcquireDone n => Sys2Proof.Machine.execAsrcAcquireDone n s
  | .rateRestart => Sys2Proof.Machine.execRateRestart s
  | .lifecycleFuseDone => Sys2Proof.Machine.execLifecycleFuseDone s
  | .bypass => Sys2Proof.Machine.execBypass s
  | .idcode => Sys2Proof.Machine.execIdcode s
  | .samplePreload => Sys2Proof.Machine.execSamplePreload s
  | .extest => Sys2Proof.Machine.execExtest s
  | .clamp => Sys2Proof.Machine.execClamp s
  | .highz => Sys2Proof.Machine.execHighz s
  | .nop q => Sys2Proof.Machine.execNop q s
  | .echo q => Sys2Proof.Machine.execEcho q s
  | .queryDevice q => Sys2Proof.Machine.execQueryDevice q s
  | .queryFrame q => Sys2Proof.Machine.execQueryFrame q s
  | .querySelf q => Sys2Proof.Machine.execQuerySelf q s
  | .mread q => Sys2Proof.Machine.execMread q s
  | .mwrite q => Sys2Proof.Machine.execMwrite q s
  | .mfill q => Sys2Proof.Machine.execMfill q s
  | .rate q => Sys2Proof.Machine.execRate q s
  | .slotmapKind q => Sys2Proof.Machine.execSlotmapKind q s
  | .slotmapBindin q => Sys2Proof.Machine.execSlotmapBindin q s
  | .slotmapBindout q => Sys2Proof.Machine.execSlotmapBindout q s
  | .slotmapUnbind q => Sys2Proof.Machine.execSlotmapUnbind q s
  | .timetable q => Sys2Proof.Machine.execTimetable q s
  | .xptSet q => Sys2Proof.Machine.execXptSet q s
  | .xptRead q => Sys2Proof.Machine.execXptRead q s
  | .xblk q => Sys2Proof.Machine.execXblk q s
  | .xmodeMode q => Sys2Proof.Machine.execXmodeMode q s
  | .xmodeInslot q => Sys2Proof.Machine.execXmodeInslot q s
  | .xmodeBusslot q => Sys2Proof.Machine.execXmodeBusslot q s
  | .xmodeOutslot q => Sys2Proof.Machine.execXmodeOutslot q s
  | .sosDirect q => Sys2Proof.Machine.execSosDirect q s
  | .sosGlide q => Sys2Proof.Machine.execSosGlide q s
  | .spanDefine q => Sys2Proof.Machine.execSpanDefine q s
  | .spanDelete q => Sys2Proof.Machine.execSpanDelete q s
  | .sosrd q => Sys2Proof.Machine.execSosrd q s
  | .turnAt q => Sys2Proof.Machine.execTurnAt q s
  | .turnNext q => Sys2Proof.Machine.execTurnNext q s
  | .drop q => Sys2Proof.Machine.execDrop q s
  | .taskOpen q => Sys2Proof.Machine.execTaskOpen q s
  | .taskData q => Sys2Proof.Machine.execTaskData q s
  | .taskStart q => Sys2Proof.Machine.execTaskStart q s
  | .taskInfo q => Sys2Proof.Machine.execTaskInfo q s
  | .tstopFade q => Sys2Proof.Machine.execTstopFade q s
  | .tstopCut q => Sys2Proof.Machine.execTstopCut q s
  | .tparamWrite q => Sys2Proof.Machine.execTparamWrite q s
  | .tparamReadActive q => Sys2Proof.Machine.execTparamReadActive q s
  | .tparamReadInactive q => Sys2Proof.Machine.execTparamReadInactive q s
  | .ferryUopen q => Sys2Proof.Machine.execFerryUopen q s
  | .ferryUdata q => Sys2Proof.Machine.execFerryUdata q s
  | .ferryUcommit q => Sys2Proof.Machine.execFerryUcommit q s
  | .ferryCancel q => Sys2Proof.Machine.execFerryCancel q s
  | .ferryRevert q => Sys2Proof.Machine.execFerryRevert q s
  | .ferryDrill q => Sys2Proof.Machine.execFerryDrill q s
  | .ferryInfo q => Sys2Proof.Machine.execFerryInfo q s
  | .tandemOn q => Sys2Proof.Machine.execTandemOn q s
  | .tandemOff q => Sys2Proof.Machine.execTandemOff q s
  | .tandemInfo q => Sys2Proof.Machine.execTandemInfo q s
  | .spareSet q => Sys2Proof.Machine.execSpareSet q s
  | .spareHold q => Sys2Proof.Machine.execSpareHold q s
  | .spareInfo q => Sys2Proof.Machine.execSpareInfo q s
  | .streamDefine q => Sys2Proof.Machine.execStreamDefine q s
  | .streamDelete q => Sys2Proof.Machine.execStreamDelete q s
  | .streamRead q => Sys2Proof.Machine.execStreamRead q s
  | .sctlStart q => Sys2Proof.Machine.execSctlStart q s
  | .sctlStop q => Sys2Proof.Machine.execSctlStop q s
  | .sctlStatus q => Sys2Proof.Machine.execSctlStatus q s
  | .zoneBind q => Sys2Proof.Machine.execZoneBind q s
  | .zoneClaim q => Sys2Proof.Machine.execZoneClaim q s
  | .zoneRelease q => Sys2Proof.Machine.execZoneRelease q s
  | .zoneRead q => Sys2Proof.Machine.execZoneRead q s
  | .ntapSend q => Sys2Proof.Machine.execNtapSend q s
  | .ntapRecv q => Sys2Proof.Machine.execNtapRecv q s
  | .ntapFilter q => Sys2Proof.Machine.execNtapFilter q s
  | .timeGet q => Sys2Proof.Machine.execTimeGet q s
  | .timeStep q => Sys2Proof.Machine.execTimeStep q s
  | .timeFreq q => Sys2Proof.Machine.execTimeFreq q s
  | .ptpcfg q => Sys2Proof.Machine.execPtpcfg q s
  | .refselInput q => Sys2Proof.Machine.execRefselInput q s
  | .refselMode q => Sys2Proof.Machine.execRefselMode q s
  | .refselStatus q => Sys2Proof.Machine.execRefselStatus q s
  | .realign q => Sys2Proof.Machine.execRealign q s
  | .portTdmgrp q => Sys2Proof.Machine.execPortTdmgrp q s
  | .portTdmlane q => Sys2Proof.Machine.execPortTdmlane q s
  | .portAesrx q => Sys2Proof.Machine.execPortAesrx q s
  | .portAestx q => Sys2Proof.Machine.execPortAestx q s
  | .portLim q => Sys2Proof.Machine.execPortLim q s
  | .portChan q => Sys2Proof.Machine.execPortChan q s
  | .asrcAssign q => Sys2Proof.Machine.execAsrcAssign q s
  | .asrcRelease q => Sys2Proof.Machine.execAsrcRelease q s
  | .asrcStatus q => Sys2Proof.Machine.execAsrcStatus q s
  | .cstatTxset q => Sys2Proof.Machine.execCstatTxset q s
  | .cstatRxread q => Sys2Proof.Machine.execCstatRxread q s
  | .gangwayInsrc q => Sys2Proof.Machine.execGangwayInsrc q s
  | .gangwayInopen q => Sys2Proof.Machine.execGangwayInopen q s
  | .gangwayGain q => Sys2Proof.Machine.execGangwayGain q s
  | .gangwayOut q => Sys2Proof.Machine.execGangwayOut q s
  | .alarmRaise q => Sys2Proof.Machine.execAlarmRaise q s
  | .alarmClear q => Sys2Proof.Machine.execAlarmClear q s
  | .alarmStatus q => Sys2Proof.Machine.execAlarmStatus q s
  | .meterSet q => Sys2Proof.Machine.execMeterSet q s
  | .meterRead q => Sys2Proof.Machine.execMeterRead q s
  | .meterNotify q => Sys2Proof.Machine.execMeterNotify q s
  | .memtestMarch q => Sys2Proof.Machine.execMemtestMarch q s
  | .memtestStatus q => Sys2Proof.Machine.execMemtestStatus q s
  | .scrubEnable q => Sys2Proof.Machine.execScrubEnable q s
  | .scrubStatus q => Sys2Proof.Machine.execScrubStatus q s
  | .power q => Sys2Proof.Machine.execPower q s
  | .clockGate q => Sys2Proof.Machine.execClockGate q s
  | .clockMclk q => Sys2Proof.Machine.execClockMclk q s
  | .clockBand q => Sys2Proof.Machine.execClockBand q s
  | .resetMooring q => Sys2Proof.Machine.execResetMooring q s
  | .resetEngine q => Sys2Proof.Machine.execResetEngine q s
  | .keyLoad q => Sys2Proof.Machine.execKeyLoad q s
  | .keyErase q => Sys2Proof.Machine.execKeyErase q s
  | .keySignkey q => Sys2Proof.Machine.execKeySignkey q s
  | .lifecycle q => Sys2Proof.Machine.execLifecycle q s
  | .subscribe q => Sys2Proof.Machine.execSubscribe q s
  | .flush q => Sys2Proof.Machine.execFlush q s
  | .pcieLinkUp speed width => Sys2Proof.Machine.execPcieLinkUp speed width s
  | .messageSpacingEnd m => Sys2Proof.Machine.execMessageSpacingEnd m s
  | .journalApplied t => Sys2Proof.Machine.execJournalApplied t s
  | .jtagDebugAccess addr write => Sys2Proof.Machine.execJtagDebugAccess addr write s

end Sys2Proof.Machine
end

