-- ==== Sys2Proof/Safety.lean ====
section
/-! DEFINITION. Safety.lean: the terms in which claims about the block are stated: the canonical form of its memory, an
instruction that is taken, its packet, and how it is answered (R317 to R322). -/

namespace Sys2Proof.Machine

/-- The memory is in its canonical form. -/
def State.memOk (s : State) : Prop := memWf s.mem = true

/-- The controllers come to an instruction and execute its opcode, and the modifier of the request selects its operation k
(R292, R312, R562). -/
def State.takes (s : State) (op k : Nat) (q : Req) : Prop :=
  s.serves op q = true ∧ s.executes op = true ∧ modSel op q.mod = some k

/-- The packet in which an instruction acts: the running one where it is next there, else one of its own (log 2). -/
def State.packet (s : State) (op : Nat) (q : Req) : Option Pkt := (s.enter op q).ctl.stack.head?

/-- The number of that packet. -/
def State.packetId (s : State) (op : Nat) (q : Req) : Nat := ((s.packet op q).map (·.id)).getD 0

/-- The reply of that packet has room for a record of n payload words (R320). -/
def State.room (s : State) (op : Nat) (q : Req) (n : Nat) : Prop :=
  ∀ p, s.packet op q = some p → replyLen s p n ≤ s.replyMax q.m

/-- The status with which an instruction fails that meets a condition of status e: ERANGE, where its record would carry the reply
past the limit of R320 and e does not stand above ERANGE (R321). -/
def State.failure (s : State) (op k : Nat) (q : Req) (e : Nat) : Nat :=
  match s.packet op q with
  | some p => if s.tooLong p op k q (Res.err s e) && !aboveRange e then erange else e
  | none => e

/-- An instruction is in order: it is taken, its reply has room for its record, and no condition of its error table holds once its
packet runs. -/
def State.clear (s : State) (op k : Nat) (q : Req) (errs : State → List (Bool × Nat)) : Prop :=
  s.takes op k q ∧ s.room op q 0 ∧ firstErr (errs (s.enter op q)) = none

/-- An instruction is answered: in the state t its record is added to its packet (R282, R317, R318); the waiting commands,
the fuses and byte memory are those of s. -/
def State.answer (s : State) (op status : Nat) (payload : List W32) (t : State) : Out :=
  done s (t.record { op := op, status := status, payload := payload })

/-- An instruction that succeeds without a payload, in the state t that its effect left. -/
def State.accepts (s : State) (op : Nat) (t : State) : Out := s.answer op stOk [] t

/-- An instruction that fails with a status and changes nothing but its packet (R317, R321). -/
def State.rejects (s : State) (op : Nat) (q : Req) (status : Nat) : Out := s.answer op status [] (s.enter op q)

/-- An instruction that answers with words and changes nothing but its packet. -/
def State.returns (s : State) (op : Nat) (q : Req) (payload : List W32) : Out := s.answer op stOk payload (s.enter op q)

/-- As answer, for the instructions that may store to byte memory. -/
def State.answerMem (s : State) (op status : Nat) (payload : List W32) (t : State) : Out :=
  doneMem s (t.record { op := op, status := status, payload := payload })

/-- Nothing differs but what belongs to the sessions with hosts: moorings, controller, landing queues, keys. -/
def State.unitsKept (s t : State) : Prop :=
  t = { s with moors := t.moors, ctl := t.ctl, queues := t.queues, sec := t.sec }

/-- An instruction as the command set lists it: opcode, the operation its modifier selects, the request, and its error table,
in which ok says that the modifier is not a reserved one. -/
structure Row where
  op : Nat
  k : Nat
  q : Req
  errs : Bool → State → List (Bool × Nat)

/-- The mooring of a row is not admitted to it, or does not own what the row names: a condition of status EPERM of its error table
holds, with a modifier that is reserved (R314, R67). -/
def Row.barred (r : Row) (s : State) : Bool := (r.errs false s).any (fun e => e.1 && e.2 == eperm)

/-- The rows of the command set (R312); an event is no instruction. -/
def rowOf : Instr → Option Row
  | .nop q => some ⟨0x00, 0, q, fun ok _ => errsNop q ok⟩
  | .echo q => some ⟨0x01, 0, q, fun ok _ => errsEcho q ok⟩
  | .queryDevice q => some ⟨0x02, 0, q, fun ok _ => errsQueryDevice q ok⟩
  | .queryFrame q => some ⟨0x02, 1, q, fun ok _ => errsQueryFrame q ok⟩
  | .querySelf q => some ⟨0x02, 2, q, fun ok _ => errsQuerySelf q ok⟩
  | .rate q => some ⟨0x10, 0, q, errsRate q⟩
  | .subscribe q => some ⟨0x7E, 0, q, fun ok _ => errsSubscribe q ok⟩
  | .flush q => some ⟨0x7F, 0, q, fun ok _ => errsFlush q ok⟩
  | .slotmapKind q => some ⟨0x11, 0, q, errsSlotmapKind q⟩
  | .slotmapBindin q => some ⟨0x11, 1, q, errsBind q false⟩
  | .slotmapBindout q => some ⟨0x11, 2, q, errsBind q true⟩
  | .slotmapUnbind q => some ⟨0x11, 3, q, errsSlotmapUnbind q⟩
  | .timetable q => some ⟨0x12, 0, q, errsTimetable q⟩
  | .xptSet q => some ⟨0x18, 0, q, errsXptSet q⟩
  | .xptRead q => some ⟨0x18, 1, q, errsXptRead q⟩
  | .xblk q => some ⟨0x19, 0, q, errsXblk q⟩
  | .xmodeMode q => some ⟨0x1A, 0, q, errsXmodeMode q⟩
  | .xmodeInslot q => some ⟨0x1A, 1, q, errsXmodeInslot q⟩
  | .xmodeBusslot q => some ⟨0x1A, 2, q, errsXmodeBusslot q⟩
  | .xmodeOutslot q => some ⟨0x1A, 3, q, errsXmodeOutslot q⟩
  | .sosDirect q => some ⟨0x20, 0, q, errsSos q false⟩
  | .sosGlide q => some ⟨0x20, 1, q, errsSos q true⟩
  | .spanDefine q => some ⟨0x21, 0, q, errsSpanDefine q⟩
  | .spanDelete q => some ⟨0x21, 1, q, errsSpanDelete q⟩
  | .sosrd q => some ⟨0x22, 0, q, errsSosrd q⟩
  | .turnAt q => some ⟨0x29, 0, q, fun ok s => errsTurn q (shape ok q 3) ((opw q 2).toNat + (opw q 3).toNat * 2 ^ 32) s⟩
  | .turnNext q => some ⟨0x29, 1, q, fun ok s => errsTurn q (shape ok q 1) (16 * (s.tt.frame + 2)) s⟩
  | .drop q => some ⟨0x2A, 0, q, errsDrop q⟩
  | .taskOpen q => some ⟨0x30, 0, q, errsTaskOpen q⟩
  | .taskData q => some ⟨0x30, 1, q, errsTaskData q⟩
  | .taskStart q => some ⟨0x30, 2, q, errsTaskStart q⟩
  | .taskInfo q => some ⟨0x30, 3, q, errsTaskInfo q⟩
  | .tstopFade q => some ⟨0x31, 0, q, errsTstop q⟩
  | .tstopCut q => some ⟨0x31, 1, q, errsTstop q⟩
  | .tparamWrite q => some ⟨0x32, 0, q, errsTparamWrite q⟩
  | .tparamReadActive q => some ⟨0x32, 1, q, errsTparamRead q⟩
  | .tparamReadInactive q => some ⟨0x32, 2, q, errsTparamRead q⟩
  | .ferryUopen q => some ⟨0x33, 0, q, errsFerryUopen q⟩
  | .ferryUdata q => some ⟨0x33, 1, q, errsFerryUdata q⟩
  | .ferryUcommit q => some ⟨0x33, 2, q, errsFerryUcommit q⟩
  | .ferryCancel q => some ⟨0x33, 3, q, errsFerryCancel q⟩
  | .ferryRevert q => some ⟨0x33, 4, q, errsFerryRevert q⟩
  | .ferryDrill q => some ⟨0x33, 5, q, errsFerryDrill q⟩
  | .ferryInfo q => some ⟨0x33, 6, q, errsFerryInfo q⟩
  | .tandemOn q => some ⟨0x34, 0, q, errsTandemOn q⟩
  | .tandemOff q => some ⟨0x34, 1, q, errsTandemOff q⟩
  | .tandemInfo q => some ⟨0x34, 2, q, errsTandemInfo q⟩
  | .spareSet q => some ⟨0x35, 0, q, errsSpareSet q⟩
  | .spareHold q => some ⟨0x35, 1, q, fun ok _ => errsSpareHold q ok⟩
  | .spareInfo q => some ⟨0x35, 2, q, fun ok _ => errsSpareInfo q ok⟩
  | .streamDefine q => some ⟨0x40, 0, q, errsStreamDefine q⟩
  | .streamDelete q => some ⟨0x40, 1, q, errsStreamDelete q⟩
  | .streamRead q => some ⟨0x40, 2, q, errsStreamRead q⟩
  | .sctlStart q => some ⟨0x41, 0, q, errsSctlStart q⟩
  | .sctlStop q => some ⟨0x41, 1, q, errsSctlStop q⟩
  | .sctlStatus q => some ⟨0x41, 2, q, errsSctlStatus q⟩
  | .zoneBind q => some ⟨0x42, 0, q, errsZoneBind q⟩
  | .zoneClaim q => some ⟨0x42, 1, q, errsZoneClaim q⟩
  | .zoneRelease q => some ⟨0x42, 2, q, errsZoneRelease q⟩
  | .zoneRead q => some ⟨0x42, 3, q, errsZoneRead q⟩
  | .alarmRaise q => some ⟨0x59, 0, q, errsAlarm q⟩
  | .alarmClear q => some ⟨0x59, 1, q, errsAlarm q⟩
  | .alarmStatus q => some ⟨0x59, 2, q, fun ok _ => errsAlarmStatus q ok⟩
  | .ntapSend q => some ⟨0x44, 0, q, errsNtapSend q⟩
  | .ntapRecv q => some ⟨0x44, 1, q, fun ok _ => errsNtapRecv q ok⟩
  | .ntapFilter q => some ⟨0x44, 2, q, fun ok _ => errsNtapFilter q ok⟩
  | .timeGet q => some ⟨0x48, 0, q, errsTimeGet q⟩
  | .timeStep q => some ⟨0x48, 1, q, errsTimeStep q⟩
  | .timeFreq q => some ⟨0x48, 2, q, errsTimeFreq q⟩
  | .ptpcfg q => some ⟨0x49, 0, q, errsPtpcfg q⟩
  | .refselInput q => some ⟨0x4A, 0, q, errsRefselInput q⟩
  | .refselMode q => some ⟨0x4A, 1, q, errsRefselMode q⟩
  | .refselStatus q => some ⟨0x4A, 2, q, errsRefselStatus q⟩
  | .realign q => some ⟨0x4B, 0, q, errsRealign q⟩
  | .portTdmgrp q => some ⟨0x50, 0, q, errsPortTdmgrp q⟩
  | .portTdmlane q => some ⟨0x50, 1, q, errsPortTdmlane q⟩
  | .portAesrx q => some ⟨0x50, 2, q, errsPortAesrx q⟩
  | .portAestx q => some ⟨0x50, 3, q, errsPortAestx q⟩
  | .portLim q => some ⟨0x50, 4, q, errsPortLim q⟩
  | .portChan q => some ⟨0x50, 5, q, errsPortChan q⟩
  | .asrcAssign q => some ⟨0x51, 0, q, errsAsrcAssign q⟩
  | .asrcRelease q => some ⟨0x51, 1, q, errsAsrcRelease q⟩
  | .asrcStatus q => some ⟨0x51, 2, q, errsAsrcStatus q⟩
  | .cstatTxset q => some ⟨0x52, 0, q, errsCstatTxset q⟩
  | .cstatRxread q => some ⟨0x52, 1, q, errsCstatRxread q⟩
  | .gangwayInsrc q => some ⟨0x58, 0, q, errsGangwayInsrc q⟩
  | .gangwayInopen q => some ⟨0x58, 1, q, errsGangwayInopen q⟩
  | .gangwayGain q => some ⟨0x58, 2, q, errsGangwayGain q⟩
  | .gangwayOut q => some ⟨0x58, 3, q, errsGangwayOut q⟩
  | .meterSet q => some ⟨0x60, 0, q, errsMeterSet q⟩
  | .meterRead q => some ⟨0x60, 1, q, errsMeterRead q⟩
  | .meterNotify q => some ⟨0x60, 2, q, errsMeterNotify q⟩
  | .memtestMarch q => some ⟨0x68, 0, q, errsMemtestMarch q⟩
  | .memtestStatus q => some ⟨0x68, 1, q, errsMemtestStatus q⟩
  | .scrubEnable q => some ⟨0x69, 0, q, errsScrubEnable q⟩
  | .scrubStatus q => some ⟨0x69, 1, q, errsScrubStatus q⟩
  | .power q => some ⟨0x70, 0, q, errsPower q⟩
  | .clockGate q => some ⟨0x71, 0, q, errsClockGate q⟩
  | .clockMclk q => some ⟨0x71, 1, q, errsClockMclk q⟩
  | .clockBand q => some ⟨0x71, 2, q, errsClockBand q⟩
  | .resetMooring q => some ⟨0x72, 0, q, fun ok _ => errsResetMooring q ok⟩
  | .resetEngine q => some ⟨0x72, 1, q, fun ok _ => errsResetEngine q ok⟩
  | .keyLoad q => some ⟨0x78, 0, q, fun ok _ => errsKeyLoad q ok⟩
  | .keyErase q => some ⟨0x78, 1, q, fun ok _ => errsKeyErase q ok⟩
  | .keySignkey q => some ⟨0x78, 2, q, errsKeySignkey q⟩
  | .lifecycle q => some ⟨0x79, 0, q, errsLifecycle q⟩
  | .mread q => some ⟨0x08, 0, q, errsMread q⟩
  | .mwrite q => some ⟨0x09, 0, q, errsMwrite q⟩
  | .mfill q => some ⟨0x0A, 0, q, errsMfill q⟩
  | _ => none

/-- The classes that accept an instruction (R314, R67, R347). -/
def classesOf : Instr → List Nat
  | .nop _ | .echo _ | .queryDevice _ | .queryFrame _ | .querySelf _ | .subscribe _ | .flush _ | .xptRead _
  | .tparamReadActive _ | .tparamReadInactive _ | .timeGet _ | .alarmStatus _ => [0, 1, 2, 3]
  | .mread _ | .sosrd _ | .taskInfo _ | .ferryInfo _ | .tandemInfo _ | .spareInfo _ | .streamRead _ | .sctlStatus _
  | .zoneRead _ | .ntapSend _ | .ntapRecv _ | .ntapFilter _ | .refselStatus _ | .asrcStatus _ | .cstatRxread _
  | .meterSet _ | .meterRead _ | .meterNotify _ | .memtestMarch _ | .memtestStatus _ | .scrubEnable _ | .scrubStatus _ => [1, 2, 3]
  | .xptSet _ | .turnAt _ | .turnNext _ | .tstopFade _ | .tstopCut _ | .tparamWrite _ | .sctlStart _ | .sctlStop _
  | .zoneClaim _ | .zoneRelease _ | .portLim _ | .portChan _ | .gangwayInopen _ => [0, 1, 2]
  | .alarmRaise _ | .alarmClear _ => [0]
  | .lifecycle _ => [2]
  | .rate _ | .slotmapKind _ | .slotmapBindin _ | .slotmapBindout _ | .slotmapUnbind _ | .timetable _ | .xblk _
  | .xmodeMode _ | .xmodeInslot _ | .xmodeBusslot _ | .xmodeOutslot _ | .sosDirect _ | .sosGlide _ | .spanDefine _
  | .spanDelete _ | .drop _ | .taskOpen _ | .taskData _ | .taskStart _ | .ferryUopen _ | .ferryUdata _ | .ferryUcommit _
  | .ferryCancel _ | .ferryRevert _ | .ferryDrill _ | .tandemOn _ | .tandemOff _ | .spareSet _ | .spareHold _
  | .streamDefine _ | .streamDelete _ | .zoneBind _ | .timeStep _ | .timeFreq _ | .ptpcfg _ | .refselInput _
  | .refselMode _ | .realign _ | .portTdmgrp _ | .portTdmlane _ | .portAesrx _ | .portAestx _ | .asrcAssign _
  | .asrcRelease _ | .cstatTxset _ | .gangwayInsrc _ | .gangwayGain _ | .gangwayOut _ | .power _ | .clockGate _
  | .clockMclk _ | .clockBand _ | .resetMooring _ | .resetEngine _ | .keyLoad _ | .keyErase _ | .keySignkey _ | .mwrite _
  | .mfill _ => [1, 2]
  | _ => []

/-- The instructions that mooring 0 alone may issue (R314, R100, R338, R344). -/
def onlyM0 : Instr → Bool
  | .rate _ | .timetable _ | .xmodeMode _ | .spareSet _ | .spareHold _ | .zoneBind _ | .ntapSend _ | .ntapRecv _
  | .ntapFilter _ | .timeStep _ | .timeFreq _ | .ptpcfg _ | .refselInput _ | .refselMode _ | .realign _ | .portTdmgrp _
  | .portTdmlane _ | .portAesrx _ | .portAestx _ | .memtestMarch _ | .memtestStatus _ | .scrubEnable _ | .scrubStatus _
  | .power _ | .clockGate _ | .clockMclk _ | .clockBand _ | .resetEngine _ | .keyLoad _ | .keyErase _ | .keySignkey _
  | .lifecycle _ => true
  | _ => false

/-- The packet p at the top of the stack, over rest, gets further records and completes, with the instructions more not executed;
the packet that resumes is judged in turn (R315, R292). -/
def State.endsWith (s : State) (p : Pkt) (rest : List Pkt) (rs : List Rec) (more : List Insn) : State :=
  (State.completePacket { s with ctl := { s.ctl with stack := { p with recs := p.recs ++ rs, insns := more } :: rest } }).boundary

/-- Bit b of a register after a write of v, by the access codes of its row: RW bits, and RWL bits while the unit is not locked, take
the value, but for the bits of a field for which the value has a reserved encoding; W1C bits written 1 clear (R15, R18). -/
def State.bitAfter (s : State) (r : RegRow) (a : Nat) (v : W32) (b : Nat) : Bool :=
  (if (r.rw.testBit b || (r.rwl.testBit b && !s.locked a))
        && !(reservedIn r.base a v).any (fun f => f.2 ≤ b && b ≤ f.1) then v.getLsbD b else (s.reg a).getLsbD b)
    && !(r.w1c.testBit b && v.getLsbD b)

/-- The commands that may change byte memory. -/
def storesBytes : Instr → Bool
  | .power _ | .mwrite _ | .mfill _ | .taskStart _ | .ferryUcommit _ | .delayLinePassDone _ _
  | .pcieApertureWrite _ _ _ _ _ | .pcieDbWrite _ _ _
  | .qpPacket _ _ _ _ | .packetStart | .registerWrite _ _ _ | .jtagDebugAccess _ _ | .vddAoFall | .pwrgoodFall | .resetNLow
  | .tamperN | .voltageGlitch | .clockGlitch | .thermalShutdown _ | .pll0Lock _ | .clockMonitorWindow _ | .gwdtExpiry
  | .loaderGo _ | .bootFlashDone _ _ | .ctlLockstepMismatch | .ctlWatchdogExpiry | .ctlRestartDone _ _ | .marchDone _ _
  | .bankReady _ _ | .powerDone _ | .dramTrainingStep _ | .recorderWriteDone _ | .lifecycleFuseDone | .stageEdge _ => true
  | _ => false

end Sys2Proof.Machine
end

