-- ==== Sys2Proof/Certificates/Slice0/Obligations.lean ====
section
/-! DEFINITION. Certificates/Slice0/Obligations.lean: the statements about the block. A statement's docstring names the rules
of spec/ it rests on. -/

open Sys2Proof Sys2Proof.Machine

/-- With a command c at the front of the queue, a step answers what exec of c answers on the state with the rest of the
queue. The queue of commands is the model's own (log 5). (09_command_set.md, R291) -/
def Obligations.StepRunsTheFrontCommand : Prop :=
  ∀ (c : Instr) (r : List Instr) (s : State), s.pending = c :: r → step s = exec c { s with pending := r }

/-- Without a waiting command a step answers the state itself. This is the model's choice: log 5. (09_command_set.md) -/
def Obligations.StepIdlesOnAnEmptyQueue : Prop :=
  ∀ s : State, s.pending = [] → step s = .next s

/-- Whatever the command, the queue after a step is the queue before without its first command, and no step faults or
refuses. (09_command_set.md, 08_moorings_and_landing_queues.md) -/
def Obligations.StepTakesOneCommand : Prop :=
  ∀ s : State, ∃ t, step s = .next t ∧ t.pending = s.pending.tail

/-- No command of the table ends in a fault or a refusal. A command whose conditions do not hold leaves the state (log 1)
or fails with a status that its reply carries. (R317, 09_command_set.md) -/
def Obligations.EveryCommandCompletes : Prop :=
  ∀ (c : Instr) (s : State), ∃ t, exec c s = .next t

/-- Byte memory lists addresses in rising order and no byte that an unlisted address reads as; every step keeps that form.
The form and the value of an unlisted byte are the model's (log 9). (13_onchip_memory_and_integrity.md,
14_dram_controller.md) -/
def Obligations.StepKeepsTheMemoryForm : Prop :=
  ∀ s t : State, s.memOk → step s = .next t → t.memOk

/-- State.reset lists no byte (log 9). (13_onchip_memory_and_integrity.md) -/
def Obligations.ResetMemoryForm : Prop :=
  State.reset.memOk

/-- At reset the engine is held in POR, no firmware runs, the deck, the matrix, the pontoon array and the stream contexts
are empty, no network link is up, and each register holds its reset value; the rate is 48 kHz. (R542, R14, R15,
15_power_reset_and_bringup.md) -/
def Obligations.ResetState : Prop :=
  let s := State.reset
  s.pending = [] ∧ s.pwr.por = true ∧ s.ctl.run = .off ∧ s.rate = 1 ∧ s.deck.words = [] ∧ s.deck.inBind = [] ∧
    s.deck.outBind = [] ∧ s.xm.entries = [] ∧ s.pn.sections = [] ∧ s.pn.spans = [] ∧ s.net.ctxs = [] ∧ s.tt.active = [] ∧
    s.tap = .idcode ∧ s.reg F.SYS_READY = 0 ∧ s.reg F.SCRB_EN0 = 0xFFFFFFFB ∧ s.reg F.SCRB_EN1 = 0xFF ∧
    s.fld (F.NETx_STAT_LINK 0) = 0 ∧ s.fld (F.NETx_STAT_LINK 1) = 0 ∧ ∀ a, s.reg a = regReset a

/-- A step leaves every fuse as it is, but for LIFECYCLE_FUSE_DONE, which programs the life-cycle state that the first
accepted LIFECYCLE asked for. (R354, 15_power_reset_and_bringup.md) -/
def Obligations.FusesAreWrittenOnce : Prop :=
  ∀ s t : State, step s = .next t → t.otp = s.otp ∨
    ∃ pid target rest, s.pending.head? = some .lifecycleFuseDone ∧ s.sec.fusing = (pid, target) :: rest ∧
      t.otp = { s.otp with lc := target }

/-- An instruction that the controllers execute, and that meets a condition of its error table, is answered with the first
status of the table whose condition holds, or with ERANGE where its record would not fit its reply and that status does not
stand above ERANGE; nothing else changes. TASK START and FERRY UCOMMIT that meet none of the four conditions above EAUTH read the
hash of the signing slot first; where a memory word is marked, the table is judged in the state that this read leaves, and that
state is kept. (R317, R320, R321, R277, R311, 09_command_set.md) -/
def Obligations.FailedInstructionsChangeNothing : Prop :=
  (∀ (c : Instr) (r : Row) (e : Nat) (s : State), rowOf c = some r → s.takes r.op r.k r.q →
    (r.k = 2 ∧ (r.op = 0x30 ∨ r.op = 0x33) → s.marks = [] ∨ (firstErr ((r.errs true (s.enter r.op r.q)).take 4)).isSome = true) →
    firstErr (r.errs true (s.enter r.op r.q)) = some e → exec c s = s.rejects r.op r.q (s.failure r.op r.k r.q e)) ∧
  (∀ (q : Req) (e : Nat) (s : State),
    let u := s.enter 0x30 q
    let v := u.signRead ((((u.loadOf (opTask q) (opTask q)).filter Load.full).map Load.got).getD [])
    s.takes 0x30 2 q → s.room 0x30 q 2 → firstErr ((errsTaskStart q true u).take 4) = none →
    firstErr (errsTaskStart q true v) = some e → exec (.taskStart q) s = s.answerMem 0x30 e [] v) ∧
  (∀ (q : Req) (e : Nat) (s : State),
    let u := s.enter 0x33 q
    let v := u.signRead ((((u.updLoad (opTask q)).filter Load.full).map Load.got).getD [])
    s.takes 0x33 2 q → s.room 0x33 q 2 → firstErr ((errsFerryUcommit q true u).take 4) = none →
    firstErr (errsFerryUcommit q true v) = some e → exec (.ferryUcommit q) s = s.answerMem 0x33 e [] v)

/-- Every row of an opcode whose modifier is reserved fails, and nothing else changes: with EPROTO where its class is not
admitted, else with EPERM where its mooring is not, else with ERANGE; GANGWAY judges the ownership before the class (R67). The
place of the class and the mooring before the modifier is the model's reading (log 96). (R18, R314, R67, R321,
09_command_set.md) -/
def Obligations.ReservedModifiersFail : Prop :=
  ∀ (c : Instr) (r : Row) (s : State), rowOf c = some r → s.serves r.op r.q = true → s.executes r.op = true →
    modSel r.op r.q.mod = none →
      exec c s = s.rejects r.op r.q
        (if r.q.cls.val ∉ classesOf c ∧ (r.op = 0x58 → s.owns r.q.m ownGangway 0 = true) then eproto
         else if r.barred (s.enter r.op r.q) then eperm else erange)

/-- Every instruction in a class that its row of R314 does not list fails with EPROTO and changes nothing but its packet; those of
GANGWAY where the mooring owns the gangway (R67 puts EPERM first there). (R314, R67, 09_command_set.md) -/
def Obligations.ClassesAreChecked : Prop :=
  ∀ (c : Instr) (r : Row) (s : State), rowOf c = some r → s.takes r.op r.k r.q → r.q.cls.val ∉ classesOf c →
    (r.op = 0x58 → s.owns r.q.m ownGangway 0 = true) → exec c s = s.rejects r.op r.q eproto

/-- In a class that its row lists, each of these fails with EPERM from a mooring other than M0, and changes nothing but its
packet: RATE, TIMETABLE, XMODE MODE, SPARE SET and HOLD, ZONE BIND, NTAP, TIME STEP and FREQ, PTPCFG, REFSEL INPUT and MODE,
REALIGN, PORT TDMGRP, TDMLANE, AESRX and AESTX, MEMTEST, SCRUB, POWER, CLOCK, RESET ENGINE, KEY and LIFECYCLE. (R314,
R100, R338, R344, 09_command_set.md) -/
def Obligations.OnlyM0IsAdmitted : Prop :=
  ∀ (c : Instr) (r : Row) (s : State), rowOf c = some r → s.takes r.op r.k r.q → onlyM0 c = true →
    r.q.cls.val ∈ classesOf c → r.q.m ≠ 0 → exec c s = s.rejects r.op r.q eperm

/-- Of the instructions, the boot loader executes NOP, ECHO, QUERY and MWRITE; every other fails with ENOTREADY and
changes nothing but its packet. An instruction whose modifier selects another row does not occur (log 1). An instruction
that the controllers do not come to leaves the state (log 1: the event does not occur): before boot, during a controller
restart, and where it is the next one of the running packet while a packet of a lower class is ready. (R562, R556, R292,
09_command_set.md) -/
def Obligations.InstructionsNeedTheirControllers : Prop :=
  (∀ (c : Instr) (r : Row) (s : State), rowOf c = some r → s.ctl.run = .loader → s.serves r.op r.q = true →
    (modSel r.op r.q.mod = some r.k ∨ (modSel r.op r.q.mod = none ∧ r.k = 0)) →
    r.op ∉ [0x00, 0x01, 0x02, 0x09] → exec c s = s.rejects r.op r.q enotready) ∧
  (∀ (c : Instr) (r : Row) (s : State), rowOf c = some r → s.serves r.op r.q = false → exec c s = .next s) ∧
  (∀ (op : Nat) (q : Req) (s : State), s.commands = false → s.serves op q = false) ∧
  (∀ (op : Nat) (q : Req) (s : State), s.isNext op q = true → s.nextPacket.isSome = true → s.serves op q = false)

/-- When the next instruction of the running packet has an opcode that the table does not list, its record carries
EOPCODE, the rest of the packet is not executed, and the packet completes: where the packet starts with it; where an instruction
that succeeds stands before it, NOP among them; and so at each boundary with no packet of a lower class ready. A packet of a lower
class goes first. (R315) -/
def Obligations.ReservedOpcodesFail : Prop :=
  (∀ (m : Fin 8) (c : Fin 4) (l : Landed) (p : Pkt) (i : Insn) (rest : List Pkt) (more : List Insn) (s : State),
    let u := s.takePacket m c l
    s.awake = true → s.commands = true → s.nextPacket = some (m, c, l) →
    u.ctl.stack = p :: rest → p.insns = i :: more → opListed i.op = false →
    (u.nextPacket = none →
      exec .packetStart s = doneMem s (u.endsWith p rest [{ op := i.op, status := eopcode, payload := [] }] more)) ∧
    (u.nextPacket.isSome = true → exec .packetStart s = doneMem s u)) ∧
  (∀ (c : Instr) (op st : Nat) (pl : List W32) (p : Pkt) (i j : Insn) (rest : List Pkt) (more : List Insn) (s t : State),
    exec c s = s.answer op st pl t → st = stOk ∨ st = stPending → t.ctl.stack = p :: rest → p.insns = i :: j :: more →
    opListed j.op = false → t.nextPacket = none →
    exec c s = done s (t.endsWith p rest
      [{ op := op, status := st, payload := pl }, { op := j.op, status := eopcode, payload := [] }] more)) ∧
  (∀ (q : Req) (p : Pkt) (j : Insn) (rest : List Pkt) (more : List Insn) (s : State),
    s.clear 0x00 0 q (fun _ => errsNop q true) → s.isNext 0x00 q = true → s.ctl.stack = p :: rest →
    p.insns.tail = j :: more → opListed j.op = false →
    exec (.nop q) s = done s (s.endsWith p rest
      [{ op := 0x00, status := stOk, payload := [] }, { op := j.op, status := eopcode, payload := [] }] more)) ∧
  (∀ (s : State) (p : Pkt) (i : Insn) (rest : List Pkt) (more : List Insn),
    s.ctl.stack = p :: rest → p.insns = i :: more → opListed i.op = false →
    s.closeReserved = State.completePacket { s with ctl := { s.ctl with stack :=
      { p with recs := p.recs ++ [{ op := i.op, status := eopcode, payload := [] }], insns := more } :: rest } })

/-- NOP takes up to 16,386 operand words, ECHO up to 1,024, which its payload returns; neither changes anything but its
packet; their other modifiers and longer operands are refused. (R328) -/
def Obligations.NopAndEcho : Prop :=
  (∀ (q : Req) (s : State), s.takes 0x00 0 q → q.ops.length ≤ 16386 → s.room 0x00 q 0 →
    exec (.nop q) s = s.returns 0x00 q []) ∧
  (∀ (q : Req) (s : State), s.takes 0x01 0 q → q.ops.length ≤ 1024 → s.room 0x01 q q.ops.length →
    exec (.echo q) s = s.returns 0x01 q q.ops) ∧
  (∀ (q : Req) (s : State), s.takes 0x01 0 q → 1024 < q.ops.length → exec (.echo q) s = s.rejects 0x01 q erange) ∧
  (∀ (q : Req) (s : State), s.serves 0x00 q = true ∧ s.serves 0x01 q = true → q.mod ≠ 0 →
    exec (.nop q) s = s.rejects 0x00 q erange ∧ exec (.echo q) s = s.rejects 0x01 q erange) ∧
  (∀ (q : Req) (s t : State), exec (.nop q) s = .next t ∨ exec (.echo q) s = .next t → s.unitsKept t)

/-- Each of these instructions, once it is in order (the controllers execute it, no condition of its error table holds,
its record fits its reply, and no memory word it works on is marked uncorrectable), answers the next state in which its
own effect has been made and its record stands in its packet, with OK, or with PENDING for a requested march, and with its
payload. u is the state in which its packet runs, p the packet's number. (R328, R329, R330, R294, R308, 09_command_set.md) -/
def Obligations.BasicInstructions : Prop :=
  (∀ (q : Req) (s : State),
    let u := s.enter 0x00 q
    s.clear 0x00 0 q (fun _ => errsNop q true) →
      exec (.nop q) s = s.accepts 0x00 u) ∧
  (∀ (q : Req) (s : State),
    s.clear 0x01 0 q (fun _ => errsEcho q true) →
    s.room 0x01 q q.ops.length →
      exec (.echo q) s = s.returns 0x01 q q.ops) ∧
  (∀ (q : Req) (s : State),
    let u := s.enter 0x02 q
    s.clear 0x02 0 q (fun _ => errsQueryDevice q true) →
    s.room 0x02 q (u.deviceWords q.m).length →
      exec (.queryDevice q) s = s.returns 0x02 q (u.deviceWords q.m)) ∧
  (∀ (q : Req) (s : State),
    let u := s.enter 0x02 q
    s.clear 0x02 1 q (fun _ => errsQueryFrame q true) →
    s.room 0x02 q u.frameNow.length →
      exec (.queryFrame q) s = s.returns 0x02 q u.frameNow) ∧
  (∀ (q : Req) (s : State),
    let u := s.enter 0x02 q
    s.clear 0x02 2 q (fun _ => errsQuerySelf q true) →
    s.room 0x02 q (u.selfWords q.m).length →
      exec (.querySelf q) s = s.returns 0x02 q (u.selfWords q.m)) ∧
  (∀ (q : Req) (s : State),
    let u := s.enter 0x10 q
    let p := s.packetId 0x10 q
    s.clear 0x10 0 q (errsRate q true) →
      exec (.rate q) s = s.accepts 0x10 (if opf q 1 2 0 = u.rateDue then u else u.rateAccept p (opf q 1 2 0))) ∧
  (∀ (q : Req) (s : State),
    let u := s.enter 0x7E q
    s.clear 0x7E 0 q (fun _ => errsSubscribe q true) →
      exec (.subscribe q) s = s.accepts 0x7E { u with moors := u.moors.set q.m { u.moors[q.m] with subs := (opw q 1).setWidth 16 } }) ∧
  (∀ (q : Req) (s : State),
    let u := s.enter 0x7F q
    let p := s.packetId 0x7F q
    s.clear 0x7F 0 q (fun _ => errsFlush q true) →
      exec (.flush q) s = s.accepts 0x7F (u.flushQueues p (opf q 1 10 8) (opw q 1 &&& 0xF)))

/-- Each of these instructions, once it is in order (the controllers execute it, no condition of its error table holds,
its record fits its reply, and no memory word it works on is marked uncorrectable), answers the next state in which its
own effect has been made and its record stands in its packet, with OK, or with PENDING for a requested march, and with its
payload. u is the state in which its packet runs, p the packet's number. (R32, R33, R34, R35, R44, R49, R316, 09_command_set.md, R160, R161, R162) -/
def Obligations.SlotTimetableAndSceneInstructions : Prop :=
  (∀ (q : Req) (s : State),
    let u := s.enter 0x11 q
    let p := s.packetId 0x11 q
    s.clear 0x11 0 q (errsSlotmapKind q true) →
      exec (.slotmapKind q) s = s.accepts 0x11 (u.deferEdge p [.slotKind (opf q 1 13 0) (opf q 2 13 0 + 1) (kindOf (opf q 2 17 16))])) ∧
  (∀ (q : Req) (s : State),
    let u := s.enter 0x11 q
    let p := s.packetId 0x11 q
    s.clear 0x11 1 q (errsBind q false true) →
      exec (.slotmapBindin q) s = s.accepts 0x11 (u.deferEdge p [.bindIn (opf q 1 29 16) (opf q 1 15 0)])) ∧
  (∀ (q : Req) (s : State),
    let u := s.enter 0x11 q
    let p := s.packetId 0x11 q
    s.clear 0x11 2 q (errsBind q true true) →
      exec (.slotmapBindout q) s = s.accepts 0x11 (u.deferEdge p [.bindOut (opf q 1 29 16) (opf q 1 15 0)])) ∧
  (∀ (q : Req) (s : State),
    let u := s.enter 0x11 q
    let p := s.packetId 0x11 q
    s.clear 0x11 3 q (errsSlotmapUnbind q true) →
      exec (.slotmapUnbind q) s = s.accepts 0x11 (u.deferEdge p (if (look (if bit (opw q 1) 16 then u.settled.deck.outBind else u.settled.deck.inBind) (opf q 1 15 0)).isSome
        then [.unbind (bit (opw q 1) 16) (opf q 1 15 0)] else []))) ∧
  (∀ (q : Req) (s : State),
    let u := s.enter 0x12 q
    let p := s.packetId 0x12 q
    s.clear 0x12 0 q (errsTimetable q true) →
      exec (.timetable q) s = s.accepts 0x12 (u.loadTimetable p ((u.startFrame (opw q 1) (opw q 2)).getD 0) ((phasesOf (q.ops.drop 3)).getD []))) ∧
  (∀ (q : Req) (s : State),
    let u := s.enter 0x29 q
    s.clear 0x29 0 q (errsTurn q (shape true q 3) ((opw q 2).toNat + (opw q 3).toNat * 2 ^ 32)) →
    s.room 0x29 q (indexWords ((opw q 2).toNat + (opw q 3).toNat * 2 ^ 32)).length →
      exec (.turnAt q) s = s.answer 0x29 stOk (indexWords ((opw q 2).toNat + (opw q 3).toNat * 2 ^ 32)) (u.arm (opf q 1 3 0) { t := (opw q 2).toNat + (opw q 3).toNat * 2 ^ 32, issuer := q.m })) ∧
  (∀ (q : Req) (s : State),
    let u := s.enter 0x29 q
    s.clear 0x29 1 q (fun v => errsTurn q (shape true q 1) (16 * (v.tt.frame + 2)) v) →
    s.room 0x29 q (indexWords (16 * (u.tt.frame + 2))).length →
      exec (.turnNext q) s = s.answer 0x29 stOk (indexWords (16 * (u.tt.frame + 2))) (u.arm (opf q 1 3 0) { t := 16 * (u.tt.frame + 2), issuer := q.m })) ∧
  (∀ (q : Req) (s : State),
    let u := s.enter 0x2A q
    let p := s.packetId 0x2A q
    s.clear 0x2A 0 q (errsDrop q true) →
    s.room 0x2A q [flag (u.settled.scene (opf q 1 3 0)).armed.isSome 0].length →
      exec (.drop q) s = s.answer 0x2A stOk [flag (u.settled.scene (opf q 1 3 0)).armed.isSome 0] (u.deferEdge p [.drop (opf q 1 3 0) (u.settled.scene (opf q 1 3 0)).armed]))

/-- Each of these instructions, once it is in order (the controllers execute it, no condition of its error table holds,
its record fits its reply, and no memory word it works on is marked uncorrectable), answers the next state in which its
own effect has been made and its record stands in its packet, with OK, or with PENDING for a requested march, and with its
payload. u is the state in which its packet runs, p the packet's number. (R94, R95, R97, R99, R102, R142, 09_command_set.md) -/
def Obligations.MatrixInstructions : Prop :=
  (∀ (q : Req) (s : State),
    let u := s.enter 0x18 q
    let p := s.packetId 0x18 q
    s.clear 0x18 0 q (errsXptSet q true) →
    u.marks = [] →
      exec (.xptSet q) s = s.accepts 0x18 (if staged q then (pairsOf q.ops).foldl (fun v e =>
          v.xmEdit (xpOf e.1).key (fun x => xmStage x (xpGroup e.2) (w24 e.2) (xpRamp e.2))) u
        else u.deferEdge p ((pairsOf q.ops).map (fun e => .xpt (xpOf e.1).key (w24 e.2) (xpRamp e.2))))) ∧
  (∀ (q : Req) (s : State),
    let u := s.enter 0x18 q
    s.clear 0x18 1 q (errsXptRead q true) →
    u.marks = [] ∧ u.marching 3 = false →
    s.room 0x18 q (q.ops.flatMap (fun w => xmWords (u.xmEntry (xpOf w).key))).length →
      exec (.xptRead q) s = s.returns 0x18 q (q.ops.flatMap (fun w => xmWords (u.xmEntry (xpOf w).key)))) ∧
  (∀ (q : Req) (s : State),
    let u := s.enter 0x19 q
    let p := s.packetId 0x19 q
    s.clear 0x19 0 q (errsXblk q true) →
    u.marks = [] →
      exec (.xblk q) s = s.accepts 0x19 (let b := blkOf q
        let gs := (q.ops.drop 3).map w24
        if staged q then u.xmBlock b.x.stage2 b.x.src b.x.dst b.nsrc b.ndst gs
          (fun e v => xmStage e (xpGroup (opw q 3)) v (xpRamp (opw q 3)))
        else u.deferEdge p [.xblk b.x.stage2 b.x.src b.x.dst b.nsrc b.ndst (xpRamp (opw q 3)) gs])) ∧
  (∀ (q : Req) (s : State),
    let u := s.enter 0x1A q
    let p := s.packetId 0x1A q
    s.clear 0x1A 0 q (errsXmodeMode q true) →
      exec (.xmodeMode q) s = s.accepts 0x1A (u.deferEdge p [.xmode (opw q 1)])) ∧
  (∀ (q : Req) (s : State),
    let u := s.enter 0x1A q
    let p := s.packetId 0x1A q
    s.clear 0x1A 1 q (errsXmodeInslot q true) →
      exec (.xmodeInslot q) s = s.accepts 0x1A (u.deferEdge p [.xin (opf q 1 9 0) (opw q 2)])) ∧
  (∀ (q : Req) (s : State),
    let u := s.enter 0x1A q
    let p := s.packetId 0x1A q
    s.clear 0x1A 2 q (errsXmodeBusslot q true) →
      exec (.xmodeBusslot q) s = s.accepts 0x1A (u.deferEdge p [.xbus (opf q 1 7 0) (opw q 2)])) ∧
  (∀ (q : Req) (s : State),
    let u := s.enter 0x1A q
    let p := s.packetId 0x1A q
    s.clear 0x1A 3 q (errsXmodeOutslot q true) →
      exec (.xmodeOutslot q) s = s.accepts 0x1A (u.deferEdge p [.xout (opf q 1 8 0) (opw q 2)]))

/-- Each of these instructions, once it is in order (the controllers execute it, no condition of its error table holds,
its record fits its reply, and no memory word it works on is marked uncorrectable), answers the next state in which its
own effect has been made and its record stands in its packet, with OK, or with PENDING for a requested march, and with its
payload. u is the state in which its packet runs, p the packet's number. (R134, R136, R137, R138, R142, 09_command_set.md) -/
def Obligations.PontoonInstructions : Prop :=
  (∀ (q : Req) (s : State),
    let u := s.enter 0x20 q
    let p := s.packetId 0x20 q
    s.clear 0x20 0 q (errsSos q false true) →
    firstUnstable (sosOps q.ops) = none ∧ firstErr (errsSosState q u) = none ∧ u.marks = [] →
      exec (.sosDirect q) s = s.accepts 0x20 (u.sosDo q false p)) ∧
  (∀ (q : Req) (s : State),
    let u := s.enter 0x20 q
    let p := s.packetId 0x20 q
    s.clear 0x20 1 q (errsSos q true true) →
    firstUnstable (sosOps q.ops) = none ∧ firstErr (errsSosState q u) = none ∧ u.marks = [] →
      exec (.sosGlide q) s = s.accepts 0x20 (u.sosDo q true p)) ∧
  (∀ (q : Req) (s : State),
    let u := s.enter 0x21 q
    let p := s.packetId 0x21 q
    s.clear 0x21 0 q (errsSpanDefine q true) →
      exec (.spanDefine q) s = s.accepts 0x21 (u.deferEdge p [.span (opf q 1 11 0) (some (spanOf q))])) ∧
  (∀ (q : Req) (s : State),
    let u := s.enter 0x21 q
    let p := s.packetId 0x21 q
    s.clear 0x21 1 q (errsSpanDelete q true) →
      exec (.spanDelete q) s = s.accepts 0x21 (u.deferEdge p (if (look u.settled.pn.spans (opf q 1 11 0)).isSome then [.span (opf q 1 11 0) none] else []))) ∧
  (∀ (q : Req) (s : State),
    let u := s.enter 0x22 q
    s.clear 0x22 0 q (errsSosrd q true) →
    u.marks = [] ∧ u.marching 4 = false →
    s.room 0x22 q ((rangeFrom (opf q 1 14 0) (opf q 1 18 16 + 1)).flatMap (fun i => sosWords q.mod.toNat (u.section_ i))).length →
      exec (.sosrd q) s = s.returns 0x22 q ((rangeFrom (opf q 1 14 0) (opf q 1 18 16 + 1)).flatMap (fun i => sosWords q.mod.toNat (u.section_ i))))

/-- Each of these instructions, once it is in order (the controllers execute it, no condition of its error table holds,
its record fits its reply, and no memory word it works on is marked uncorrectable), answers the next state in which its
own effect has been made and its record stands in its packet, with OK, or with PENDING for a requested march, and with its
payload. u is the state in which its packet runs, p the packet's number. (R198, R200, R191, R203, 09_command_set.md) -/
def Obligations.TaskInstructions : Prop :=
  (∀ (q : Req) (s : State),
    let u := s.enter 0x30 q
    let p := s.packetId 0x30 q
    s.clear 0x30 0 q (errsTaskOpen q true) →
      exec (.taskOpen q) s = s.accepts 0x30 (let v := u.openLoad (opTask q) (opTask q) (opw q 2).toNat
        { v with ferry := { v.ferry with fills := uniq (v.ferry.fills ++ [opTask q]) } }.addWait p (.fill (opTask q)))) ∧
  (∀ (q : Req) (s : State) (l : Load),
    let u := s.enter 0x30 q
    s.clear 0x30 1 q (errsTaskData q true) →
    u.loadOf (opTask q) (opTask q) = some l ∧
      (16 ≤ l.words.length ∨ (l.got ++ q.ops.drop 2).length < 16 ∨ headerOk (l.got ++ q.ops.drop 2) l.length = true) →
      exec (.taskData q) s = s.accepts 0x30 (u.takeWords (opTask q) l (q.ops.drop 2))) ∧
  (∀ (q : Req) (s : State),
    let u := s.enter 0x30 q
    let p := s.packetId 0x30 q
    let ws := (((u.loadOf (opTask q) (opTask q)).filter Load.full).map Load.got).getD []
    let v := u.signRead ws
    let f := (u.startFrame (opw q 2) (opw q 3)).getD 0
    s.clear 0x30 2 q (fun w => (errsTaskStart q true w).take 4) →
    firstErr (errsTaskStart q true v) = none →
    s.room 0x30 q (frameWords f).length →
      exec (.taskStart q) s = s.answerMem 0x30 stOk (frameWords f)
        ((v.armTask (opTask q) f ws (rangesOf (q.ops.drop 3))).addWait p (.taskStart (opTask q)))) ∧
  (∀ (q : Req) (s : State),
    let u := s.enter 0x30 q
    s.clear 0x30 3 q (errsTaskInfo q true) →
    s.room 0x30 q (let c := u.taskBerth (opTask q)
        [u.view (F.SCc_STAT c), u.view (F.SCc_FAULT c), u.view (F.SCc_CYCMAX c), u.view (F.SCc_IMG c)]).length →
      exec (.taskInfo q) s = s.returns 0x30 q (let c := u.taskBerth (opTask q)
        [u.view (F.SCc_STAT c), u.view (F.SCc_FAULT c), u.view (F.SCc_CYCMAX c), u.view (F.SCc_IMG c)])) ∧
  (∀ (q : Req) (s : State),
    let u := s.enter 0x31 q
    let p := s.packetId 0x31 q
    s.clear 0x31 0 q (errsTstop q true) →
      exec (.tstopFade q) s = s.accepts 0x31 (u.stopAsk p (opTask q) false)) ∧
  (∀ (q : Req) (s : State),
    let u := s.enter 0x31 q
    let p := s.packetId 0x31 q
    s.clear 0x31 1 q (errsTstop q true) →
      exec (.tstopCut q) s = s.accepts 0x31 (u.stopAsk p (opTask q) true)) ∧
  (∀ (q : Req) (s : State),
    let u := s.enter 0x32 q
    let p := s.packetId 0x32 q
    s.clear 0x32 0 q (errsTparamWrite q true) →
      exec (.tparamWrite q) s = s.accepts 0x32 (if staged q then u.pageStage (opTask q) (opGroup q) (opPage q) (q.ops.drop 1)
        else u.deferEdge p [.tparam (opTask q) (opPage q) (q.ops.drop 1)])) ∧
  (∀ (q : Req) (s : State),
    let u := s.enter 0x32 q
    s.clear 0x32 1 q (errsTparamRead q true) →
    u.marks = [] ∧ u.marching (8 + u.taskBerth (opTask q)) = false →
    s.room 0x32 q ((rangeFrom (opPage q) (opf q 2 9 0 + 1)).map (lookD (u.core (u.taskBerth (opTask q))).mems.active 0)).length →
      exec (.tparamReadActive q) s = s.returns 0x32 q ((rangeFrom (opPage q) (opf q 2 9 0 + 1)).map (lookD (u.core (u.taskBerth (opTask q))).mems.active 0))) ∧
  (∀ (q : Req) (s : State),
    let u := s.enter 0x32 q
    s.clear 0x32 2 q (errsTparamRead q true) →
    u.marks = [] ∧ u.marching (8 + u.taskBerth (opTask q)) = false →
    s.room 0x32 q ((rangeFrom (opPage q) (opf q 2 9 0 + 1)).map (lookD (u.core (u.taskBerth (opTask q))).mems.inactive 0)).length →
      exec (.tparamReadInactive q) s = s.returns 0x32 q ((rangeFrom (opPage q) (opf q 2 9 0 + 1)).map (lookD (u.core (u.taskBerth (opTask q))).mems.inactive 0)))

/-- Each of these instructions, once it is in order (the controllers execute it, no condition of its error table holds,
its record fits its reply, and no memory word it works on is marked uncorrectable), answers the next state in which its
own effect has been made and its record stands in its packet, with OK, or with PENDING for a requested march, and with its
payload. u is the state in which its packet runs, p the packet's number. (R268, R269, 09_command_set.md, R236, R256) -/
def Obligations.FerryTandemAndSpareInstructions : Prop :=
  (∀ (q : Req) (s : State),
    let u := s.enter 0x33 q
    s.clear 0x33 0 q (errsFerryUopen q true) →
      exec (.ferryUopen q) s = s.accepts 0x33 (u.updOpen (opTask q) (opBerth q) (opw q 2).toNat)) ∧
  (∀ (q : Req) (s : State) (l : Load),
    let u := s.enter 0x33 q
    s.clear 0x33 1 q (errsFerryUdata q true) →
    u.updLoad (opTask q) = some l ∧
      (16 ≤ l.words.length ∨ (l.got ++ q.ops.drop 2).length < 16 ∨ headerOk (l.got ++ q.ops.drop 2) l.length = true) →
      exec (.ferryUdata q) s = s.accepts 0x33 (u.takeWords (u.task (opTask q)).updBerth l (q.ops.drop 2))) ∧
  (∀ (q : Req) (s : State),
    let u := s.enter 0x33 q
    let p := s.packetId 0x33 q
    let ws := (((u.updLoad (opTask q)).filter Load.full).map Load.got).getD []
    let v := u.signRead ws
    s.clear 0x33 2 q (fun w => (errsFerryUcommit q true w).take 4) →
    firstErr (errsFerryUcommit q true v) = none →
    s.room 0x33 q (payloadOpen (opTask q)).length →
      exec (.ferryUcommit q) s = s.answerMem 0x33 stOk (payloadOpen (opTask q))
        ((v.updCommit (opTask q) ((u.startFrame (opw q 2) (opw q 3)).getD 0) ws).addWait p (.ferry (opTask q)))) ∧
  (∀ (q : Req) (s : State),
    let u := s.enter 0x33 q
    let p := s.packetId 0x33 q
    s.clear 0x33 3 q (errsFerryCancel q true) →
      exec (.ferryCancel q) s = s.accepts 0x33 ((u.cancelUpdate (opTask q) 0).addWait p (.fill (u.task (opTask q)).updBerth))) ∧
  (∀ (q : Req) (s : State),
    let u := s.enter 0x33 q
    let p := s.packetId 0x33 q
    s.clear 0x33 4 q (errsFerryRevert q true) →
      exec (.ferryRevert q) s = s.accepts 0x33 ((u.revert (opTask q)).addWait p (.ferry (opTask q)))) ∧
  (∀ (q : Req) (s : State),
    let u := s.enter 0x33 q
    let p := s.packetId 0x33 q
    s.clear 0x33 5 q (errsFerryDrill q true) →
      exec (.ferryDrill q) s = s.accepts 0x33 ((u.startMove (opTask q) .drill (u.task (opTask q)).shBerth 0 false).addWait p (.ferry (opTask q)))) ∧
  (∀ (q : Req) (s : State),
    let u := s.enter 0x33 q
    s.clear 0x33 6 q (errsFerryInfo q true) →
    s.room 0x33 q [u.view (F.SC_TFt (opTask q)), u.view (F.SC_TFt_HOLD (opTask q)), u.view F.SC_FSTAT].length →
      exec (.ferryInfo q) s = s.returns 0x33 q [u.view (F.SC_TFt (opTask q)), u.view (F.SC_TFt_HOLD (opTask q)), u.view F.SC_FSTAT]) ∧
  (∀ (q : Req) (s : State),
    let u := s.enter 0x34 q
    let p := s.packetId 0x34 q
    s.clear 0x34 0 q (errsTandemOn q true) →
    s.room 0x34 q (payloadOpen (opTask q)).length →
      exec (.tandemOn q) s = s.answer 0x34 stOk (payloadOpen (opTask q)) ((u.startMove (opTask q) .join (opBerth q)
        ((u.startFrame (opw q 2) (opw q 3)).getD 0) false).addWait p (.tandem (opTask q)))) ∧
  (∀ (q : Req) (s : State),
    let u := s.enter 0x34 q
    let p := s.packetId 0x34 q
    s.clear 0x34 1 q (errsTandemOff q true) →
      exec (.tandemOff q) s = s.accepts 0x34 ({ u with ferry := { u.ferry with unpair := u.ferry.unpair ++ [opTask q] } }.addWait p .edge)) ∧
  (∀ (q : Req) (s : State) (f : Nat),
    let u := s.enter 0x34 q
    s.clear 0x34 2 q (errsTandemInfo q true) →
    (u.task (opTask q)).partner = some f →
    s.room 0x34 q [u.view (F.SC_TFt (opTask q)), u.view (F.SCc_STAT (u.taskBerth (opTask q))), u.view (F.SCc_STAT f)].length →
      exec (.tandemInfo q) s = s.returns 0x34 q [u.view (F.SC_TFt (opTask q)), u.view (F.SCc_STAT (u.taskBerth (opTask q))), u.view (F.SCc_STAT f)]) ∧
  (∀ (q : Req) (s : State),
    let u := s.enter 0x34 q
    s.clear 0x34 2 q (errsTandemInfo q true) →
    (u.task (opTask q)).partner = none →
    s.room 0x34 q [u.view (F.SC_TFt (opTask q)), u.view (F.SCc_STAT (u.taskBerth (opTask q))), Config.freeWord u.free].length →
      exec (.tandemInfo q) s = s.answer 0x34 stOk [u.view (F.SC_TFt (opTask q)), u.view (F.SCc_STAT (u.taskBerth (opTask q))), Config.freeWord u.free] { u with free := u.free + 1 }) ∧
  (∀ (q : Req) (s : State),
    let u := s.enter 0x35 q
    let p := s.packetId 0x35 q
    s.clear 0x35 0 q (errsSpareSet q true) →
      exec (.spareSet q) s = s.accepts 0x35 ({ u with ferry := { u.ferry with spareSet := some (opw q 1) } }.addWait p .spares)) ∧
  (∀ (q : Req) (s : State),
    let u := s.enter 0x35 q
    s.clear 0x35 1 q (fun _ => errsSpareHold q true) →
      exec (.spareHold q) s = s.accepts 0x35 (u.setFld F.SC_FERRY_HOLD_HOLD (opf q 1 9 0))) ∧
  (∀ (q : Req) (s : State),
    let u := s.enter 0x35 q
    s.clear 0x35 2 q (fun _ => errsSpareInfo q true) →
    s.room 0x35 q [u.view F.SC_SPARE, u.view F.SC_FERRY_HOLD, u.view F.SC_FSTAT].length →
      exec (.spareInfo q) s = s.returns 0x35 q [u.view F.SC_SPARE, u.view F.SC_FERRY_HOLD, u.view F.SC_FSTAT])

/-- Each of these instructions, once it is in order (the controllers execute it, no condition of its error table holds,
its record fits its reply, and no memory word it works on is marked uncorrectable), answers the next state in which its
own effect has been made and its record stands in its packet, with OK, or with PENDING for a requested march, and with its
payload. u is the state in which its packet runs, p the packet's number. (R336, R337, R383, 09_command_set.md, R338, R347) -/
def Obligations.StreamZoneAndAlarmInstructions : Prop :=
  (∀ (q : Req) (s : State),
    let u := s.enter 0x40 q
    s.clear 0x40 0 q (errsStreamDefine q true) →
      exec (.streamDefine q) s = s.accepts 0x40 (u.defineCtx (opf q 1 8 0) (q.ops.drop 1))) ∧
  (∀ (q : Req) (s : State),
    let u := s.enter 0x40 q
    s.clear 0x40 1 q (errsStreamDelete q true) →
      exec (.streamDelete q) s = s.accepts 0x40 (u.deleteCtx (opf q 1 8 0))) ∧
  (∀ (q : Req) (s : State) (c : Ctx),
    let u := s.enter 0x40 q
    s.clear 0x40 2 q (errsStreamRead q true) →
    (u.ctx (opf q 1 8 0)).bind Ctx.settled = some c →
    s.room 0x40 q c.record.length →
      exec (.streamRead q) s = s.returns 0x40 q c.record) ∧
  (∀ (q : Req) (s : State),
    let u := s.enter 0x40 q
    s.clear 0x40 2 q (errsStreamRead q true) →
    (u.ctx (opf q 1 8 0)).bind Ctx.settled = none →
    s.room 0x40 q ((rangeFrom u.free 8).map Config.freeWord).length →
      exec (.streamRead q) s = s.answer 0x40 stOk ((rangeFrom u.free 8).map Config.freeWord) { u with free := u.free + 8 }) ∧
  (∀ (q : Req) (s : State),
    let u := s.enter 0x41 q
    let p := s.packetId 0x41 q
    s.clear 0x41 0 q (errsSctlStart q true) →
    s.room 0x41 q (frameWords ((u.startFrame (opw q 2) (opw q 3)).getD 0)).length →
      exec (.sctlStart q) s = s.answer 0x41 stOk (frameWords ((u.startFrame (opw q 2) (opw q 3)).getD 0)) ((u.startAsk (opf q 1 8 0) ((u.startFrame (opw q 2) (opw q 3)).getD 0)).addWait p
        (.frame ((u.startFrame (opw q 2) (opw q 3)).getD 0)))) ∧
  (∀ (q : Req) (s : State),
    let u := s.enter 0x41 q
    let p := s.packetId 0x41 q
    s.clear 0x41 1 q (errsSctlStop q true) →
      exec (.sctlStop q) s = s.accepts 0x41 ((u.stopCtx (opf q 1 8 0) (bit (opw q 1) 16)).addWait p .edge)) ∧
  (∀ (q : Req) (s : State),
    let u := s.enter 0x41 q
    s.clear 0x41 2 q (errsSctlStatus q true) →
    s.room 0x41 q ((rangeFrom (opf q 1 8 0) (opf q 1 24 16 + 1)).map u.sctlWord).length →
      exec (.sctlStatus q) s = s.answer 0x41 stOk ((rangeFrom (opf q 1 8 0) (opf q 1 24 16 + 1)).map u.sctlWord) ((rangeFrom (opf q 1 8 0) (opf q 1 24 16 + 1)).foldl State.sctlClear u)) ∧
  (∀ (q : Req) (s : State),
    let u := s.enter 0x42 q
    s.clear 0x42 0 q (errsZoneBind q true) →
      exec (.zoneBind q) s = s.accepts 0x42 (u.zoneBindTo (opf q 1 12 0) (bit (opw q 2) 31) (opf q 2 29 27) (opf q 2 15 0))) ∧
  (∀ (q : Req) (s : State),
    let u := s.enter 0x42 q
    let p := s.packetId 0x42 q
    s.clear 0x42 1 q (errsZoneClaim q true) →
      exec (.zoneClaim q) s = s.accepts 0x42 (u.deferEdge p [.claim q.m (opf q 1 12 0) (opf q 2 12 0) (opf q 3 7 0)])) ∧
  (∀ (q : Req) (s : State),
    let u := s.enter 0x42 q
    let p := s.packetId 0x42 q
    s.clear 0x42 2 q (errsZoneRelease q true) →
      exec (.zoneRelease q) s = s.accepts 0x42 (u.deferEdge p [.release q.m (opf q 1 12 0) (opf q 2 12 0)])) ∧
  (∀ (q : Req) (s : State),
    let u := s.enter 0x42 q
    s.clear 0x42 3 q (errsZoneRead q true) →
    s.room 0x42 q ((rangeFrom (opf q 1 12 0) (opf q 2 7 0 + 1)).map (fun i => (u.zone i).word)).length →
      exec (.zoneRead q) s = s.returns 0x42 q ((rangeFrom (opf q 1 12 0) (opf q 2 7 0 + 1)).map (fun i => (u.zone i).word))) ∧
  (∀ (q : Req) (s : State),
    let u := s.enter 0x59 q
    let p := s.packetId 0x59 q
    s.clear 0x59 0 q (errsAlarm q true) →
      exec (.alarmRaise q) s = s.accepts 0x59 (u.alarmAsk p { m := q.m, first := opf q 1 12 0, last := opf q 2 12 0, on := true })) ∧
  (∀ (q : Req) (s : State),
    let u := s.enter 0x59 q
    let p := s.packetId 0x59 q
    s.clear 0x59 1 q (errsAlarm q true) →
      exec (.alarmClear q) s = s.accepts 0x59 (u.alarmAsk p { m := q.m, first := opf q 1 12 0, last := opf q 2 12 0, on := false })) ∧
  (∀ (q : Req) (s : State),
    let u := s.enter 0x59 q
    s.clear 0x59 2 q (fun _ => errsAlarmStatus q true) →
    s.room 0x59 q (u.alarmWords (opf q 1 12 0) (opf q 2 7 0 + 1)).length →
      exec (.alarmStatus q) s = s.returns 0x59 q (u.alarmWords (opf q 1 12 0) (opf q 2 7 0 + 1)))

/-- Each of these instructions, once it is in order (the controllers execute it, no condition of its error table holds,
its record fits its reply, and no memory word it works on is marked uncorrectable), answers the next state in which its
own effect has been made and its record stands in its packet, with OK, or with PENDING for a requested march, and with its
payload. u is the state in which its packet runs, p the packet's number. (R339, R340, R341, R342, R343, 09_command_set.md) -/
def Obligations.TimeAndReferenceInstructions : Prop :=
  (∀ (q : Req) (s : State),
    let u := s.enter 0x44 q
    s.clear 0x44 0 q (errsNtapSend q true) →
      exec (.ntapSend q) s = s.accepts 0x44 (u.sentLast (bit (opw q 1) 0) (.tap ((bytesLE (q.ops.drop 1)).take (opf q 1 27 16))))) ∧
  (∀ (q : Req) (s : State),
    let u := s.enter 0x44 q
    s.clear 0x44 1 q (fun _ => errsNtapRecv q true) →
    s.room 0x44 q u.net.tapWords.length →
      exec (.ntapRecv q) s = s.answer 0x44 stOk u.net.tapWords { u with net := { u.net with tapQ := u.net.tapQ.tail, tapDrop := 0 } }) ∧
  (∀ (q : Req) (s : State),
    let u := s.enter 0x44 q
    s.clear 0x44 2 q (fun _ => errsNtapFilter q true) →
      exec (.ntapFilter q) s = s.accepts 0x44 { u with net := { u.net with filters := ins u.net.filters (opf q 1 3 0) (opw q 2) } }) ∧
  (∀ (q : Req) (s : State),
    let u := s.enter 0x48 q
    s.clear 0x48 0 q (errsTimeGet q true) →
    s.room 0x48 q u.timeWords.length →
      exec (.timeGet q) s = s.returns 0x48 q u.timeWords) ∧
  (∀ (q : Req) (s : State),
    let u := s.enter 0x48 q
    s.clear 0x48 1 q (errsTimeStep q true) →
      exec (.timeStep q) s = s.accepts 0x48 (u.stepTime ((opw q 1).toNat + (opw q 2).toNat * 2 ^ 32) (opw q 3).toNat (opf q 4 31 16))) ∧
  (∀ (q : Req) (s : State),
    let u := s.enter 0x48 q
    s.clear 0x48 2 q (errsTimeFreq q true) →
      exec (.timeFreq q) s = s.accepts 0x48 (u.setFreq (opw q 1).toInt)) ∧
  (∀ (q : Req) (s : State),
    let u := s.enter 0x49 q
    s.clear 0x49 0 q (errsPtpcfg q true) →
      exec (.ptpcfg q) s = s.accepts 0x49 (u.ptpSet q)) ∧
  (∀ (q : Req) (s : State),
    let u := s.enter 0x4A q
    s.clear 0x4A 0 q (errsRefselInput q true) →
      exec (.refselInput q) s = s.accepts 0x4A (u.refCommand ((refselRegs q).getD []))) ∧
  (∀ (q : Req) (s : State),
    let u := s.enter 0x4A q
    s.clear 0x4A 1 q (errsRefselMode q true) →
      exec (.refselMode q) s = s.accepts 0x4A (u.refCommand [(F.RSEL_STAT, at32 (opf q 1 1 0) 16 ||| at32 (opf q 1 11 8) 12)])) ∧
  (∀ (q : Req) (s : State),
    let u := s.enter 0x4A q
    s.clear 0x4A 2 q (errsRefselStatus q true) →
    s.room 0x4A q (u.view F.RSEL_STAT :: (List.range 12).map (fun i => u.view (F.RSEL_INn_STAT i))).length →
      exec (.refselStatus q) s = s.returns 0x4A q (u.view F.RSEL_STAT :: (List.range 12).map (fun i => u.view (F.RSEL_INn_STAT i)))) ∧
  (∀ (q : Req) (s : State),
    let u := s.enter 0x4B q
    let p := s.packetId 0x4B q
    s.clear 0x4B 0 q (errsRealign q true) →
      exec (.realign q) s = s.accepts 0x4B (u.addRealign ⟨p, (u.startFrame (opw q 2) (opw q 3)).getD 0, opw q 1⟩))

/-- Each of these instructions, once it is in order (the controllers execute it, no condition of its error table holds,
its record fits its reply, and no memory word it works on is marked uncorrectable), answers the next state in which its
own effect has been made and its record stands in its packet, with OK, or with PENDING for a requested march, and with its
payload. u is the state in which its packet runs, p the packet's number. (R344, R345, R346, 09_command_set.md, R67, R66, R348, R349) -/
def Obligations.PortGangwayAndMeterInstructions : Prop :=
  (∀ (q : Req) (s : State),
    let u := s.enter 0x50 q
    let p := s.packetId 0x50 q
    s.clear 0x50 0 q (errsPortTdmgrp q true) →
      exec (.portTdmgrp q) s = s.accepts 0x50 ((u.setGrp (opf q 1 1 0) { u.grp (opf q 1 1 0) with newCfg := some (opw q 2) }).addWait p .edge)) ∧
  (∀ (q : Req) (s : State),
    let u := s.enter 0x50 q
    let p := s.packetId 0x50 q
    s.clear 0x50 1 q (errsPortTdmlane q true) →
      exec (.portTdmlane q) s = s.accepts 0x50 ({ u with ports := { u.ports with newLanes := u.ports.newLanes ++ [(bit (opw q 1) 4, opf q 1 3 0, opw q 2)] } }.addWait p .edge)) ∧
  (∀ (q : Req) (s : State),
    let u := s.enter 0x50 q
    let p := s.packetId 0x50 q
    s.clear 0x50 2 q (errsPortAesrx q true) →
      exec (.portAesrx q) s = s.accepts 0x50 ((u.setRx (opf q 1 2 0) { u.rx (opf q 1 2 0) with newCfg := some (opw q 2) }).addWait p .edge)) ∧
  (∀ (q : Req) (s : State),
    let u := s.enter 0x50 q
    let p := s.packetId 0x50 q
    s.clear 0x50 3 q (errsPortAestx q true) →
      exec (.portAestx q) s = s.accepts 0x50 ({ u with ports := { u.ports with newTxCfg := ins u.ports.newTxCfg (opf q 1 2 0) (opw q 2) } }.addWait p .edge)) ∧
  (∀ (q : Req) (s : State),
    let u := s.enter 0x50 q
    let p := s.packetId 0x50 q
    s.clear 0x50 4 q (errsPortLim q true) →
      exec (.portLim q) s = s.accepts 0x50 (u.limSet p (opf q 1 15 0) (opw q 2))) ∧
  (∀ (q : Req) (s : State),
    let u := s.enter 0x50 q
    let p := s.packetId 0x50 q
    s.clear 0x50 5 q (errsPortChan q true) →
      exec (.portChan q) s = s.accepts 0x50 (let w := opw q 1
        u.chanSet p { out := bit w 16, chan := opf q 1 15 0, run := bit w 17, now := bit w 18, from_ := none, tested := 0 })) ∧
  (∀ (q : Req) (s : State),
    let u := s.enter 0x51 q
    let p := s.packetId 0x51 q
    s.clear 0x51 0 q (errsAsrcAssign q true) →
      exec (.asrcAssign q) s = s.accepts 0x51 ({ u with ports := { u.ports with newAsrc := u.ports.newAsrc ++ [(opf q 1 4 0, some (flag true 31 ||| opw q 2))] } }.addWait p .edge)) ∧
  (∀ (q : Req) (s : State),
    let u := s.enter 0x51 q
    let p := s.packetId 0x51 q
    s.clear 0x51 1 q (errsAsrcRelease q true) →
      exec (.asrcRelease q) s = s.accepts 0x51 ((if bit (u.asrcCfg (opf q 1 4 0)) 31 then
        { u with ports := { u.ports with newAsrc := u.ports.newAsrc ++ [(opf q 1 4 0, none)] } } else u).addWait p .edge)) ∧
  (∀ (q : Req) (s : State),
    let u := s.enter 0x51 q
    s.clear 0x51 2 q (errsAsrcStatus q true) →
    s.room 0x51 q [u.view (F.ASRCn_STAT (opf q 1 4 0))].length →
      exec (.asrcStatus q) s = s.returns 0x51 q [u.view (F.ASRCn_STAT (opf q 1 4 0))]) ∧
  (∀ (q : Req) (s : State),
    let u := s.enter 0x52 q
    let p := s.packetId 0x52 q
    s.clear 0x52 0 q (errsCstatTxset q true) →
      exec (.cstatTxset q) s = s.accepts 0x52 (u.txSet p (opf q 1 2 0) (subsOf (opf q 1 9 8)) ((q.ops.drop 1).take 6))) ∧
  (∀ (q : Req) (s : State),
    let u := s.enter 0x52 q
    s.clear 0x52 1 q (errsCstatRxread q true) →
    s.room 0x52 q ((u.rx (opf q 1 2 0)).blocks.getD (opf q 1 8 8) []).length →
      exec (.cstatRxread q) s = s.returns 0x52 q ((u.rx (opf q 1 2 0)).blocks.getD (opf q 1 8 8) [])) ∧
  (∀ (q : Req) (s : State),
    let u := s.enter 0x58 q
    let p := s.packetId 0x58 q
    s.clear 0x58 0 q (errsGangwayInsrc q true) →
      exec (.gangwayInsrc q) s = s.accepts 0x58 ((u.setReg (F.GW_INn_SRC (opf q 1 20 16)) (at32 (opf q 1 15 0) 0)).addWait p .gangway)) ∧
  (∀ (q : Req) (s : State),
    let u := s.enter 0x58 q
    let p := s.packetId 0x58 q
    s.clear 0x58 1 q (errsGangwayInopen q true) →
      exec (.gangwayInopen q) s = s.accepts 0x58 ((u.setReg (F.GW_INn_OPEN (opf q 1 4 0)) (opw q 2)).addWait p .gangway)) ∧
  (∀ (q : Req) (s : State),
    let u := s.enter 0x58 q
    let p := s.packetId 0x58 q
    s.clear 0x58 2 q (errsGangwayGain q true) →
      exec (.gangwayGain q) s = s.accepts 0x58 ((u.setReg (F.GW_GAINi_o (opf q 1 4 0) (opf q 1 21 16)) (opw q 2)).addWait p .gangway)) ∧
  (∀ (q : Req) (s : State),
    let u := s.enter 0x58 q
    let p := s.packetId 0x58 q
    s.clear 0x58 3 q (errsGangwayOut q true) →
      exec (.gangwayOut q) s = s.accepts 0x58 ((u.setReg (F.GW_OUTn (opf q 1 5 0)) (opw q 2)).addWait p .gangway)) ∧
  (∀ (q : Req) (s : State),
    let u := s.enter 0x60 q
    s.clear 0x60 0 q (errsMeterSet q true) →
      exec (.meterSet q) s = s.accepts 0x60 (u.meterPut q.m (opf q 1 10 0) (bit (opw q 2) 31) (opf q 2 13 0))) ∧
  (∀ (q : Req) (s : State),
    let u := s.enter 0x60 q
    s.clear 0x60 1 q (errsMeterRead q true) →
    s.room 0x60 q (u.peaks q.m (opf q 1 10 0) (opf q 2 7 0 + 1)).length →
      exec (.meterRead q) s = s.answer 0x60 stOk (u.peaks q.m (opf q 1 10 0) (opf q 2 7 0 + 1)) (u.clearPeaks q.m (opf q 1 10 0) (opf q 2 7 0 + 1))) ∧
  (∀ (q : Req) (s : State),
    let u := s.enter 0x60 q
    s.clear 0x60 2 q (errsMeterNotify q true) →
      exec (.meterNotify q) s = s.accepts 0x60 (let n := if opf q 3 11 0 = 0 then none else some (opf q 1 10 0, opf q 2 7 0, opf q 3 11 0)
        { u with moors := u.moors.set q.m { u.moors[q.m] with notify := n } }))

/-- Each of these instructions, once it is in order (the controllers execute it, no condition of its error table holds,
its record fits its reply, and no memory word it works on is marked uncorrectable), answers the next state in which its
own effect has been made and its record stands in its packet, with OK, or with PENDING for a requested march, and with its
payload. u is the state in which its packet runs, p the packet's number. (R333, R334, R335, R350, R351, R352, R354, 09_command_set.md) -/
def Obligations.SystemInstructions : Prop :=
  (∀ (q : Req) (s : State),
    let u := s.enter 0x68 q
    s.clear 0x68 0 q (errsMemtestMarch q true) →
      exec (.memtestMarch q) s = s.answer 0x68 stPending [] (u.marchStart (opf q 1 7 0) (bit (opw q 1) 8))) ∧
  (∀ (q : Req) (s : State),
    let u := s.enter 0x68 q
    s.clear 0x68 1 q (errsMemtestStatus q true) →
    s.room 0x68 q [u.view (F.MARCH_RESb (opf q 1 7 0))].length →
      exec (.memtestStatus q) s = s.returns 0x68 q [u.view (F.MARCH_RESb (opf q 1 7 0))]) ∧
  (∀ (q : Req) (s : State),
    let u := s.enter 0x69 q
    s.clear 0x69 0 q (errsScrubEnable q true) →
      exec (.scrubEnable q) s = s.accepts 0x69 ((u.setReg F.SCRB_EN0 (opw q 1)).setReg F.SCRB_EN1 (opw q 2 &&& 0xFF))) ∧
  (∀ (q : Req) (s : State),
    let u := s.enter 0x69 q
    s.clear 0x69 1 q (errsScrubStatus q true) →
    s.room 0x69 q [u.view F.SCRB_LAP, u.view F.SCRB_CNT].length →
      exec (.scrubStatus q) s = s.returns 0x69 q [u.view F.SCRB_LAP, u.view F.SCRB_CNT]) ∧
  (∀ (q : Req) (s : State),
    let u := s.enter 0x70 q
    let p := s.packetId 0x70 q
    s.clear 0x70 0 q (errsPower q true) →
      exec (.power q) s = s.answerMem 0x70 stOk [] (u.powerTo p (opf q 1 2 0) (opf q 1 9 8))) ∧
  (∀ (q : Req) (s : State),
    let u := s.enter 0x71 q
    let p := s.packetId 0x71 q
    s.clear 0x71 0 q (errsClockGate q true) →
      exec (.clockGate q) s = s.accepts 0x71 (u.gateSet p (opf q 1 1 0) (opw q 2) (opw q 3))) ∧
  (∀ (q : Req) (s : State),
    let u := s.enter 0x71 q
    let p := s.packetId 0x71 q
    s.clear 0x71 1 q (errsClockMclk q true) →
      exec (.clockMclk q) s = s.accepts 0x71 (u.mclkSet p (opf q 1 1 0) (bit (opw q 2) 8) (opf q 2 1 0))) ∧
  (∀ (q : Req) (s : State),
    let u := s.enter 0x71 q
    s.clear 0x71 2 q (errsClockBand q true) →
      exec (.clockBand q) s = s.accepts 0x71 (u.bandSet (opf q 1 3 0) (opw q 2))) ∧
  (∀ (q : Req) (s : State),
    let u := s.enter 0x72 q
    s.clear 0x72 0 q (fun _ => errsResetMooring q true) →
    moorOf (opf q 1 2 0) ≠ q.m →
      exec (.resetMooring q) s = s.accepts 0x72 (u.mooringReset (moorOf (opf q 1 2 0)))) ∧
  (∀ (q : Req) (s : State),
    let u := s.enter 0x72 q
    let p := s.packetId 0x72 q
    s.clear 0x72 0 q (fun _ => errsResetMooring q true) →
    moorOf (opf q 1 2 0) = q.m ∧ (∀ x ∈ u.ctl.stack, x.m ≠ q.m → x.id ≠ p) →
      exec (.resetMooring q) s = done s (u.mooringReset q.m)) ∧
  (∀ (q : Req) (s : State),
    let u := s.enter 0x72 q
    let p := s.packetId 0x72 q
    s.clear 0x72 1 q (fun _ => errsResetEngine q true) →
      exec (.resetEngine q) s = s.accepts 0x72 (u.engineAsk p)) ∧
  (∀ (q : Req) (s : State),
    let u := s.enter 0x78 q
    let p := s.packetId 0x78 q
    s.clear 0x78 0 q (fun _ => errsKeyLoad q true) →
      exec (.keyLoad q) s = s.accepts 0x78 (u.keySet p (moorOf (opf q 1 2 0)) (some (keyBytes q)))) ∧
  (∀ (q : Req) (s : State),
    let u := s.enter 0x78 q
    let p := s.packetId 0x78 q
    s.clear 0x78 1 q (fun _ => errsKeyErase q true) →
      exec (.keyErase q) s = s.accepts 0x78 (u.keySet p (moorOf (opf q 1 2 0)) none)) ∧
  (∀ (q : Req) (s : State),
    let u := s.enter 0x78 q
    s.clear 0x78 2 q (errsKeySignkey q true) →
      exec (.keySignkey q) s = s.accepts 0x78 (u.slotSet (opf q 1 1 0) (keyBytes q))) ∧
  (∀ (q : Req) (s : State),
    let u := s.enter 0x79 q
    let p := s.packetId 0x79 q
    s.clear 0x79 0 q (errsLifecycle q true) →
      exec (.lifecycle q) s = s.accepts 0x79 (u.lcStart p (opf q 1 1 0)))

/-- Each of these instructions, once it is in order (the controllers execute it, no condition of its error table holds,
its record fits its reply, and no memory word it works on is marked uncorrectable), answers the next state in which its
own effect has been made and its record stands in its packet, with OK, or with PENDING for a requested march, and with its
payload. An MREAD that meets a word marked uncorrectable outside the controllers' SRAM answers EFAULT with the words as
read. u is the state in which its packet runs, p the packet's number. (R325, R326, R327, R323, R562, 09_command_set.md) -/
def Obligations.MemoryInstructions : Prop :=
  (∀ (q : Req) (s : State),
    let u := s.enter 0x08 q
    s.clear 0x08 0 q (errsMread q true) →
    (State.readWords (opf q 2 29 16 + 1) (opAddr q) u).2.1 = true →
    s.room 0x08 q (State.readWords (opf q 2 29 16 + 1) (opAddr q) u).1.length →
      exec (.mread q) s = s.answer 0x08 stOk (State.readWords (opf q 2 29 16 + 1) (opAddr q) u).1 (State.readWords (opf q 2 29 16 + 1) (opAddr q) u).2.2) ∧
  (∀ (q : Req) (s : State),
    let u := s.enter 0x08 q
    s.clear 0x08 0 q (errsMread q true) →
    (State.readWords (opf q 2 29 16 + 1) (opAddr q) u).2.1 = false ∧ bankOf (u.remapped (opAddr q)) ≠ some 0 →
    s.room 0x08 q (opf q 2 29 16 + 1) →
      exec (.mread q) s = s.answer 0x08 efault (State.readWords (opf q 2 29 16 + 1) (opAddr q) u).1 (State.readWords (opf q 2 29 16 + 1) (opAddr q) u).2.2) ∧
  (∀ (q : Req) (s : State),
    let u := s.enter 0x09 q
    s.clear 0x09 0 q (errsMwrite q true) →
    u.ctl.run = .firmware ∧ u.region (opAddr q) ≠ .periph ∧ u.badMerge (opAddr q) (q.ops.drop 2).length = none →
      exec (.mwrite q) s = s.answerMem 0x09 stOk [] (u.writeDram (opAddr q) (q.ops.drop 2))) ∧
  (∀ (q : Req) (s : State),
    let u := s.enter 0x09 q
    s.clear 0x09 0 q (errsMwrite q true) →
    u.ctl.run = .firmware ∧ u.region (opAddr q) = .periph ∧ q.m = 0 →
      exec (.mwrite q) s = s.answerMem 0x09 stOk [] (u.writeRegs (opAddr q - periphBase) (q.ops.drop 2))) ∧
  (∀ (q : Req) (s : State),
    let u := s.enter 0x09 q
    s.clear 0x09 0 q (errsMwrite q true) →
    u.ctl.run = .loader ∧ u.region (opAddr q) = .ctlSram ∧
      u.region (opAddr q + 4 * ((q.ops.drop 2).length - 1)) = .ctlSram →
      exec (.mwrite q) s = s.answerMem 0x09 stOk [] ((u.setWords (opAddr q) (q.ops.drop 2)).wroteRange (opAddr q) (4 * (q.ops.drop 2).length))) ∧
  (∀ (q : Req) (s : State),
    let u := s.enter 0x09 q
    s.clear 0x09 0 q (errsMwrite q true) →
    u.ctl.run = .loader ∧ opAddr q = periphBase + F.SYS_BOOT ∧ q.ops.length = 3 ∧
      bit (opw q 3) 31 = false →
      exec (.mwrite q) s = s.answerMem 0x09 stOk [] (u.writeReg F.SYS_BOOT (opw q 3) false)) ∧
  (∀ (q : Req) (s : State),
    let u := s.enter 0x0A q
    s.clear 0x0A 0 q (errsMfill q true) →
    u.region (opAddr q) = .periph ∧ q.m = 0 →
      exec (.mfill q) s = s.answerMem 0x0A stOk [] (u.writeRegs (opAddr q - periphBase) (List.replicate (opf q 3 23 0 + 1) (opw q 4)))) ∧
  (∀ (q : Req) (s : State),
    let u := s.enter 0x0A q
    s.clear 0x0A 0 q (errsMfill q true) →
    u.region (opAddr q) ≠ .periph ∧ u.badMerge (opAddr q) (List.replicate (opf q 3 23 0 + 1) (opw q 4)).length = none →
      exec (.mfill q) s = s.answerMem 0x0A stOk [] (u.writeDram (opAddr q) (List.replicate (opf q 3 23 0 + 1) (opw q 4))))

/-- In order, onto DRAM, with no uncorrectable word to merge with: each word reads back as given, and every byte outside
the words reads as before. In order, from DRAM, with no marked memory error: the payload is the words from the address
on; nothing but the packet changes. (R325, R327, 14_dram_controller.md) -/
def Obligations.DramReadsAndWrites : Prop :=
  (∀ (q : Req) (s : State), let u := s.enter 0x09 q
    s.clear 0x09 0 q (errsMwrite q true) → u.ctl.run = .firmware → u.region (opAddr q) = .dram →
    u.badMerge (opAddr q) (q.ops.drop 2).length = none →
    ∃ t, exec (.mwrite q) s = .next t ∧
      (∀ i < (q.ops.drop 2).length, t.word (opAddr q + 4 * i) = (q.ops.drop 2).getD i 0) ∧
      (∀ a, (a < opAddr q ∨ opAddr q + 4 * (q.ops.drop 2).length ≤ a) → t.byte a = s.byte a)) ∧
  (∀ (q : Req) (s : State), let u := s.enter 0x0A q
    s.clear 0x0A 0 q (errsMfill q true) → u.region (opAddr q) = .dram →
    u.badMerge (opAddr q) (opf q 3 23 0 + 1) = none →
    ∃ t, exec (.mfill q) s = .next t ∧
      (∀ i < opf q 3 23 0 + 1, t.word (opAddr q + 4 * i) = opw q 4) ∧
      (∀ a, (a < opAddr q ∨ opAddr q + 4 * (opf q 3 23 0 + 1) ≤ a) → t.byte a = s.byte a)) ∧
  (∀ (q : Req) (s : State), let u := s.enter 0x08 q
    s.clear 0x08 0 q (errsMread q true) → u.region (opAddr q) = .dram → u.marks = [] →
    s.room 0x08 q (opf q 2 29 16 + 1) →
      exec (.mread q) s =
        s.returns 0x08 q ((List.range (opf q 2 29 16 + 1)).map (fun i => u.word (opAddr q + 4 * i))))

/-- Every command but MWRITE, MFILL, POWER and the events named in storesBytes leaves byte memory as it is. (R325,
13_onchip_memory_and_integrity.md) -/
def Obligations.OtherCommandsKeepMemory : Prop :=
  ∀ (c : Instr) (s t : State), storesBytes c = false → exec c s = .next t → ∀ a, t.byte a = s.byte a

/-- Whatever such an instruction answers, it changes nothing but what belongs to the sessions with hosts (moorings,
controller, landing queues, keys): no register, no deck word, no matrix or pontoon record, no core, no port, no stream
context, no byte of memory. (R316, R317, 09_command_set.md) -/
def Obligations.InstructionsKeepTheUnits : Prop :=
  ∀ (q : Req) (c : Instr) (s t : State),
    c ∈ [.nop q, .echo q, .queryDevice q, .queryFrame q, .querySelf q, .subscribe q, .slotmapKind q, .slotmapBindin q,
      .slotmapBindout q, .slotmapUnbind q, .xmodeMode q, .xmodeInslot q, .xmodeBusslot q, .xmodeOutslot q, .spanDefine q,
      .spanDelete q, .drop q, .taskInfo q, .ferryInfo q, .spareInfo q, .zoneClaim q,
      .zoneRelease q, .zoneRead q, .timeGet q, .refselStatus q, .asrcStatus q, .cstatRxread q, .alarmStatus q,
      .meterNotify q, .memtestStatus q, .scrubStatus q, .lifecycle q] →
    exec c s = .next t → s.unitsKept t

/-- Whatever they answer, these instructions change nothing but registers, ports, meter points and what belongs to the
sessions. Whatever they answer, the network and ALARM instructions change nothing but the network unit with its zone table
and what belongs to the sessions; SCTL START also sets up the fades of the channels of its context. (R344, R345, R346, R66,
R348, R336, R337, R338, R339, R347) -/
def Obligations.PortAndNetworkInstructionsKeepTheRest : Prop :=
  (∀ (q : Req) (c : Instr) (s t : State),
    c ∈ [.portTdmgrp q, .portTdmlane q, .portAesrx q, .portAestx q, .portLim q, .portChan q, .asrcAssign q, .asrcRelease q,
      .cstatTxset q, .gangwayInsrc q, .gangwayInopen q, .gangwayGain q, .gangwayOut q, .meterSet q, .meterRead q] →
    exec c s = .next t → s.unitsKept { t with regs := s.regs, ports := s.ports, meters := s.meters }) ∧
  (∀ (q : Req) (c : Instr) (s t : State),
    c ∈ [.streamDefine q, .streamDelete q, .sctlStart q, .sctlStop q, .sctlStatus q, .zoneBind q, .ntapSend q, .ntapRecv q,
      .ntapFilter q, .alarmRaise q, .alarmClear q] →
    exec c s = .next t →
    s.unitsKept { t with net := s.net, ports := if c = .sctlStart q then { t.ports with fades := s.ports.fades } else t.ports })

/-- A register whose write does nothing beyond storing it: RW bits, and RWL bits while the unit is not locked, take the value, but
a field keeps its contents where the value has a reserved encoding for it; W1C bits written 1 clear; every other bit and every
other register is left. NETA_MDIO takes a value so while GO is 0, RST_GWDT and LIM_CFGn always, SYS_BOOT in the loader; the LOCK
bits of GW_CTRL, FAB_CTRL and MOOR_CTRL, once 1, stay; LQ_CFGm_c takes a value, and empties its queue, while EN of the mooring
is 0 and MOOR_CTRL is not locked (log 159); QPn_CTRL.EN moves the ready bit of the port; PN_SATn clears the bits written 1 and
the SAT flags of the sections of their spans; GW_CTRL.DRIVE moves GW_STAT.DRIVER. (R15, R18, R327, R275, R140, R68,
08_moorings_and_landing_queues.md, 13_onchip_memory_and_integrity.md) -/
def Obligations.RegisterWriteByAccessCode : Prop :=
  (∀ (a i j : Nat) (r : RegRow) (v : W32) (s : State), s.awake = true → a % 4 = 0 → inOwn a = false → barOnly a = false →
    s.regOpen a = true → findRow a = some (r, i, j) →
    r.base ∉ [F.MOOR_BINDm 0, F.LQ_CFGm_c 0 0, F.LIM_CFGn 0, F.QPn_CTRL 0, F.PN_SATn 0] →
    a ∉ [F.ECC_TEST_CTRL, F.NETA_MDIO, F.SYS_BOOT, F.RST_GWDT, F.GW_CTRL, F.FAB_CTRL, F.MOOR_CTRL] →
    ∃ t, exec (.registerWrite a v none) s = .next t ∧ (∀ x, x ≠ a → t.reg x = s.reg x) ∧
      ∀ b < 32, (t.reg a).getLsbD b = s.bitAfter r a v b) ∧
  (∀ (a i j : Nat) (r : RegRow) (v : W32) (s : State), s.awake = true → s.regOpen a = true → findRow a = some (r, i, j) →
    (a = F.NETA_MDIO ∧ s.on F.NETA_MDIO_GO = false) ∨ a = F.RST_GWDT ∨ (a = F.SYS_BOOT ∧ s.ctl.run = .loader) ∨
      (∃ n < 1552, a = F.LIM_CFGn n) →
    ∃ t, exec (.registerWrite a v none) s = .next t ∧ (∀ x, x ≠ a → t.reg x = s.reg x) ∧
      ∀ b < 32, (t.reg a).getLsbD b = s.bitAfter r a v b) ∧
  (∀ (v : W32) (s : State), s.awake = true →
    (s.on F.NETA_MDIO_GO = true → exec (.registerWrite F.NETA_MDIO v none) s = .next s) ∧
    (s.ctl.run ≠ .loader → exec (.registerWrite F.SYS_BOOT v none) s = .next s)) ∧
  (∀ (v : W32) (s : State), s.awake = true →
    (s.regOpen F.GW_CTRL = true → ∃ t, exec (.registerWrite F.GW_CTRL v none) s = .next t ∧
      t.on F.GW_CTRL_LOCK = (s.on F.GW_CTRL_LOCK || bit v 8) ∧
      (if s.on F.GW_CTRL_LOCK = true ∨ bf v 1 0 = 3
       then t.fld F.GW_CTRL_DRIVE = s.fld F.GW_CTRL_DRIVE ∧ t.reg F.GW_STAT = s.reg F.GW_STAT
       else t.fld F.GW_CTRL_DRIVE = bf v 1 0 ∧ t.on F.GW_STAT_DRIVER = decide (bf v 1 0 = 2))) ∧
    (∃ t, exec (.registerWrite F.FAB_CTRL v none) s = .next t ∧ t.on F.FAB_CTRL_LOCK = (s.on F.FAB_CTRL_LOCK || bit v 1) ∧
      t.on F.FAB_CTRL_REMAP = if s.on F.FAB_CTRL_LOCK then s.on F.FAB_CTRL_REMAP else bit v 0) ∧
    (s.regOpen F.MOOR_CTRL = true → ∃ t, exec (.registerWrite F.MOOR_CTRL v none) s = .next t ∧
      t.on F.MOOR_CTRL_LOCK = (s.on F.MOOR_CTRL_LOCK || bit v 0))) ∧
  (∀ (m c : Nat) (v : W32) (s : State), m < 8 → c < 4 → s.awake = true → s.regOpen (F.LQ_CFGm_c m c) = true →
    (s.on (F.MOOR_BINDm_EN m) = true ∨ s.on F.MOOR_CTRL_LOCK = true →
      exec (.registerWrite (F.LQ_CFGm_c m c) v none) s = .next s) ∧
    (s.on (F.MOOR_BINDm_EN m) = false → s.on F.MOOR_CTRL_LOCK = false →
      ∃ t, exec (.registerWrite (F.LQ_CFGm_c m c) v none) s = .next t ∧ t.fld (F.LQ_CFGm_c_BASE m c) = bf v 12 0 ∧
        t.fld (F.LQ_CFGm_c_SIZE m c) = (if bf v 29 16 ≤ 8192 then bf v 29 16 else s.fld (F.LQ_CFGm_c_SIZE m c)) ∧
        t.queue m c = freshQueue (t.fld (F.LQ_CFGm_c_SIZE m c)))) ∧
  (∀ (n : Nat) (v : W32) (s : State), n < 2 → s.awake = true → s.regOpen (F.QPn_CTRL n) = true →
    ∃ t, exec (.registerWrite (F.QPn_CTRL n) v none) s = .next t ∧ t.on (F.QPn_CTRL_EN n) = bit v 0 ∧
      let f := if n = 0 then F.SYS_READY_QP0 else F.SYS_READY_QP1
      (bit v 0 = false → t.on f = false) ∧
      (bit v 0 = true → s.on F.PLL0_STAT_LOCK = true → s.clk.mute = false → s.readyBarred f = false → t.on f = true)) ∧
  (∀ (n : Nat) (v : W32) (s : State), n < 128 → s.awake = true → s.regOpen (F.PN_SATn n) = true → s.marks = [] →
    s.on F.ECC_FLIP_CTL_ARM = false → s.rawBank 4 = false → s.marching 4 = false →
    ∃ t, exec (.registerWrite (F.PN_SATn n) v none) s = .next t ∧ t.reg (F.PN_SATn n) = s.reg (F.PN_SATn n) &&& ~~~v ∧
      ∀ x, t.section_ x =
        if (spansIn s.pn.spans (32 * n) (32 * n + 31)).any (fun e => bit v (e.1 % 32) && e.2.first ≤ x && x < e.2.first + e.2.count)
        then { s.section_ x with sat := false } else s.section_ x)

/-- RC_READ brings the register's word out and clears its RC bits; LATCH_READ of TT_FRAME_LO brings the low half of the
frame number out and latches the high half. While the clock gate of a register's unit is closed, a write is dropped and
RC_READ and LATCH_READ bring out 0 and change nothing else. (R15, R591, R446, R327) -/
def Obligations.RegisterReadsAndClosedUnits : Prop :=
  (∀ (a i j : Nat) (r : RegRow) (s : State), s.awake = true → a % 4 = 0 → inOwn a = false → s.regOpen a = true →
    findRow a = some (r, i, j) → r.rc ≠ 0 → s.freeRead a = none → a ≠ F.TT_FRAME_LO → a ≠ F.TIME_SECLO →
    r.base ≠ F.TT_SCNg_TLO 0 →
    ∃ t, exec (.rcRead a none) s = .next t ∧ t.side.data = [s.view a] ∧ t.reg a = s.reg a &&& ~~~(BitVec.ofNat 32 r.rc)) ∧
  (∀ s : State, s.awake = true → s.regOpen F.TT_FRAME_LO = true →
    ∃ t, exec (.latchRead F.TT_FRAME_LO) s = .next t ∧ t.side.data = [s.view F.TT_FRAME_LO] ∧
      t.reg F.TT_FRAME_HI = lo32 (s.tt.frame / 2 ^ 32 % 2 ^ 28)) ∧
  (∀ (a : Nat) (v : W32) (s : State), s.awake = true → a % 4 = 0 → inOwn a = false → s.regOpen a = false →
    exec (.registerWrite a v none) s = .next s ∧
    (∃ t, exec (.rcRead a none) s = .next t ∧ t.side.data = [0] ∧ s.unitsKept { t with side := s.side }) ∧
    (∃ t, exec (.latchRead a) s = .next t ∧ t.side.data = [0] ∧ s.unitsKept { t with side := s.side }))

/-- A write of MOOR_BIND0 changes nothing. ECC_TEST_CTRL enters raw mode on an expendable bank alone. A write of 0xA5 to
RST_GWDT.KICK restarts the count from LIM. When the running guard watchdog has counted to 0, the engine applies a
DEVICE reset with cause 3. (R275, R492, R557) -/
def Obligations.SpecialRegisterWrites : Prop :=
  (∀ (v : W32) (s : State), s.awake = true → exec (.moorBindWrite 0 v) s = .next s) ∧
  (∀ (m : Fin 8) (v : W32) (s : State), s.awake = true → exec (.moorBindWrite m v) s = done s (s.regWrite (F.MOOR_BINDm m.val) v none)) ∧
  (∀ (v : W32) (s : State), s.awake = true → bf v 5 0 < 40 → bit v 31 = true →
    ∃ t, exec (.eccTestRawWrite v) s = .next t ∧
      t.fld F.ECC_TEST_CTRL_RAW = (if s.expendable (bf v 5 0) then 1 else 0)) ∧
  (∀ (v : W32) (s : State), s.awake = true → bf v 7 0 = 0xA5 → 10 ≤ bf v 23 16 →
    ∃ t, exec (.gwdtKick v) s = .next t ∧ t.pwr.guard = 100 * t.fld F.RST_GWDT_LIM) ∧
  (∀ s : State, s.awake = true → s.on F.RST_GWDT_RUN = true → s.pwr.guard = 0 →
    exec .gwdtExpiry s = doneMem s (s.deviceReset 3))

/-- The end of POR; a fall of VDD_AO is a POR; PWRGOOD rises; out of POR a fall of PWRGOOD applies a DEVICE reset with cause
2, which does not count in DEVCNT where it falls in the reset that RESET_N holds (log 138), and a low RESET_N one with cause
1 while PWRGOOD is high; both end the block of a third shutdown. A release samples BOOTSEL, sets BADSEL for a reserved code
and FAST for code 4. A sample updates the sensors. After three
readings above the limit on end a shutdown sets PWR_STAT.TSD and applies a held DEVICE reset with cause 6, or 7 for the gradient.
Once TS0 has read below 95 degC for 1 s, a shutdown that was not the third within the hour ends. (R541, R542, R558, R582, R548, R549, R550, R551) -/
def Obligations.SupplyResetAndTemperatureEvents : Prop :=
  (∀ s : State, s.pwr.por = true → exec .vddAoRise s = done s s.porEnd) ∧
  (∀ s : State, exec .vddAoFall s = doneMem s s.porReset) ∧
  (∀ s : State, s.pwr.good = false → exec .pwrgoodRise s = done s s.goodRises) ∧
  (∀ s : State, s.pwr.good = true → s.pwr.por = false →
    exec .pwrgoodFall s = doneMem s
      (let t := State.deviceReset (State.unblock { s with pwr := { s.pwr with good := false } }) 2
       if s.pwr.held = true ∧ s.fld F.RST_STAT_LAST = 1 then t.setFld F.RST_STAT_DEVCNT (s.fld F.RST_STAT_DEVCNT) else t)) ∧
  (∀ s : State, s.pwr.por = false →
    exec .resetNLow s = doneMem s (if s.pwr.good then s.unblock.deviceReset 1 else s.unblock)) ∧
  (∀ (sel : BitVec 3) (s : State), s.pwr.por = false → s.pwr.held = true → s.pwr.good = true → s.pwr.srcBad = false →
    s.pwr.tsd = false →
    ∃ t, exec (.deviceResetRelease sel) s = .next t ∧ t.pwr.held = false ∧ t.fld F.SYS_BOOT_BOOTSEL = sel.toNat ∧
      (5 ≤ sel.toNat → t.on F.SYS_BOOT_BADSEL = true) ∧ t.on F.SYS_BOOT_FAST = decide (sel = 4)) ∧
  (∀ (l : List Temp) (s : State), s.pwr.por = false → exec (.tempSample l) s = done s (s.tempSample l)) ∧
  (∀ (g : Bool) (s : State), s.pwr.por = false → s.pwr.tsd = false →
    (if g then s.pwr.grad = 3 else s.pwr.hot.contains 3 = true) →
    ∃ t, exec (.thermalShutdown g) s = .next t ∧ t.pwr.tsd = true ∧ t.pwr.held = true ∧ t.on F.PWR_STAT_TSD = true ∧
      t.fld F.RST_STAT_LAST = (if g then 7 else 6)) ∧
  (∀ s : State, s.ts0Cool = true → s.pwr.tsd = true → s.tsdBlocked = false →
    ∃ t, exec .shutdownRelease s = .next t ∧ t.pwr.tsd = false)

/-- A DEVICE reset is held, its cause stands in RST_STAT.LAST, the secure bank with its keys, the MGMT alert word and index
and the fuses are kept, and the queue of commands is kept. (R553, R307, R509, 15_power_reset_and_bringup.md) -/
def Obligations.DeviceResetKeeps : Prop :=
  ∀ (cause : Nat) (s : State), cause < 8 →
    let t := s.deviceReset cause
    t.pwr.held = true ∧ t.fld F.RST_STAT_LAST = cause ∧ t.sec = s.sec ∧ t.side.alert = s.side.alert ∧
      t.side.mgmtIndex = s.side.mgmtIndex ∧ t.otp = s.otp ∧
      t.pending = s.pending ∧ ∀ a, 0x30000000 ≤ a → a < 0x30040000 → t.byte a = s.byte a

/-- Out of POR, TAMPER_N, a voltage glitch and a clock glitch complete, and add CAUSE bit 0, 1 and 2. Where no wipe runs
they start one: every byte of the secure bank is 0 and no key is left; one during a wipe joins it. At its end SEC_STAT.WIPED
and bit 3 of the alert word are 1. At LIFECYCLE_FUSE_DONE the target state of the oldest accepted LIFECYCLE is fused, every
byte of the secure bank is 0, no signing key is left and, where no KEY instruction waits for its reply, no mooring's key.
(R504, R505, R506, R354) -/
def Obligations.SecureBankIsWiped : Prop :=
  (∀ s : State, exec .tamperN s = doneMem s (s.tamper 1) ∧ exec .voltageGlitch s = doneMem s (s.tamper 2) ∧
    exec .clockGlitch s = doneMem s (s.tamper 4)) ∧
  (∀ (c : Instr) (n : Nat) (s : State), (c, n) ∈ [(Instr.tamperN, 1), (Instr.voltageGlitch, 2), (Instr.clockGlitch, 4)] →
    s.pwr.por = false →
    ∃ t, exec c s = .next t ∧ t.fld F.SEC_STAT_CAUSE = (s.fld F.SEC_STAT_CAUSE ||| n) ∧
      (s.sec.wipe = none → t.sec.keys = [] ∧ t.sec.slots = [] ∧ t.sec.wipe = some (n, s.tt.frame) ∧
        ∀ a, 0x30000000 ≤ a → a < 0x30040000 → t.byte a = 0) ∧
      (∀ k f, s.sec.wipe = some (k, f) → t.sec.wipe = some (k ||| n, f))) ∧
  (∀ (k f : Nat) (s : State), s.sec.wipe = some (k, f) →
    ∃ t, exec .tamperWipeDone s = .next t ∧ t.sec.wipe = none ∧ t.on F.SEC_STAT_WIPED = true ∧
      t.side.alert.getLsbD 3 = true) ∧
  (∀ (pid target : Nat) (rest : List (Nat × Nat)) (s : State), s.sec.fusing = (pid, target) :: rest →
    ∃ t, exec .lifecycleFuseDone s = .next t ∧ t.otp.lc = target ∧ t.sec.fusing = rest ∧
      (s.ctl.keyOps = [] → t.sec.keys = []) ∧ t.sec.slots = [] ∧ ∀ a, 0x30000000 ≤ a → a < 0x30040000 → t.byte a = 0)

/-- Each event, where its precondition holds, and what it does. Where the PLL is on a band and neither locked nor coasting
it locks; a locked one, and one that reacquires, coasts; a coasting one reacquires, or selects again at the edge of the band. (R439, R440, R442,
R443, R444, R446, R449, R450, R473, R454, R455) -/
def Obligations.ClockAndMediaPllEvents : Prop :=
  (∀ s : State, s.awake = true → s.fld F.CKM_XO_GOOD = 256 → s.on F.CKM_STAT_XOSTABLE = false →
    exec .xoStable s = done s ((s.setFld F.CKM_STAT_XOSTABLE 1).setFld F.CKM_STAT_XOFAIL 0).bringUp) ∧
  (∀ (b : BitVec 3) (s : State), s.awake = true → s.on F.CKM_STAT_XOSTABLE = true → s.on F.PLL0_STAT_LOCK = false →
    s.on F.PLL0_STAT_COAST = false → exec (.pll0Lock b) s = doneMem s (s.pllLock b.toNat)) ∧
  (∀ (b : BitVec 3) (s : State), s.awake = true → s.on F.CKM_STAT_XOSTABLE = true → s.on F.PLL0_STAT_LOCK = false →
    s.on F.PLL0_STAT_COAST = true → exec (.pll0Lock b) s = doneMem s (s.deviceReset 5)) ∧
  (∀ (d : Fin 8) (s : State), s.clk.toSrc.contains d.val = true →
    exec (.domainSwitchDone d) s =
      done s { s.setFld (ckmBit F.CKM_STAT_ONROOT d.val) 0 with clk := { s.clk with toSrc := s.clk.toSrc.erase d.val } }) ∧
  (∀ (d : Fin 8) (s : State), s.clk.toSrc.contains d.val = false → s.clk.moves.head? = some d.val →
    exec (.domainSwitchDone d) s =
      done s { s.setFld (ckmBit F.CKM_STAT_ONROOT d.val) 1 with clk := { s.clk with moves := s.clk.moves.tail } }) ∧
  (∀ (d : Fin 8) (s : State), s.muxBusy d.val = true →
    exec (.ckmuxHang d) s = done s (s.muxHang d.val) ∧
      (s.muxHang d.val).on (ckmBit F.CKM_STAT_CKMUX_HANG d.val) = true) ∧
  (∀ (k : ClockCounts) (s : State), s.pwr.por = false → exec (.clockMonitorWindow k) s = doneMem s (s.clockWindow k)) ∧
  (∀ (n : Nat) (s : State), s.pwr.por = false → exec (.srcTrim n) s = done s (s.srcTrim n)) ∧
  (∀ (n : Fin 4) (b : Fin 32) (s : State), s.mayClose n.val b.val = true →
    exec (.gateClose n b) s = done s (s.gateClose n.val b.val) ∧
    exec (.gateCloseTimeout n b) s = done s ((s.gateCut n.val b.val).setFld F.CKG_STAT_CUT 1)) ∧
  (∀ s : State, s.mpllSeeks = true →
    ∃ t, exec .mpllLock s = .next t ∧ t.on F.MPLL_STAT_LOCK = true ∧ t.on F.MPLL_STAT_COAST = false ∧ t.clk.mout = true) ∧
  (∀ s : State, s.on F.MPLL_STAT_LOCK = true ∨ (s.mpllSeeks = true ∧ s.clk.mout = true) →
    ∃ t, exec .mpllCoast s = .next t ∧ t.on F.MPLL_STAT_LOCK = false ∧ t.on F.MPLL_STAT_COAST = true ∧
      t.on F.MPLL_STAT_UNLK = (s.on F.MPLL_STAT_UNLK || s.on F.MPLL_STAT_LOCK)) ∧
  (∀ s : State, s.on F.MPLL_STAT_COAST = true →
    exec (.mpllReacquire false) s = done s (s.setFld F.MPLL_STAT_COAST 0) ∧
    exec (.mpllReacquire true) s = done s s.mpllSelect)

/-- Phase samples and measurements of enabled inputs; an input that becomes absent; the ends of the wait-to-restore and
qualification times; the end of a switch. (R460, R461, R462, R464, R465) -/
def Obligations.ReferenceEvents : Prop :=
  (∀ (i : Fin 12) (p : Int) (s : State), s.refEn i.val = true →
    exec (.refPhaseSample i p) s = done s (s.refSample i.val p)) ∧
  (∀ (i : Fin 12) (s : State), s.refEn i.val = true → s.refState i.val ≠ refAbs →
    ((i.val = 0 ∨ (2 ≤ i.val ∧ i.val < 10)) → s.refPresent i.val 0 = false) →
    exec (.refAbsent i) s = done s (s.setRef i.val refAbs).selAsk) ∧
  (∀ (i : Fin 12) (o : Int) (hz : Nat) (s : State), s.refEn i.val = true →
    exec (.refMeasurementDone i o hz) s = done s (s.refMeasured i.val o hz)) ∧
  (∀ (i : Fin 12) (s : State), s.refState i.val = refWait → s.rsel.left.getD i.val 0 = 0 →
    exec (.refWtrExpiry i) s = done s (s.setRef i.val refQual).selAsk) ∧
  (∀ (i : Fin 12) (s : State), s.refState i.val = refDrift → s.rsel.left.getD i.val 0 = 0 →
    exec (.refQualTimeout i) s = done s (s.setRef i.val refOut).selAsk) ∧
  (∀ (a : Int) (s : State), s.firmware = true → s.selState = selSwitch →
    exec (.rselSwitchDone a) s = done s (s.switchDone a))

/-- Each event, where its precondition holds, and what it does. (R22, R25, R51, R331, R40, R42, R124, R103, R408, R533) -/
def Obligations.FrameEvents : Prop :=
  (∀ (p : SampleIn) (s : State), s.counting = true → s.edgeDue = false → s.zcDue = false → s.restartDue = false →
    s.periodBegins p.d4 = true →
    let t := ((s.selTick.tick p.d4 p.ins).holdTick p.d4).marchEnds p.marched
    exec (.samplePeriod p) s = done s (if t.rateStopped then t.rateIdle else t.period p)) ∧
  (∀ (i : EdgeIn) (s : State), s.counting = true → s.edgeDue = true →
    exec (.stageEdge i) s = doneMem s (s.stageEdge i)) ∧
  (∀ (k : RateChange) (s : State), s.rateChange = some k → k.step = .stopped → s.msi % 16 = 0 →
    k.at_ + 2000000 * 2 ^ 48 ≤ s.time.t48 →
    exec .rateRestart s = done s (State.gwCheck (State.waitResume (State.ctxResume
      { s with rateChange := some { k with step := .restarted, at_ := s.msi / 16 }, tt := { s.tt with edge := none } })))) ∧
  (∀ (o : Bool) (ch f : Nat) (w : ChanWait) (s : State),
    s.ports.waits.find? (fun w => w.out == o && w.chan == ch) = some w → w.from_ = some f → w.now = false →
    s.rateStopped = false → s.zcWords ≤ w.tested →
    exec (.zcTimeout o ch) s = done s ((s.applyWait w).noticeIf nZCTIMEOUT
      [flag w.run 17 ||| flag o 16 ||| at32 ch 0, lo32 (f + w.tested), hi32 (f + w.tested)] (fun m => s.ownsChan m o ch))) ∧
  (∀ (n m : Nat) (k : Option Nat) (s : State), s.dram.pass = some m →
    exec (.delayLinePassDone n k) s = doneMem s (s.passDone n k)) ∧
  (∀ (i : Fin 16) (cy st : Nat) (p : Phase) (us : List PnUpset) (s : State),
    s.phaseEnds (· == .pn) i.val cy (!us.isEmpty) = some (p, st) →
    exec (.pnPhaseDone i cy us) s = done s ((s.pnPhase p.arg st s.stageLen us).phaseDone i.val cy)) ∧
  (∀ (i : Fin 16) (cy st : Nat) (p : Phase) (j : XmJob) (us : List Nat) (s : State),
    s.phaseEnds PhUnit.isXm i.val cy false = some (p, st) → s.xm.job = some j → j.phase = i.val →
    exec (.xmPhaseDone i cy us) s =
      (let t := s.xmRun (p.unit == .xm2) j.src (s.ndst (p.unit == .xm2)) us
       done s (State.phaseDone { t with xm := { t.xm with job := none } } i.val cy))) ∧
  (∀ (i : Fin 16) (cy o : Nat) (p : Phase) (s : State), s.tt.active[i.val]? = some p → look s.tt.openAt p.barrier = some o →
    p.unit = .sc → s.phaseComplete p i.val = false → o + p.allow = cy → s.inStage cy = true →
    exec (.scAllowanceExpiry i cy) s = done s ((s.forcePhase p i.val).advance cy))

/-- A core that may issue and has no partner issues the word at its program counter: a bundle, a branch, a call, a return
or a loop acts, FRAME and SYNC wait, TRAP faults with cause 9 and its code; a word that faults stops the task with the
cause of the fault. (R195, R209, R210, R229, R230, R233, 06_core_instruction_set.md) -/
def Obligations.CoreIssue : Prop :=
  ∀ (c : Fin 32) (cy : Nat) (s : State), s.members c.val = [c.val] → s.mayIssue c.val cy = true →
    (∀ up : CoreUpset, asBundle (s.fetch c.val) = true → s.bundleRoom cy c.val = true → s.upsetOk c.val up = true →
      exec (.bundle c cy up) s = done s (match s.bundleFault up c.val with
        | some f => s.coreFault c.val f.1 f.2
        | none => s.bundleDo up cy c.val)) ∧
    (∀ (up : CoreUpset) (i : Instr) (k : Nat) (f : CoreRegs → Nat → W64 → Flow),
      (i, k, f) ∈ [(Instr.bra c cy up, 0, flowBra), (Instr.call c cy up, 1, flowCall), (Instr.ret c cy up, 2, flowRet),
        (Instr.loop c cy up, 3, flowLoop)] →
      s.ctlAt c.val k = true → s.ctlHeld cy c.val = false → s.flowUpsetOk f c.val up = true →
      exec i s = done s (match s.flowFault f up c.val with
        | some e => s.coreFault c.val e.1 e.2
        | none => s.flowDo f up cy c.val)) ∧
    (s.ctlAt c.val 4 = true → s.outgoing c.val = false →
      exec (.frame c cy) s = done s (State.frameTask (match s.ctlFault false c.val with
        | some e => s.coreFault c.val e.1 e.2
        | none => s.frameCore cy c.val) cy c.val)) ∧
    (s.ctlAt c.val 4 = true → s.outgoing c.val = true → s.ctlFault false c.val = none →
      exec (.frame c cy) s = done s (s.finishMove (s.core c.val).task false)) ∧
    (s.ctlAt c.val 5 = true →
      exec (.sync c cy) s = done s (State.syncTask (match s.ctlFault false c.val with
        | some e => s.coreFault c.val e.1 e.2
        | none => s.syncCore (bf (s.fetch c.val) 51 48) cy c.val) [c.val] (bf (s.fetch c.val) 51 48) cy)) ∧
    (s.ctlAt c.val 6 = true → s.progBad c.val = false →
      ctlBad (s.core c.val).regs (s.core c.val).image.plen (s.fetch c.val) = false →
      exec (.trap c cy) s = done s (s.coreFault c.val 9 (bf (s.fetch c.val) 7 0)))

/-- The commands of a core act on the members of its pair, the follower 2 cycles after its leader. A deck read without a
write before it delivers the word to its register; the oldest deck write reaches the deck; the watchdog faults an
active core that has not issued FRAME by WDLIM, with cause 4. (R260, R261, R177, R180, R218, R184) -/
def Obligations.PairsQueuesAndWatchdog : Prop :=
  (∀ (c : Fin 32) (cy : Nat) (s : State), let ms := s.members c.val
    s.allMay ms cy = true →
    (∀ up : CoreUpset, asBundle (s.fetch (ms.headD c.val)) = true →
      ms.all (fun x => s.bundleRoom (memberCycle ms x cy) x) = true → s.upsetOk c.val up = true →
      exec (.bundle c cy up) s = done s (s.issueAll ms (fun s x => s.bundleFault (if x = c.val then up else .none) x)
        (fun s x => s.bundleDo (if x = c.val then up else .none) (memberCycle ms x cy) x))) ∧
    (∀ (up : CoreUpset) (i : Instr) (k : Nat) (f : CoreRegs → Nat → W64 → Flow),
      (i, k, f) ∈ [(Instr.bra c cy up, 0, flowBra), (Instr.call c cy up, 1, flowCall), (Instr.ret c cy up, 2, flowRet),
        (Instr.loop c cy up, 3, flowLoop)] →
      s.ctlAt (ms.headD c.val) k = true → ms.any (fun x => s.ctlHeld (memberCycle ms x cy) x) = false →
      s.flowUpsetOk f c.val up = true →
      exec i s = done s (s.issueAll ms (fun s x => s.flowFault f (if x = c.val then up else .none) x)
        (fun s x => s.flowDo f (if x = c.val then up else .none) (memberCycle ms x cy) x))) ∧
    (s.ctlAt (ms.headD c.val) 4 = true → s.outgoing (ms.headD c.val) = false →
      exec (.frame c cy) s = done s (ms.foldl (fun t x => t.frameTask cy x)
        (s.issueAll ms (fun s x => s.ctlFault false x) (fun s x => s.frameCore (memberCycle ms x cy) x)))) ∧
    (s.ctlAt (ms.headD c.val) 5 = true →
      exec (.sync c cy) s = done s ((s.issueAll ms (fun s x => s.ctlFault false x)
        (fun t x => t.syncCore (bf (s.fetch (ms.headD c.val)) 51 48) (memberCycle ms x cy) x)).syncTask ms
          (bf (s.fetch (ms.headD c.val)) 51 48) cy)) ∧
    (s.ctlAt (ms.headD c.val) 6 = true →
      exec (.trap c cy) s = done s (s.issueAll ms (fun s x => s.ctlFault true x) (fun s _ => s)))) ∧
  (∀ (c : Fin 32) (r : DeckRd) (l : List DeckRd) (s : State), s.members c.val = [c.val] →
    (s.core c.val).reads = r :: l → r.after = 0 →
    exec (.deckReadReturn c) s = done s (match r.got with
      | some v => s.modCore c.val (fun k => k.deliver v)
      | none => (s.deckFetch c.val r).1.modCore c.val (fun k => k.deliver (s.deckFetch c.val r).2))) ∧
  (∀ (c : Fin 32) (cy : Nat) (s : State), s.inStage cy = true →
    exec (.deckWriteArrive c cy) s = done s (s.drainOne c.val cy)) ∧
  (∀ (c : Fin 32) (cy : Nat) (s : State), s.inStage cy = true → (s.core c.val).state = .active →
    (s.core c.val).wait ≠ some .frame → wdLimit s.rate (s.core c.val).image.wdlim ≤ (s.core c.val).ran + cy →
    exec (.watchdog c cy) s = done s (s.coreFault c.val 4 0))

/-- On a legal word whose condition is true: BRA goes to its target, and with LP pops the loop stack, which faults when
empty; CALL pushes the next address and faults with eight on the stack; RET pops the return stack and faults when it
is empty. With a false condition they do nothing but step on. None changes a flag. Each COND selects its test of the
flags; code 15 selects none. (R229, R228) -/
def Obligations.ControlFlowAndConditions : Prop :=
  (∀ (r : CoreRegs) (plen : Nat) (w : W64), ctlBad r plen w = false →
    (ctlCond r w = false → ∀ f ∈ [flowBra, flowCall, flowRet], f r plen w = .go { r with pc := r.pc + 1 } false) ∧
    (ctlCond r w = true →
      (bf w 47 47 = 0 → flowBra r plen w = .go { r with pc := bf w 12 0 } true) ∧
      (bf w 47 47 = 1 → r.loops = [] → flowBra r plen w = .fault 8 0) ∧
      (∀ e l, bf w 47 47 = 1 → r.loops = e :: l → flowBra r plen w = .go { r with loops := l, pc := bf w 12 0 } true) ∧
      (r.rets.length = 8 → flowCall r plen w = .fault 8 1) ∧
      (r.rets.length < 8 → flowCall r plen w = .go { r with rets := (r.pc + 1) % 8192 :: r.rets, pc := bf w 12 0 } true) ∧
      (r.rets = [] → flowRet r plen w = .fault 8 1) ∧
      (∀ a l, r.rets = a :: l → flowRet r plen w = .go { r with rets := l, pc := a } true)) ∧
    ∀ f ∈ [flowBra, flowCall, flowRet], ∀ r' k, f r plen w = .go r' k → r'.flg = r.flg) ∧
  (∀ f : Flg, (List.range 16).map (condTrue f) =
    [some true, some f.z, some (!f.z), some (f.n != f.v), some (f.n == f.v), some (!f.z && f.n == f.v),
      some (f.z || f.n != f.v), some f.n, some (!f.n), some f.v, some (!f.v), some f.c, some (!f.c), some f.sv,
      some (!f.sv), none])

/-- The result register, N, Z, V, C and SV after each, in terms of exact integers; other data registers and the
accumulators are left. (R223) -/
def Obligations.AluArithmetic : Prop :=
  ∀ (r : CoreRegs) (w : W64),
    let x := r.dr (bf w 53 50)
    let y := r.dr (bf w 49 46)
    let d := bf w 57 54
    let t := cmpExec r w
    (cop w ∈ [0x08, 0x09, 0x0A, 0x0B, 0x0F, 0x15, 0x16] → t.a = r.a ∧ t.pc = r.pc ∧ (∀ i, i ≠ d → t.dr i = r.dr i)) ∧
    (cop w ∈ [0x08, 0x09, 0x0A, 0x0B, 0x15, 0x16] → t.n = (t.dr d).msb ∧ t.z = (t.dr d == 0)) ∧
    (cop w = 0x08 → t.dr d = x + y ∧ t.sv = r.sv ∧ (t.v = true ↔ (x + y).toInt ≠ x.toInt + y.toInt) ∧
      (t.c = true ↔ 2 ^ 32 ≤ x.toNat + y.toNat)) ∧
    (cop w = 0x09 → t.dr d = x - y ∧ t.sv = r.sv ∧ (t.v = true ↔ (x - y).toInt ≠ x.toInt - y.toInt) ∧
      (t.c = true ↔ y.toNat ≤ x.toNat)) ∧
    (cop w = 0x0F → t.d = r.d ∧ t.n = (x - y).msb ∧ t.z = (x == y) ∧ t.sv = r.sv ∧
      (t.v = true ↔ (x - y).toInt ≠ x.toInt - y.toInt) ∧ (t.c = true ↔ y.toNat ≤ x.toNat)) ∧
    (cop w = 0x0A → (t.dr d).toInt = max (-2 ^ 31) (min (2 ^ 31 - 1) (x.toInt + y.toInt)) ∧ t.c = r.c ∧
      (t.v = true ↔ (t.dr d).toInt ≠ x.toInt + y.toInt) ∧ t.sv = (r.sv || t.v)) ∧
    (cop w = 0x0B → (t.dr d).toInt = max (-2 ^ 31) (min (2 ^ 31 - 1) (x.toInt - y.toInt)) ∧ t.c = r.c ∧
      (t.v = true ↔ (t.dr d).toInt ≠ x.toInt - y.toInt) ∧ t.sv = (r.sv || t.v)) ∧
    (cop w = 0x15 → t.dr d = -x ∧ (t.v = true ↔ x = 0x80000000) ∧ (t.c = true ↔ x = 0) ∧ t.sv = r.sv) ∧
    (cop w = 0x16 → (t.dr d).toInt = min (2 ^ 31 - 1) (x.toInt.natAbs : Int) ∧ (t.v = true ↔ x = 0x80000000) ∧ t.c = r.c ∧
      t.sv = (r.sv || t.v))

/-- The accumulator takes the 80-bit saturated sum, or the product alone with Z, negated with N; SV is set when it
saturates; no other flag, no data register and no other accumulator changes. (R221) -/
def Obligations.MultiplyAccumulate : Prop :=
  ∀ (r : CoreRegs) (w : W64), cop w = 0x01 →
    let p := (r.dr (bf w 55 52)).toInt * (r.dr (bf w 51 48)).toInt
    let e := (if bf w 39 39 = 1 then 0 else (r.ar (bf w 57 56)).toInt) + (if bf w 38 38 = 1 then -p else p)
    let t := cmpExec r w
    (t.ar (bf w 57 56)).toInt = max (-2 ^ 79) (min (2 ^ 79 - 1) e) ∧
      t.sv = (r.sv || decide ((t.ar (bf w 57 56)).toInt ≠ e)) ∧ t.d = r.d ∧ t.n = r.n ∧ t.z = r.z ∧ t.v = r.v ∧ t.c = r.c ∧
      ∀ i, i ≠ bf w 57 56 → t.ar i = r.ar i

/-- Each event, where what it ends is in progress, and what it does. (R168, R239, R240, R243, R245, R250, R252, R253,
R255, R259, R262) -/
def Obligations.FerryEvents : Prop :=
  (∀ (k : Fin 32) (cy : Nat) (p : Patch) (s : State), s.inStage cy = true →
    (s.patchOf k.val false = some p → exec (.faultRepeat k cy) s = done s ((s.drain p.berth cy).patchDone p cy)) ∧
    (s.patchOf k.val true = some p → exec (.stopFade k cy) s = done s ((s.drain p.berth cy).patchDone p cy))) ∧
  (∀ (cy : Nat) (e : Bool) (j : FerryJob) (s : State), s.ferry.cur = some j → j.copied = false →
    (s.task j.task).applying = [] → (s.inStage cy = true ∨ e = true ∨ s.tt.staged = false) →
    exec (.ferryCopyDone cy e) s = done s (s.copyDone j cy e)) ∧
  (∀ (k : Fin 32) (s : State), (s.task k.val).sh = .filling → (s.task k.val).fillOn = true → (s.task k.val).filled = false →
    ∃ t, exec (.shadowFillDone k) s = .next t ∧ (t.task k.val).filled = true) ∧
  (∀ (k : Fin 32) (s : State), (s.task k.val).applying ≠ [] →
    exec (.journalApplied k) s = done s (s.modTask k.val TaskRec.applied)) ∧
  (∀ (b : Fin 32) (s : State), s.ferry.fills.contains b.val = true →
    let t : State := { s with ferry := { s.ferry with fills := s.ferry.fills.erase b.val } }
    let u := if (t.core b.val).load.isSome then t else (t.setCore b.val (emptyCore (t.restState b.val))).rested b.val
    exec (.berthFillDone b) s = done s (u.release (fun w => w == Wait.fill b.val))) ∧
  (∀ (b : Fin 32) (p : Bool) (r : Byte) (s : State), (s.core b.val).state = .testing → s.copyOwed b.val = false →
    exec (.berthTestDone b p r) s = done s (s.testEnd b.val p r.toNat)) ∧
  (∀ (k : Fin 32) (e : Bool) (m : Move) (s : State), (s.task k.val).move = some m → m.mirrored = false → m.handed = none →
    exec (.mirrorDone k e) s = done s
      (if e || s.anyBad (s.mirrorReads m)
       then s.cancelMove k.val 2
       else s.modTask k.val (fun r => { r with move := some { m with mirrored := true } }))) ∧
  (∀ (k : Fin 32) (m : Move) (s : State), (s.task k.val).move = some m → m.handed.isSome = true → m.firstWrite.isSome = true →
    exec (.handoverWindowEnd k) s = done s (s.finishMove k.val false)) ∧
  (∀ (k : Fin 32) (s : State), (s.task k.val).rvwait = true → (s.task k.val).holdLeft = 0 →
    exec (.returnHoldExpiry k) s = done s (s.startReturn k.val)) ∧
  (∀ (k : Fin 32) (b : Nat) (s : State), (s.task k.val).rejoin = some b → (s.task k.val).solo = true →
    (s.task k.val).holdLeft = 0 → (s.task k.val).move = none → (s.core b).state = .idle →
    s.ferry.fills.contains b = false →
    exec (.tandemRejoin k) s = done s (s.startMove k.val .join b 0 true))

/-- Each event out of reset, and what it does; a packet or doorbell of a mooring that is not bound to the function counts
as stray. (R285, R296, R298, R300, R564) -/
def Obligations.PcieEvents : Prop :=
  (∀ (f : Fin 4) (m : Fin 8) (k : Fin 4) (l : List W32) (d : Arrival) (s : State), s.awake = true → s.pcieOpen = true →
    exec (.pcieApertureWrite f m k l d) s =
      doneMem s (if s.barTakes f.val m.val k.val then s.arrive f.val m k.val l d else s.bump F.PCIE_STAT_STRAY)) ∧
  (∀ (f : Fin 4) (m : Fin 8) (v : W32) (s : State), s.awake = true → s.pcieOpen = true →
    exec (.pcieDbWrite f m v) s =
      doneMem s (if s.barTakes f.val m.val (bf v 17 16)
        then s.endPacket m (bf v 17 16)
          (bf v 14 0 != (((s.queue m.val (bf v 17 16)).landing.getD noLanding).words).length) false
        else s.bump F.PCIE_STAT_STRAY)) ∧
  (∀ (f : Fin 4) (u : Bool) (s : State), s.awake = true →
    ∃ t, exec (.pcieBmeChange f u) s = .next t ∧ t.pcie.bme = s.pcie.bme.set f.val u ∧
      s.unitsKept { t with pcie := s.pcie }) ∧
  (∀ (f : Fin 4) (s : State), s.awake = true → exec (.pcieFlr f) s = done s (s.linkReset (· == f.val))) ∧
  (∀ s : State, s.awake = true → exec .perstN s = done s s.pcieDown ∧ exec .pcieLinkLoss s = done s s.pcieDown) ∧
  (∀ (v : BitVec 3) (w : BitVec 2) (s : State), s.awake = true → v ≠ 0 → s.on F.PLL0_STAT_LOCK = true →
    exec (.pcieLinkUp v w) s =
      done s (((s.setFld F.PCIE_STAT_SPEED v.toNat).setFld F.PCIE_STAT_WIDTH w.toNat).setReady [F.SYS_READY_PCIE])) ∧
  (∀ (f : Fin 4) (a : Nat) (s : State), s.awake = true → a % 4 = 0 →
    (∀ v : W32, exec (.registerWrite a v (some f)) s = doneMem s (s.barWrite f.val a v)) ∧
    ∃ t, exec (.rcRead a (some f)) s = .next t ∧ t.side.data = [(s.barRead f.val a).1]) ∧
  (∀ (m : Fin 8) (s : State), s.awake = true → exec (.replyDma m) s = done s (s.replyDma m)) ∧
  (∀ (m : Fin 8) (s : State), s.pcie.spacing.contains m.val = true →
    exec (.messageSpacingEnd m) s = done s (s.spacingEnd m.val))

/-- Each operation of an enabled port. REPLY brings out the oldest reply or notice of the port's moorings, or one word 0,
and takes it from the store once it has been sent whole. (R301, R302, R303) -/
def Obligations.QuayEvents : Prop :=
  ∀ (n : Fin 2) (s : State), s.awake = true → s.quayOpen n.val = true →
    (∀ (l : List W32) (p e : Bool), exec (.qpPacket n l p e) s = doneMem s (s.quayPacket n.val l p e)) ∧
    (∀ w : Bool, (s.ctl.run = .restarting ∨ s.quayStore n.val = []) →
      ∃ t, exec (.qpReply n w) s = .next t ∧ t.side.data = [0] ∧ s.unitsKept { t with side := s.side }) ∧
    (∀ (w : Bool) (m : Fin 8) (p : OutPkt) (l : List (Fin 8 × OutPkt)), s.ctl.run ≠ .restarting →
      s.quayStore n.val = (m, p) :: l →
      ∃ t, exec (.qpReply n w) s = .next t ∧ t.side.data = p.words ∧
        t.moors = if w then s.moors.set m { s.moors[m] with out := (s.moors[m]).out.erase p } else s.moors) ∧
    (exec (.qpStatus n) s = done s (s.quayStatus n.val)) ∧
    (∀ (m : Fin 8), s.fld (F.MOOR_BINDm_LINK m.val) = 4 + n.val →
      exec (.qpMreset n (BitVec.ofNat 32 (0x4D520000 + m.val))) s = done s (s.mooringReset m)) ∧
    (∀ op : Byte, op ∉ [0x5C, 0x3A, 0x96, 0x6E] →
      exec (.qpBadOpcode n op) s = done s (s.bump (F.QPn_STAT_BADOP n.val)))

/-- With the controllers running, the next packet in the order of R291 is taken: read in full, then started or refused; one marked
by FLUSH is refused with EFLUSHED; after it the running packet is at an instruction boundary. With no packet ready, nothing starts:
what belongs to no session, and the landing queues, stay. (R290, R291, R294) -/
def Obligations.PacketsStart : Prop :=
  (∀ s : State, s.awake = true → exec .packetStart s = doneMem s s.packetStart) ∧
  (∀ (m : Fin 8) (c : Fin 4) (p : Landed) (s : State), s.awake = true → s.commands = true →
    s.nextPacket = some (m, c, p) → p.flush ≠ [] →
    let q := s.queue m.val c.val
    let t := s.setQueue m.val c.val { q with landed := q.landed.tail }
    exec .packetStart s = doneMem s (State.boundary (State.refusePacket
      { t with ctl := { t.ctl with rr := t.ctl.rr.set c.val m.val } } m c p (s.packetAt m.val c.val p).2 eflushed))) ∧
  (∀ (m : Fin 8) (c : Fin 4) (p : Landed) (s : State), s.awake = true → s.commands = true →
    s.nextPacket = some (m, c, p) → exec .packetStart s = doneMem s (s.takePacket m c p).boundary) ∧
  (∀ s : State, s.awake = true → s.commands = true → s.nextPacket = none →
    exec .packetStart s = doneMem s s.boundary ∧
    (∀ p rest, s.ctl.stack = p :: rest → (∀ i ∈ p.insns.head?, opListed i.op = true) → exec .packetStart s = .next s) ∧
    (s.ctl.stack = [] → exec .packetStart s = .next s))

/-- A write sets the index. A read of one register brings it out and advances the index; a read of index 5 clears the
alert word. A read of any length brings out a word for each register it reaches, the last of them in part, and advances the
index past each that it reads whole; nothing else changes. (R305, R306) -/
def Obligations.MgmtTransfers : Prop :=
  (∀ (i : Byte) (s : State), s.pwr.por = false →
    exec (.mgmtWrite i) s = .next { s with side := { s.side with mgmtIndex := i } }) ∧
  (∀ s : State, s.pwr.por = false →
    exec (.mgmtRead 4) s = .next { s with side := { s.side with
      mgmtIndex := s.side.mgmtIndex + 1
      alert := if s.side.mgmtIndex = 5 then 0 else s.side.alert
      data := [s.mgmtReg s.side.mgmtIndex.toNat] } }) ∧
  (∀ (n : Nat) (s : State), s.pwr.por = false →
    ∃ t, exec (.mgmtRead n) s = .next t ∧ t.side.data.length = (n + 3) / 4 ∧
      t.side.mgmtIndex = s.side.mgmtIndex + BitVec.ofNat 8 (n / 4) ∧ s.unitsKept { t with side := s.side })

/-- Out of POR, in every life-cycle state, each instruction of the TAP is entered, ends the debug access (log 150) and changes
nothing else; IDCODE brings out 0x11480 6B9 plus 0x1000 0000 times the stepping, with VDD_IO18 present. With the DEBUG gate open,
an access that no target refuses reads or writes its word and leaves the debug access open; with it closed, reads are zeros and
writes are dropped. (R565, R507, R446, R477, R572) -/
def Obligations.TapAndDebugAccess : Prop :=
  (∀ s : State, s.pwr.por = false →
    let e : Tap → Out := fun x => .next { s with tap := x, side := { s.side with debug := false } }
    exec .bypass s = e .bypass ∧ exec .samplePreload s = e .sample ∧ exec .extest s = e .extest ∧ exec .clamp s = e .clamp ∧
    exec .highz s = e .highz ∧
    exec .idcode s = .next { s with tap := .idcode, side := { s.side with debug := false, data :=
      if s.ioPowered then [0x114806B9 + BitVec.ofNat 32 (0x10000000 * s.otp.step.toNat)] else [] } }) ∧
  (∀ (a : Nat) (s : State), s.awake = true → a % 4 = 0 →
    let u : State := { s with side := { s.side with debug := true } }
    (∀ v : W32, s.gateOpen 1 22 = true → u.debugError (u.remapped a) true = none →
      exec (.jtagDebugAccess a (some v)) s = doneMem s (u.debugWrite (u.remapped a) v)) ∧
    (s.gateOpen 1 22 = true → u.debugError (u.remapped a) false = none →
      exec (.jtagDebugAccess a none) s = doneMem s (u.debugRead (u.remapped a))) ∧
    (∀ v : W32, s.gateOpen 1 22 = false → exec (.jtagDebugAccess a (some v)) s = .next s) ∧
    (s.gateOpen 1 22 = false → exec (.jtagDebugAccess a none) s = .next { s with side := { s.side with data := [0] } }))

/-- BOOT_FLASH_DONE, LOADER_GO, a lockstep mismatch, a controller watchdog expiry and the end of a controller restart complete,
each with the effect of its operation. While the controllers boot and no word of the boot ROM is uncorrectable, the flash
image that passes its check runs, the first copy before the second, and with neither the controllers stay off. Where GO is 1
and the loaded image passes its check, the loader starts it; where it fails, no image starts. Out of DEVICE reset, a restart of
running controllers counts in CTLRST with its cause, clears SYS_READY.CTL, and runs no instruction until it ends. (R508,
R554, R556, R561, R562, R563) -/
def Obligations.ControllersBootAndRestart : Prop :=
  (∀ (a b : List Byte) (s : State), exec (.bootFlashDone a b) s = doneMem s (s.bootFlash a b)) ∧
  (∀ (a b : List Byte) (s : State), s.ctl.run = .booting → s.romBad = none →
    s.bootFlash a b =
      (if s.fwOk a then (s.setFld F.SYS_BOOT_SOURCE 0).fwStart a
       else if s.fwOk b then (s.setFld F.SYS_BOOT_SOURCE 1).fwStart b
       else { s.setFld F.SYS_BOOT_SOURCE 3 with ctl := { s.ctl with run := .off } })) ∧
  (∀ s : State, s.ctlRuns = true →
    exec .ctlLockstepMismatch s = doneMem s (s.ctlRestart 1 0) ∧
    exec .ctlWatchdogExpiry s = doneMem s (s.ctlRestart 2 0)) ∧
  (∀ (a b : List Byte) (s : State), s.ctl.run = .restarting →
    exec (.ctlRestartDone a b) s = doneMem s (s.restartEnd a b)) ∧
  (∀ (v : W32) (s : State), s.ctl.run = .loader → exec (.loaderGo v) s = doneMem s (s.goWrite v)) ∧
  (∀ (v : W32) (s : State), s.ctl.run = .loader →
    let t := s.writeReg F.SYS_BOOT v false
    let l := (List.range (t.fld F.SYS_BOOT_LEN)).map (fun i => t.byte (0x20000000 + i))
    let u := (t.setFld F.SYS_BOOT_SOURCE 2).fwStart l
    s.goWrite v = (if bit v 31 = true ∧ t.ctl.run = .loader ∧ t.fwOk l = true
      then (if t.ctl.bound then u.ctlResume else u) else t)) ∧
  (∀ (cause : Nat) (s : State), s.ctlRuns = true → s.pwr.held = false → cause = 1 ∨ cause = 2 →
    let t := s.ctlRestart cause 0
    t.ctl.run = .restarting ∧ t.reg F.RST_CNT = ((s.bump F.RST_CNT_CTLRST).setFld F.RST_CNT_CTLCAUSE cause).reg F.RST_CNT ∧
      t.on F.SYS_READY_CTL = false ∧ t.commands = false)

/-- Each event of the banks, where its precondition holds, and what it does. (R486, R490, R491, R498, R499, R543) -/
def Obligations.BankEvents : Prop :=
  (∀ (a : Nat) (s : State), s.markAt a = some .single →
    exec (.eccWriteBack a) s = done s ((s.setMark a none).ceRecord a)) ∧
  (∀ (a : Nat) (s : State), s.markAt a ≠ some .single → exec (.eccWriteBack a) s = .next s) ∧
  (∀ (f : Finding) (n : Nat) (s : State), s.memtRuns 20 = true →
    exec (.scrubWord f n) s = done s (s.scrubWord f n)) ∧
  (∀ (l : List SubFail) (a : Nat) (s : State), s.on F.MARCH_STAT_RUN = true →
    exec (.marchDone l a) s = doneMem s (s.marchEnd l a)) ∧
  (∀ (b : Nat) (l : List SubFail) (s : State), b < 40 → s.bankOn b = true → s.pwr.held = false →
    s.on F.PLL0_STAT_LOCK = true → exec (.bankReady b l) s = doneMem s (s.bankReady b l)) ∧
  (∀ (d : Fin 8) (s : State), (look s.pwr.moving d.val).isSome = true →
    exec (.powerDone d) s = doneMem s (s.powerDone d.val))

/-- Each event while D5 runs on a locked PLL0, in the controller's state that it belongs to. (R519, R520, R521, R522,
R523, R535) -/
def Obligations.DramEvents : Prop :=
  (∀ (r : TrainResult) (s : State), s.dramClock = true → s.training = true →
    exec (.dramTrainingStep r) s = doneMem s (s.trainStep r)) ∧
  (∀ (b : Bool) (k : Track) (s : State), s.dramClock = true → s.fld F.DRC_STAT_STATE = 4 →
    exec (.dramRefresh b k) s = done s (s.dramRefresh b k)) ∧
  (∀ (r : BitVec 3) (s : State), s.dramClock = true → s.fld F.DRC_STAT_STATE = 4 →
    ∃ t, exec (.mr4Poll r) s = .next t ∧ t.fld F.DRC_STAT_RATE = r.toNat ∧ t.on F.DRC_STAT_DHOT = decide (r = 7)) ∧
  (∀ (f g : List (Fin 8)) (s : State), s.dramClock = true → s.fld F.DRC_STAT_STATE = 4 → s.on F.DRC_CTRL_PATROL = true →
    64 ≤ s.dramBytes → exec (.patrolRead f g) s = done s (s.patrol (f.map (·.val)) (g.map (·.val)))) ∧
  (∀ (k : Fin 32) (r : RecLine) (s : State), s.dram.recs.find? (fun r => r.c == k.val) = some r →
    exec (.recorderWriteDone k) s = doneMem s (s.capDone k.val))

/-- Each event, where its precondition holds, and what it does. (R363, R364, R365, R366, R367, R369, R375, R381, R402) -/
def Obligations.NetworkEvents : Prop :=
  (∀ (b : Bool) (v : BitVec 3) (s : State), s.awake = true → s.pd 5 = 0 → v.toNat ≤ 5 →
    exec (.netLinkChange b v) s = done s (s.netLink b v.toNat)) ∧
  (∀ (f : RtpIn) (s : State), s.hears f.netB = true →
    exec (.rtpPacketRx f) s = done s (s.rtpRx f)) ∧
  (∀ (b : Bool) (ip : W32) (s : State), s.hears b = true → s.firmware = true → s.reg (F.NETx_IP (netIx b)) = ip → ip ≠ 0 →
    exec (.arpRequestRx b ip) s = done s (s.sentOwn b (.arpReply ip)) ∧
    ∀ l : List Byte, l.length ≤ 1472 → exec (.icmpEchoRx b ip l) s = done s (s.sentOwn b (.icmpReply ip l))) ∧
  (∀ (b : Bool) (ip : W32) (l : List Byte) (s : State), 1472 < l.length → exec (.icmpEchoRx b ip l) s = .next s) ∧
  (∀ (b : Bool) (v : IgmpVersion) (g : W32) (s : State), s.hears b = true → s.firmware = true →
    exec (.igmpQueryRx b v g) s = done s (s.igmpAnswer b v g)) ∧
  (∀ (n : Fin 512) (k : Ctx) (s : State), s.awake = true → s.firmware = true → s.ctx n.val = some k → k.run = true →
    k.tx = false → k.reports = 1 →
    exec (.igmpReportTimer n) s = done s ((s.setCtx n.val { k with reports := 0 }).igmp k)) ∧
  (∀ (f : TapIn) (s : State), s.hears f.netB = true → exec (.tapFrameRx f) s = done s (s.tapRx f)) ∧
  (∀ (n : Fin 512) (k : Ctx) (s : State), s.packetises = true → s.ctx n.val = some k →
    (∀ a b : Bool, let ps := k.unsent.filter (fun x => (if x then b else a) && s.netUp x)
      s.packetReady k false = true → ps ≠ [] →
      exec (.streamPacketTx n a b) s = done s (s.sendPacket n.val k ps).sendBehind) ∧
    (s.packetReady k true = true →
      exec (.streamTxDiscard n) s = done s (State.sendBehind
        ((k.unsent.foldl (fun t _ => t.bump (F.STRMn_PKT_DROP n.val)) s).afterPacket n.val k)))) ∧
  (∀ (d : W16) (s : State), s.awake = true → s.on F.NETA_MDIO_GO = true →
    ∃ t, exec (.mdioFrameDone d) s = .next t ∧ t.on F.NETA_MDIO_GO = false ∧
      (s.mdioReads = true → t.fld F.NETA_MDIO_DATA = d.toNat))

/-- While the firmware runs and the servo is not off, on a port that PTP uses: an Announce moves the port states; a Sync, or
the Follow_Up that belongs to it, reaches the servo of a slave's port; a message that falls due leaves where the port's state
and the profile let it, and one that they do not leaves the state; a port that has lost its master listens or becomes
master. (R341, R393, R394, R395, R396, R399, R400) -/
def Obligations.PtpEvents : Prop :=
  ∀ (b : Bool) (s : State), s.hears b = true → s.ptpRuns = true → s.ptpPorts b = true →
    (∀ m : PtpMsg, exec (.ptpMessageRx b m) s = done s (s.ptpRx b m)) ∧
    (∀ d : Announce, s.ptpRx b (.announce d) = (s.announce b d).ptpFollow) ∧
    (∀ (rx t1 : Nat) (c : Int), s.ptpSlave b = true →
      s.ptpRx b (.sync rx t1 c) = (s.syncDone b (s.ingress b rx) t1 c).ptpFollow) ∧
    (∀ (q : W16) (t1 : Nat) (c c0 t2 : Int), s.ptpSlave b = true → (s.ptpPort b).open_ = some (q, t2, c0) →
      s.ptpRx b (.followUp q t1 c) = (s.syncDone b t2 t1 (c0 + c)).ptpFollow) ∧
    (∀ (k : PtpKind) (tx : Nat), exec (.ptpMessageTx b k tx) s = done s (s.ptpTx b k tx)) ∧
    (∀ tx : Nat,
      (s.fld (portFld b) ≠ 6 → s.ptpTx b .sync tx = s ∧ s.ptpTx b .announce tx = s) ∧
      (s.peerDelay = true → s.ptpTx b .delayReq tx = s) ∧ (s.peerDelay = false → s.ptpTx b .pdelayReq tx = s)) ∧
    (4 ≤ s.fld (portFld b) → s.fld (portFld b) ≠ 6 →
      exec (.announceReceiptTimeout b) s = done s (s.announceLost b))

/-- Each event, where its precondition holds, and what it does. (R414, R418, R419, R424, R426, R432, R433) -/
def Obligations.PortEvents : Prop :=
  (∀ (g : Fin 4) (f : TdmIn) (s : State), s.slaveRuns g.val = true → s.tapHolds = false → s.inPeriodAt f.d4 = true →
    exec (.tdmSlaveFrame g f) s = done s (if s.served 1 g.val then s.servedFrame g.val f else s.slaveFrame g.val f)) ∧
  (∀ (g : Fin 4) (s : State), s.slaveRuns g.val = true → exec (.tdmFsyncLoss g) s = done s (s.fsyncLost g.val)) ∧
  (∀ (n : Fin 8) (f : AesIn) (s : State), s.rxRuns n.val = true → s.tapHolds = false → s.inPeriodAt f.d4 = true → exec (.aes3FrameRx n f) s = done s (s.aesRx n.val f)) ∧
  (∀ (n : Fin 8) (s : State), s.rxRuns n.val = true → s.on (F.AESRXn_STAT_LOCK n.val) = true →
    exec (.aes3LockLoss n) s = done s (s.loseLock n.val)) ∧
  (∀ (n : Fin 24) (s : State), s.asrcRuns = true → s.asrcReady n.val = true →
    exec (.asrcAcquireDone n) s = done s (s.asrcAcquired n.val))

/-- A read of a word that no one has written since its buffer was cleared is 0; a word that is written is valid and reads back, and
no other word changes; a bank that refuses the access reads 0 and drops the write. The stage edge of a frame clears the valid bits
of its WORK and OUT buffers, the begin of its capture those of its IN buffers, and no others; a change of kind those of both
buffers of the slot. A write of a compute unit to an IN or FREE slot, a lag write and one to another frame's buffer, a write of a
port to a slot that is not IN, and a write of DEBUG leave the deck as it was; all but the last set KERR. An MWRITE to the deck
region fails with EPERM. (R27, R28, R29, R30, R36, R492, R502, 01_frames_deck_and_timetable.md) -/
def Obligations.DeckReadsAndWrites : Prop :=
  (∀ (slot f w : Nat) (s : State), look s.deck.words (deckKey slot f w) = none →
    s.deckGet slot f w = 0 ∧ s.deckValid slot f w = false) ∧
  (∀ (slot f w : Nat) (v : W32) (s : State), s.bankShut 7 = false →
    (s.deckPut slot f w v).deckGet slot f w = v ∧ (s.deckPut slot f w v).deckValid slot f w = true) ∧
  (∀ (slot f w slot' f' w' : Nat) (v : W32) (s : State), deckKey slot' f' w' ≠ deckKey slot f w →
    (s.deckPut slot f w v).deckGet slot' f' w' = s.deckGet slot' f' w') ∧
  (∀ (slot f w : Nat) (v : W32) (s : State), s.bankShut 7 = true → s.deckGet slot f w = 0 ∧ s.deckPut slot f w v = s) ∧
  (∀ (k slot f w : Nat) (s : State), w < 16 →
    let t := s.newStage k
    if (s.kind slot = .work ∨ s.kind slot = .out) ∧ f % 2 = k % 2 then t.deckValid slot f w = false
    else look t.deck.words (deckKey slot f w) = look s.deck.words (deckKey slot f w)) ∧
  (∀ (slot f w : Nat) (s : State), w < 16 →
    let t := s.clearIns
    if s.msi % 16 = 2 ∧ s.kind slot = .inp ∧ f % 2 = s.msi / 16 % 2 then t.deckValid slot f w = false
    else look t.deck.words (deckKey slot f w) = look s.deck.words (deckKey slot f w)) ∧
  (∀ (first n slot f w : Nat) (k : SlotKind) (s : State), w < 16 →
    let t := s.applyEff (.slotKind first n k)
    if first ≤ slot ∧ slot < first + n ∧ s.kind slot ≠ k then t.kind slot = k ∧ t.deckValid slot f w = false
    else t.kind slot = s.kind slot ∧ look t.deck.words (deckKey slot f w) = look s.deck.words (deckKey slot f w)) ∧
  (∀ (slot f w : Nat) (lag : Bool) (v : W32) (s : State),
    s.kind slot = .inp ∨ s.kind slot = .free ∨ lag = true ∨ f ≠ s.tt.frame →
    (s.deckWrite slot f w lag v).deck = s.deck ∧ (s.bankShut 7 = false → (s.deckWrite slot f w lag v).on F.TT_STAT_KERR = true)) ∧
  (∀ (ch n slot : Nat) (s : State), look s.deck.inBind ch = some slot → s.kind slot ≠ .inp →
    (s.inChan ch n).1.deck = s.deck ∧
    (∀ v, s.stopping ch n = none → (s.raw ch n).1 = .data v → s.ports.waits = [] → s.running false ch = true →
      (s.inChan ch n).1.on F.TT_STAT_KERR = true)) ∧
  (∀ (a : Nat) (v : W32) (s : State), 0x90000000 ≤ a → a < 0x90200000 → s.rawBank 7 = false →
    ∃ t, exec (.jtagDebugAccess a (some v)) s = .next t ∧ t.deck = s.deck) ∧
  (∀ (q : Req) (s : State), s.takes 0x09 0 q → s.ctl.run = .firmware → q.cls.val ∈ [1, 2] → 3 ≤ q.ops.length →
    0x90000000 ≤ opAddr q → opAddr q < 0x90200000 → exec (.mwrite q) s = s.rejects 0x09 q eperm)

/-- The commands of the block reach it as operations and events: no word spells one, and withFetchWord leaves the state
(log 49). (00_scope.md, 09_command_set.md) -/
def Obligations.NoTableWordSpellsACommand : Prop :=
  (∀ n w : Nat, Sys2Proof.decodeTableWord n w = none) ∧ ∀ (s : State) (n w : Nat), s.withFetchWord n w = s

/-- A gain write of target t and shift r at its sample (R76), and the gains it gives to the samples from there on (R77):
without a ramp t at once; else a + k * STEP at the k-th sample before the 2^r-th, and t from the 2^r-th on, with no gain
beyond t. (R76, R77) -/
def Obligations.GainRamps : Prop :=
  (∀ e : XmEntry,
    (e.run = false → xmTick e = e) ∧
    (e.run = true → e.cnt = 0 → xmTick e = { e with active := e.target, run := false }) ∧
    (e.run = true → e.cnt ≠ 0 → xmTick e = { e with active := e.active + e.step, cnt := e.cnt - 1 })) ∧
  (∀ (n : Nat) (e : XmEntry), xmTicks 0 e = ([], e) ∧
    xmTicks (n + 1) e = ((xmTick e).active :: (xmTicks n (xmTick e)).1, (xmTicks n (xmTick e)).2)) ∧
  ∀ (e : XmEntry) (t : W24) (r : Nat), r ≤ 12 →
    let w := xmWrite e t r
    let a := e.active.toInt
    let d := (t.toInt - a).tdiv (2 ^ r)
    (r = 0 ∨ t = e.active →
      w = { e with active := t, target := t, run := false, cnt := 0, step := 0 } ∧
      ∀ n, (xmTicks n w).1 = List.replicate n t) ∧
    (r ≠ 0 → t ≠ e.active →
      w = { e with step := w.step, target := t, rsh := w.rsh, cnt := w.cnt, run := true } ∧
      w.step.toInt = d ∧ w.rsh.toNat = r ∧ w.cnt.toNat = 2 ^ r - 1 ∧
      (∀ n i, i < n → ∃ g, (xmTicks n w).1[i]? = some g ∧
        g.toInt = (if i + 1 < 2 ^ r then a + (i + 1) * d else t.toInt) ∧
        min a t.toInt ≤ g.toInt ∧ g.toInt ≤ max a t.toInt) ∧
      ∀ n, 2 ^ r ≤ n → (xmTicks n w).2.run = false ∧ (xmTicks n w).2.active = t)

/-- A direct write sets ACTIVE, TARGET and the exponents, ends a glide and keeps the state unless it clears it (R116). A
glide write aligns the tap exponents, and its j-th update gives ACTIVE + j * STEP before the 2^g-th and TARGET from there on
(R117). A sample of a section updates its record first and then computes with the ACTIVE values and the exponent. (R116,
R117) -/
def Obligations.DirectAndGlideWrites : Prop :=
  (∀ (r : Section) (t : Five) (e : Nat) (clr : Bool), e ≤ 6 →
    let w := secDirect r t e clr
    w = { r with act := t, tgt := t, vea := w.vea, vet := w.vet, stp := ⟨0, 0, 0, 0, 0⟩, cnt := 0, run := false,
                 s0 := if clr then 0 else r.s0, s1 := if clr then 0 else r.s1 } ∧
    w.vea.toNat = e ∧ w.vet.toNat = e ∧ ∀ n, secTicks n w = w) ∧
  (∀ v : W32, rshr v 0 = v) ∧
  (∀ (v : W32) (k : Nat), 1 ≤ k → k ≤ 7 → (rshr v k).toInt = (v.toInt + 2 ^ (k - 1)) / 2 ^ k) ∧
  (∀ r : Section,
    (r.run = false → secTick r = r) ∧
    (r.run = true → r.cnt = 0 → secTick r = { r with act := r.tgt, run := false }) ∧
    (r.run = true → r.cnt ≠ 0 → secTick r = { r with act := Five.zip (· + ·) r.act r.stp, cnt := r.cnt - 1 })) ∧
  (∀ (r : Section) (t : Five) (et g : Nat), et ≤ 6 → g ≤ 15 →
    let w := secGlide r t et g
    let e := max r.vea.toNat et
    let x := e - r.vea.toNat
    let y := e - et
    w = { r with act := w.act, tgt := w.tgt, vea := w.vea, vet := w.vet, stp := w.stp, g := w.g, cnt := w.cnt, run := true } ∧
    w.vea.toNat = e ∧ w.vet.toNat = e ∧ w.g.toNat = g ∧ w.cnt.toNat = 2 ^ g - 1 ∧
    w.act = ⟨r.act.k1, r.act.k2, rshr r.act.v0 x, rshr r.act.v1 x, rshr r.act.v2 x⟩ ∧
    w.tgt = ⟨t.k1, t.k2, rshr t.v0 y, rshr t.v1 y, rshr t.v2 y⟩ ∧
    w.stp = Five.zip (fun p q => BitVec.ofInt 32 ((p.toInt - q.toInt).tdiv (2 ^ g))) w.tgt w.act ∧
    (∀ j, j < 2 ^ g → (secTicks j w).act = Five.zip (fun p q => p + BitVec.ofNat 32 j * q) w.act w.stp) ∧
    (∀ j, 2 ^ g ≤ j → (secTicks j w).act = w.tgt ∧ (secTicks j w).run = false)) ∧
  ∀ (r : Section) (u : Int),
    let q := secTick r
    let sat := fun (n : Nat) (x : Int) => max (-2 ^ (n - 1)) (min (2 ^ (n - 1) - 1) x)
    let mk := fun (k : W32) (z : Int) => (k.toInt * z + 2 ^ 29) / 2 ^ 30
    let mv := fun (v : W32) (z : Int) => sat 56 (v.toInt * z / 2 ^ (22 - q.vea.toNat))
    let f1 := sat 48 (u - mk q.act.k2 q.s1.toInt)
    let f0 := sat 48 (f1 - mk q.act.k1 q.s0.toInt)
    let g1 := sat 48 (mk q.act.k1 f0 + q.s0.toInt)
    let g2 := sat 48 (mk q.act.k2 f1 + q.s1.toInt)
    let acc := sat 56 (sat 56 (mv q.act.v0 f0 + mv q.act.v1 g1) + mv q.act.v2 g2)
    let o := secSample r false u
    o.1 = { q with s0 := BitVec.ofInt 48 f0, s1 := BitVec.ofInt 48 g1, sat := o.1.sat } ∧ o.2.1 = acc ∧
      o.2.2.1 = sat 48 ((acc + 0x80) / 2 ^ 8)
end

