-- ==== Sys2Proof/Laws/Bits.lean ====
section
/-! SUPPORT. Laws/Bits.lean: bit fields: what a field reads after one is set, and the bytes of a word. -/

namespace Sys2Proof.Machine

theorem bytes_word (w : W32) : le32 (byteOf w 0) (byteOf w 1) (byteOf w 2) (byteOf w 3) = w := by
  unfold le32 byteOf
  ext i hi
  simp only [BitVec.getElem_append, BitVec.getElem_extractLsb', Nat.mul_zero, Nat.mul_one]
  split
  · rw [← BitVec.getLsbD_eq_getElem]; congr 1; omega
  · split
    · rw [← BitVec.getLsbD_eq_getElem]; congr 1; omega
    · split
      · rw [← BitVec.getLsbD_eq_getElem]; congr 1; omega
      · rw [← BitVec.getLsbD_eq_getElem]; congr 1; omega

theorem bf_testBit {n : Nat} (w : BitVec n) (hi lo i : Nat) :
    (bf w hi lo).testBit i = (decide (i < hi + 1 - lo) && w.getLsbD (lo + i)) := by
  simp [bf, Nat.testBit_mod_two_pow, Nat.testBit_shiftRight, BitVec.getLsbD]

theorem setBf_getLsbD {n : Nat} (w : BitVec n) (hi lo v i : Nat) :
    (setBf w hi lo v).getLsbD i =
      if lo ≤ i ∧ i < hi + 1 ∧ i < n then v.testBit (i - lo) else w.getLsbD i := by
  unfold setBf
  by_cases hn : i < n
  · simp only [BitVec.getLsbD_or, BitVec.getLsbD_and, BitVec.getLsbD_not, BitVec.getLsbD_ofNat, hn, decide_true,
      Nat.testBit_shiftLeft, Nat.testBit_two_pow_sub_one, Bool.true_and]
    by_cases h1 : lo ≤ i
    · by_cases h2 : i < hi + 1
      · have h3 : i - lo < hi + 1 - lo := by omega
        simp [h1, h2, h3]
      · have h3 : ¬ i - lo < hi + 1 - lo := by omega
        simp [h1, h2, h3]
    · simp [h1]
  · have h1 := BitVec.getLsbD_of_ge w i (by omega)
    have h2 := BitVec.getLsbD_of_ge (BitVec.ofNat n (v <<< lo)) i (by omega)
    simp [hn, h1, h2]

/-- A field reads as it was set. -/
theorem bf_setBf_same {n : Nat} (w : BitVec n) (hi lo v : Nat) (h : hi < n) :
    bf (setBf w hi lo v) hi lo = v % 2 ^ (hi + 1 - lo) := by
  apply Nat.eq_of_testBit_eq
  intro i
  rw [bf_testBit, setBf_getLsbD, Nat.testBit_mod_two_pow]
  by_cases hi' : i < hi + 1 - lo
  · have : lo ≤ lo + i ∧ lo + i < hi + 1 ∧ lo + i < n := by omega
    simp [hi', this]
  · simp [hi']

/-- A field that does not meet the one set reads as before. -/
theorem bf_setBf_other {n : Nat} (w : BitVec n) (hi lo v h2 l2 : Nat) (h : h2 < lo ∨ hi < l2) :
    bf (setBf w hi lo v) h2 l2 = bf w h2 l2 := by
  apply Nat.eq_of_testBit_eq
  intro i
  rw [bf_testBit, bf_testBit, setBf_getLsbD]
  by_cases hi' : i < h2 + 1 - l2
  · have : ¬ (lo ≤ l2 + i ∧ l2 + i < hi + 1 ∧ l2 + i < n) := by omega
    rw [if_neg this]
  · simp [hi']

end Sys2Proof.Machine
end

