-- ==== Sys2Proof/Laws/State.lean ====
section
/-! SUPPORT. Laws/State.lean: what each basic update of the state leaves: one lemma for each update and each field that it does not
change. -/

namespace Sys2Proof.Machine

variable (s : State)

/-! setReg changes regs alone. -/

@[simp] theorem State.setReg_pending (a : Nat) (v : W32) : (s.setReg a v).pending = s.pending := rfl
@[simp] theorem State.setReg_free (a : Nat) (v : W32) : (s.setReg a v).free = s.free := rfl
@[simp] theorem State.setReg_own (a : Nat) (v : W32) : (s.setReg a v).own = s.own := rfl
@[simp] theorem State.setReg_mem (a : Nat) (v : W32) : (s.setReg a v).mem = s.mem := rfl
@[simp] theorem State.setReg_marks (a : Nat) (v : W32) : (s.setReg a v).marks = s.marks := rfl
@[simp] theorem State.setReg_msi (a : Nat) (v : W32) : (s.setReg a v).msi = s.msi := rfl
@[simp] theorem State.setReg_rate (a : Nat) (v : W32) : (s.setReg a v).rate = s.rate := rfl
@[simp] theorem State.setReg_rateChange (a : Nat) (v : W32) : (s.setReg a v).rateChange = s.rateChange := rfl
@[simp] theorem State.setReg_deck (a : Nat) (v : W32) : (s.setReg a v).deck = s.deck := rfl
@[simp] theorem State.setReg_tt (a : Nat) (v : W32) : (s.setReg a v).tt = s.tt := rfl
@[simp] theorem State.setReg_scenes (a : Nat) (v : W32) : (s.setReg a v).scenes = s.scenes := rfl
@[simp] theorem State.setReg_xm (a : Nat) (v : W32) : (s.setReg a v).xm = s.xm := rfl
@[simp] theorem State.setReg_pn (a : Nat) (v : W32) : (s.setReg a v).pn = s.pn := rfl
@[simp] theorem State.setReg_cores (a : Nat) (v : W32) : (s.setReg a v).cores = s.cores := rfl
@[simp] theorem State.setReg_ferry (a : Nat) (v : W32) : (s.setReg a v).ferry = s.ferry := rfl
@[simp] theorem State.setReg_queues (a : Nat) (v : W32) : (s.setReg a v).queues = s.queues := rfl
@[simp] theorem State.setReg_moors (a : Nat) (v : W32) : (s.setReg a v).moors = s.moors := rfl
@[simp] theorem State.setReg_pcie (a : Nat) (v : W32) : (s.setReg a v).pcie = s.pcie := rfl
@[simp] theorem State.setReg_side (a : Nat) (v : W32) : (s.setReg a v).side = s.side := rfl
@[simp] theorem State.setReg_ctl (a : Nat) (v : W32) : (s.setReg a v).ctl = s.ctl := rfl
@[simp] theorem State.setReg_sec (a : Nat) (v : W32) : (s.setReg a v).sec = s.sec := rfl
@[simp] theorem State.setReg_otp (a : Nat) (v : W32) : (s.setReg a v).otp = s.otp := rfl
@[simp] theorem State.setReg_net (a : Nat) (v : W32) : (s.setReg a v).net = s.net := rfl
@[simp] theorem State.setReg_time (a : Nat) (v : W32) : (s.setReg a v).time = s.time := rfl
@[simp] theorem State.setReg_ports (a : Nat) (v : W32) : (s.setReg a v).ports = s.ports := rfl
@[simp] theorem State.setReg_meters (a : Nat) (v : W32) : (s.setReg a v).meters = s.meters := rfl
@[simp] theorem State.setReg_clk (a : Nat) (v : W32) : (s.setReg a v).clk = s.clk := rfl
@[simp] theorem State.setReg_rsel (a : Nat) (v : W32) : (s.setReg a v).rsel = s.rsel := rfl
@[simp] theorem State.setReg_dram (a : Nat) (v : W32) : (s.setReg a v).dram = s.dram := rfl
@[simp] theorem State.setReg_pwr (a : Nat) (v : W32) : (s.setReg a v).pwr = s.pwr := rfl
@[simp] theorem State.setReg_tap (a : Nat) (v : W32) : (s.setReg a v).tap = s.tap := rfl
@[simp] theorem State.setReg_ecc (a : Nat) (v : W32) : (s.setReg a v).ecc = s.ecc := rfl

/-! setFld changes regs alone. -/

@[simp] theorem State.setFld_pending (f : Fld) (v : Nat) : (s.setFld f v).pending = s.pending := rfl
@[simp] theorem State.setFld_free (f : Fld) (v : Nat) : (s.setFld f v).free = s.free := rfl
@[simp] theorem State.setFld_own (f : Fld) (v : Nat) : (s.setFld f v).own = s.own := rfl
@[simp] theorem State.setFld_mem (f : Fld) (v : Nat) : (s.setFld f v).mem = s.mem := rfl
@[simp] theorem State.setFld_marks (f : Fld) (v : Nat) : (s.setFld f v).marks = s.marks := rfl
@[simp] theorem State.setFld_msi (f : Fld) (v : Nat) : (s.setFld f v).msi = s.msi := rfl
@[simp] theorem State.setFld_rate (f : Fld) (v : Nat) : (s.setFld f v).rate = s.rate := rfl
@[simp] theorem State.setFld_rateChange (f : Fld) (v : Nat) : (s.setFld f v).rateChange = s.rateChange := rfl
@[simp] theorem State.setFld_deck (f : Fld) (v : Nat) : (s.setFld f v).deck = s.deck := rfl
@[simp] theorem State.setFld_tt (f : Fld) (v : Nat) : (s.setFld f v).tt = s.tt := rfl
@[simp] theorem State.setFld_scenes (f : Fld) (v : Nat) : (s.setFld f v).scenes = s.scenes := rfl
@[simp] theorem State.setFld_xm (f : Fld) (v : Nat) : (s.setFld f v).xm = s.xm := rfl
@[simp] theorem State.setFld_pn (f : Fld) (v : Nat) : (s.setFld f v).pn = s.pn := rfl
@[simp] theorem State.setFld_cores (f : Fld) (v : Nat) : (s.setFld f v).cores = s.cores := rfl
@[simp] theorem State.setFld_ferry (f : Fld) (v : Nat) : (s.setFld f v).ferry = s.ferry := rfl
@[simp] theorem State.setFld_queues (f : Fld) (v : Nat) : (s.setFld f v).queues = s.queues := rfl
@[simp] theorem State.setFld_moors (f : Fld) (v : Nat) : (s.setFld f v).moors = s.moors := rfl
@[simp] theorem State.setFld_pcie (f : Fld) (v : Nat) : (s.setFld f v).pcie = s.pcie := rfl
@[simp] theorem State.setFld_side (f : Fld) (v : Nat) : (s.setFld f v).side = s.side := rfl
@[simp] theorem State.setFld_ctl (f : Fld) (v : Nat) : (s.setFld f v).ctl = s.ctl := rfl
@[simp] theorem State.setFld_sec (f : Fld) (v : Nat) : (s.setFld f v).sec = s.sec := rfl
@[simp] theorem State.setFld_otp (f : Fld) (v : Nat) : (s.setFld f v).otp = s.otp := rfl
@[simp] theorem State.setFld_net (f : Fld) (v : Nat) : (s.setFld f v).net = s.net := rfl
@[simp] theorem State.setFld_time (f : Fld) (v : Nat) : (s.setFld f v).time = s.time := rfl
@[simp] theorem State.setFld_ports (f : Fld) (v : Nat) : (s.setFld f v).ports = s.ports := rfl
@[simp] theorem State.setFld_meters (f : Fld) (v : Nat) : (s.setFld f v).meters = s.meters := rfl
@[simp] theorem State.setFld_clk (f : Fld) (v : Nat) : (s.setFld f v).clk = s.clk := rfl
@[simp] theorem State.setFld_rsel (f : Fld) (v : Nat) : (s.setFld f v).rsel = s.rsel := rfl
@[simp] theorem State.setFld_dram (f : Fld) (v : Nat) : (s.setFld f v).dram = s.dram := rfl
@[simp] theorem State.setFld_pwr (f : Fld) (v : Nat) : (s.setFld f v).pwr = s.pwr := rfl
@[simp] theorem State.setFld_tap (f : Fld) (v : Nat) : (s.setFld f v).tap = s.tap := rfl
@[simp] theorem State.setFld_ecc (f : Fld) (v : Nat) : (s.setFld f v).ecc = s.ecc := rfl

/-! bump changes regs alone. -/

@[simp] theorem State.bump_pending (f : Fld) : (s.bump f).pending = s.pending := rfl
@[simp] theorem State.bump_free (f : Fld) : (s.bump f).free = s.free := rfl
@[simp] theorem State.bump_own (f : Fld) : (s.bump f).own = s.own := rfl
@[simp] theorem State.bump_mem (f : Fld) : (s.bump f).mem = s.mem := rfl
@[simp] theorem State.bump_marks (f : Fld) : (s.bump f).marks = s.marks := rfl
@[simp] theorem State.bump_msi (f : Fld) : (s.bump f).msi = s.msi := rfl
@[simp] theorem State.bump_rate (f : Fld) : (s.bump f).rate = s.rate := rfl
@[simp] theorem State.bump_rateChange (f : Fld) : (s.bump f).rateChange = s.rateChange := rfl
@[simp] theorem State.bump_deck (f : Fld) : (s.bump f).deck = s.deck := rfl
@[simp] theorem State.bump_tt (f : Fld) : (s.bump f).tt = s.tt := rfl
@[simp] theorem State.bump_scenes (f : Fld) : (s.bump f).scenes = s.scenes := rfl
@[simp] theorem State.bump_xm (f : Fld) : (s.bump f).xm = s.xm := rfl
@[simp] theorem State.bump_pn (f : Fld) : (s.bump f).pn = s.pn := rfl
@[simp] theorem State.bump_cores (f : Fld) : (s.bump f).cores = s.cores := rfl
@[simp] theorem State.bump_ferry (f : Fld) : (s.bump f).ferry = s.ferry := rfl
@[simp] theorem State.bump_queues (f : Fld) : (s.bump f).queues = s.queues := rfl
@[simp] theorem State.bump_moors (f : Fld) : (s.bump f).moors = s.moors := rfl
@[simp] theorem State.bump_pcie (f : Fld) : (s.bump f).pcie = s.pcie := rfl
@[simp] theorem State.bump_side (f : Fld) : (s.bump f).side = s.side := rfl
@[simp] theorem State.bump_ctl (f : Fld) : (s.bump f).ctl = s.ctl := rfl
@[simp] theorem State.bump_sec (f : Fld) : (s.bump f).sec = s.sec := rfl
@[simp] theorem State.bump_otp (f : Fld) : (s.bump f).otp = s.otp := rfl
@[simp] theorem State.bump_net (f : Fld) : (s.bump f).net = s.net := rfl
@[simp] theorem State.bump_time (f : Fld) : (s.bump f).time = s.time := rfl
@[simp] theorem State.bump_ports (f : Fld) : (s.bump f).ports = s.ports := rfl
@[simp] theorem State.bump_meters (f : Fld) : (s.bump f).meters = s.meters := rfl
@[simp] theorem State.bump_clk (f : Fld) : (s.bump f).clk = s.clk := rfl
@[simp] theorem State.bump_rsel (f : Fld) : (s.bump f).rsel = s.rsel := rfl
@[simp] theorem State.bump_dram (f : Fld) : (s.bump f).dram = s.dram := rfl
@[simp] theorem State.bump_pwr (f : Fld) : (s.bump f).pwr = s.pwr := rfl
@[simp] theorem State.bump_tap (f : Fld) : (s.bump f).tap = s.tap := rfl
@[simp] theorem State.bump_ecc (f : Fld) : (s.bump f).ecc = s.ecc := rfl

/-! bumpBy changes regs alone. -/

@[simp] theorem State.bumpBy_pending (f : Fld) (n : Nat) : (s.bumpBy f n).pending = s.pending := rfl
@[simp] theorem State.bumpBy_free (f : Fld) (n : Nat) : (s.bumpBy f n).free = s.free := rfl
@[simp] theorem State.bumpBy_own (f : Fld) (n : Nat) : (s.bumpBy f n).own = s.own := rfl
@[simp] theorem State.bumpBy_mem (f : Fld) (n : Nat) : (s.bumpBy f n).mem = s.mem := rfl
@[simp] theorem State.bumpBy_marks (f : Fld) (n : Nat) : (s.bumpBy f n).marks = s.marks := rfl
@[simp] theorem State.bumpBy_msi (f : Fld) (n : Nat) : (s.bumpBy f n).msi = s.msi := rfl
@[simp] theorem State.bumpBy_rate (f : Fld) (n : Nat) : (s.bumpBy f n).rate = s.rate := rfl
@[simp] theorem State.bumpBy_rateChange (f : Fld) (n : Nat) : (s.bumpBy f n).rateChange = s.rateChange := rfl
@[simp] theorem State.bumpBy_deck (f : Fld) (n : Nat) : (s.bumpBy f n).deck = s.deck := rfl
@[simp] theorem State.bumpBy_tt (f : Fld) (n : Nat) : (s.bumpBy f n).tt = s.tt := rfl
@[simp] theorem State.bumpBy_scenes (f : Fld) (n : Nat) : (s.bumpBy f n).scenes = s.scenes := rfl
@[simp] theorem State.bumpBy_xm (f : Fld) (n : Nat) : (s.bumpBy f n).xm = s.xm := rfl
@[simp] theorem State.bumpBy_pn (f : Fld) (n : Nat) : (s.bumpBy f n).pn = s.pn := rfl
@[simp] theorem State.bumpBy_cores (f : Fld) (n : Nat) : (s.bumpBy f n).cores = s.cores := rfl
@[simp] theorem State.bumpBy_ferry (f : Fld) (n : Nat) : (s.bumpBy f n).ferry = s.ferry := rfl
@[simp] theorem State.bumpBy_queues (f : Fld) (n : Nat) : (s.bumpBy f n).queues = s.queues := rfl
@[simp] theorem State.bumpBy_moors (f : Fld) (n : Nat) : (s.bumpBy f n).moors = s.moors := rfl
@[simp] theorem State.bumpBy_pcie (f : Fld) (n : Nat) : (s.bumpBy f n).pcie = s.pcie := rfl
@[simp] theorem State.bumpBy_side (f : Fld) (n : Nat) : (s.bumpBy f n).side = s.side := rfl
@[simp] theorem State.bumpBy_ctl (f : Fld) (n : Nat) : (s.bumpBy f n).ctl = s.ctl := rfl
@[simp] theorem State.bumpBy_sec (f : Fld) (n : Nat) : (s.bumpBy f n).sec = s.sec := rfl
@[simp] theorem State.bumpBy_otp (f : Fld) (n : Nat) : (s.bumpBy f n).otp = s.otp := rfl
@[simp] theorem State.bumpBy_net (f : Fld) (n : Nat) : (s.bumpBy f n).net = s.net := rfl
@[simp] theorem State.bumpBy_time (f : Fld) (n : Nat) : (s.bumpBy f n).time = s.time := rfl
@[simp] theorem State.bumpBy_ports (f : Fld) (n : Nat) : (s.bumpBy f n).ports = s.ports := rfl
@[simp] theorem State.bumpBy_meters (f : Fld) (n : Nat) : (s.bumpBy f n).meters = s.meters := rfl
@[simp] theorem State.bumpBy_clk (f : Fld) (n : Nat) : (s.bumpBy f n).clk = s.clk := rfl
@[simp] theorem State.bumpBy_rsel (f : Fld) (n : Nat) : (s.bumpBy f n).rsel = s.rsel := rfl
@[simp] theorem State.bumpBy_dram (f : Fld) (n : Nat) : (s.bumpBy f n).dram = s.dram := rfl
@[simp] theorem State.bumpBy_pwr (f : Fld) (n : Nat) : (s.bumpBy f n).pwr = s.pwr := rfl
@[simp] theorem State.bumpBy_tap (f : Fld) (n : Nat) : (s.bumpBy f n).tap = s.tap := rfl
@[simp] theorem State.bumpBy_ecc (f : Fld) (n : Nat) : (s.bumpBy f n).ecc = s.ecc := rfl

/-! resetRegs changes regs alone. -/

@[simp] theorem State.resetRegs_pending (a n : Nat) : (s.resetRegs a n).pending = s.pending := rfl
@[simp] theorem State.resetRegs_free (a n : Nat) : (s.resetRegs a n).free = s.free := rfl
@[simp] theorem State.resetRegs_own (a n : Nat) : (s.resetRegs a n).own = s.own := rfl
@[simp] theorem State.resetRegs_mem (a n : Nat) : (s.resetRegs a n).mem = s.mem := rfl
@[simp] theorem State.resetRegs_marks (a n : Nat) : (s.resetRegs a n).marks = s.marks := rfl
@[simp] theorem State.resetRegs_msi (a n : Nat) : (s.resetRegs a n).msi = s.msi := rfl
@[simp] theorem State.resetRegs_rate (a n : Nat) : (s.resetRegs a n).rate = s.rate := rfl
@[simp] theorem State.resetRegs_rateChange (a n : Nat) : (s.resetRegs a n).rateChange = s.rateChange := rfl
@[simp] theorem State.resetRegs_deck (a n : Nat) : (s.resetRegs a n).deck = s.deck := rfl
@[simp] theorem State.resetRegs_tt (a n : Nat) : (s.resetRegs a n).tt = s.tt := rfl
@[simp] theorem State.resetRegs_scenes (a n : Nat) : (s.resetRegs a n).scenes = s.scenes := rfl
@[simp] theorem State.resetRegs_xm (a n : Nat) : (s.resetRegs a n).xm = s.xm := rfl
@[simp] theorem State.resetRegs_pn (a n : Nat) : (s.resetRegs a n).pn = s.pn := rfl
@[simp] theorem State.resetRegs_cores (a n : Nat) : (s.resetRegs a n).cores = s.cores := rfl
@[simp] theorem State.resetRegs_ferry (a n : Nat) : (s.resetRegs a n).ferry = s.ferry := rfl
@[simp] theorem State.resetRegs_queues (a n : Nat) : (s.resetRegs a n).queues = s.queues := rfl
@[simp] theorem State.resetRegs_moors (a n : Nat) : (s.resetRegs a n).moors = s.moors := rfl
@[simp] theorem State.resetRegs_pcie (a n : Nat) : (s.resetRegs a n).pcie = s.pcie := rfl
@[simp] theorem State.resetRegs_side (a n : Nat) : (s.resetRegs a n).side = s.side := rfl
@[simp] theorem State.resetRegs_ctl (a n : Nat) : (s.resetRegs a n).ctl = s.ctl := rfl
@[simp] theorem State.resetRegs_sec (a n : Nat) : (s.resetRegs a n).sec = s.sec := rfl
@[simp] theorem State.resetRegs_otp (a n : Nat) : (s.resetRegs a n).otp = s.otp := rfl
@[simp] theorem State.resetRegs_net (a n : Nat) : (s.resetRegs a n).net = s.net := rfl
@[simp] theorem State.resetRegs_time (a n : Nat) : (s.resetRegs a n).time = s.time := rfl
@[simp] theorem State.resetRegs_ports (a n : Nat) : (s.resetRegs a n).ports = s.ports := rfl
@[simp] theorem State.resetRegs_meters (a n : Nat) : (s.resetRegs a n).meters = s.meters := rfl
@[simp] theorem State.resetRegs_clk (a n : Nat) : (s.resetRegs a n).clk = s.clk := rfl
@[simp] theorem State.resetRegs_rsel (a n : Nat) : (s.resetRegs a n).rsel = s.rsel := rfl
@[simp] theorem State.resetRegs_dram (a n : Nat) : (s.resetRegs a n).dram = s.dram := rfl
@[simp] theorem State.resetRegs_pwr (a n : Nat) : (s.resetRegs a n).pwr = s.pwr := rfl
@[simp] theorem State.resetRegs_tap (a n : Nat) : (s.resetRegs a n).tap = s.tap := rfl
@[simp] theorem State.resetRegs_ecc (a n : Nat) : (s.resetRegs a n).ecc = s.ecc := rfl

/-! setByte changes mem alone. -/

@[simp] theorem State.setByte_pending (a : Nat) (b : Byte) : (s.setByte a b).pending = s.pending := rfl
@[simp] theorem State.setByte_free (a : Nat) (b : Byte) : (s.setByte a b).free = s.free := rfl
@[simp] theorem State.setByte_regs (a : Nat) (b : Byte) : (s.setByte a b).regs = s.regs := rfl
@[simp] theorem State.setByte_own (a : Nat) (b : Byte) : (s.setByte a b).own = s.own := rfl
@[simp] theorem State.setByte_marks (a : Nat) (b : Byte) : (s.setByte a b).marks = s.marks := rfl
@[simp] theorem State.setByte_msi (a : Nat) (b : Byte) : (s.setByte a b).msi = s.msi := rfl
@[simp] theorem State.setByte_rate (a : Nat) (b : Byte) : (s.setByte a b).rate = s.rate := rfl
@[simp] theorem State.setByte_rateChange (a : Nat) (b : Byte) : (s.setByte a b).rateChange = s.rateChange := rfl
@[simp] theorem State.setByte_deck (a : Nat) (b : Byte) : (s.setByte a b).deck = s.deck := rfl
@[simp] theorem State.setByte_tt (a : Nat) (b : Byte) : (s.setByte a b).tt = s.tt := rfl
@[simp] theorem State.setByte_scenes (a : Nat) (b : Byte) : (s.setByte a b).scenes = s.scenes := rfl
@[simp] theorem State.setByte_xm (a : Nat) (b : Byte) : (s.setByte a b).xm = s.xm := rfl
@[simp] theorem State.setByte_pn (a : Nat) (b : Byte) : (s.setByte a b).pn = s.pn := rfl
@[simp] theorem State.setByte_cores (a : Nat) (b : Byte) : (s.setByte a b).cores = s.cores := rfl
@[simp] theorem State.setByte_ferry (a : Nat) (b : Byte) : (s.setByte a b).ferry = s.ferry := rfl
@[simp] theorem State.setByte_queues (a : Nat) (b : Byte) : (s.setByte a b).queues = s.queues := rfl
@[simp] theorem State.setByte_moors (a : Nat) (b : Byte) : (s.setByte a b).moors = s.moors := rfl
@[simp] theorem State.setByte_pcie (a : Nat) (b : Byte) : (s.setByte a b).pcie = s.pcie := rfl
@[simp] theorem State.setByte_side (a : Nat) (b : Byte) : (s.setByte a b).side = s.side := rfl
@[simp] theorem State.setByte_ctl (a : Nat) (b : Byte) : (s.setByte a b).ctl = s.ctl := rfl
@[simp] theorem State.setByte_sec (a : Nat) (b : Byte) : (s.setByte a b).sec = s.sec := rfl
@[simp] theorem State.setByte_otp (a : Nat) (b : Byte) : (s.setByte a b).otp = s.otp := rfl
@[simp] theorem State.setByte_net (a : Nat) (b : Byte) : (s.setByte a b).net = s.net := rfl
@[simp] theorem State.setByte_time (a : Nat) (b : Byte) : (s.setByte a b).time = s.time := rfl
@[simp] theorem State.setByte_ports (a : Nat) (b : Byte) : (s.setByte a b).ports = s.ports := rfl
@[simp] theorem State.setByte_meters (a : Nat) (b : Byte) : (s.setByte a b).meters = s.meters := rfl
@[simp] theorem State.setByte_clk (a : Nat) (b : Byte) : (s.setByte a b).clk = s.clk := rfl
@[simp] theorem State.setByte_rsel (a : Nat) (b : Byte) : (s.setByte a b).rsel = s.rsel := rfl
@[simp] theorem State.setByte_dram (a : Nat) (b : Byte) : (s.setByte a b).dram = s.dram := rfl
@[simp] theorem State.setByte_pwr (a : Nat) (b : Byte) : (s.setByte a b).pwr = s.pwr := rfl
@[simp] theorem State.setByte_tap (a : Nat) (b : Byte) : (s.setByte a b).tap = s.tap := rfl
@[simp] theorem State.setByte_ecc (a : Nat) (b : Byte) : (s.setByte a b).ecc = s.ecc := rfl

/-! setQueue changes queues alone. -/

@[simp] theorem State.setQueue_pending (m c : Nat) (q : LandQ) : (s.setQueue m c q).pending = s.pending := rfl
@[simp] theorem State.setQueue_free (m c : Nat) (q : LandQ) : (s.setQueue m c q).free = s.free := rfl
@[simp] theorem State.setQueue_regs (m c : Nat) (q : LandQ) : (s.setQueue m c q).regs = s.regs := rfl
@[simp] theorem State.setQueue_own (m c : Nat) (q : LandQ) : (s.setQueue m c q).own = s.own := rfl
@[simp] theorem State.setQueue_mem (m c : Nat) (q : LandQ) : (s.setQueue m c q).mem = s.mem := rfl
@[simp] theorem State.setQueue_marks (m c : Nat) (q : LandQ) : (s.setQueue m c q).marks = s.marks := rfl
@[simp] theorem State.setQueue_msi (m c : Nat) (q : LandQ) : (s.setQueue m c q).msi = s.msi := rfl
@[simp] theorem State.setQueue_rate (m c : Nat) (q : LandQ) : (s.setQueue m c q).rate = s.rate := rfl
@[simp] theorem State.setQueue_rateChange (m c : Nat) (q : LandQ) : (s.setQueue m c q).rateChange = s.rateChange := rfl
@[simp] theorem State.setQueue_deck (m c : Nat) (q : LandQ) : (s.setQueue m c q).deck = s.deck := rfl
@[simp] theorem State.setQueue_tt (m c : Nat) (q : LandQ) : (s.setQueue m c q).tt = s.tt := rfl
@[simp] theorem State.setQueue_scenes (m c : Nat) (q : LandQ) : (s.setQueue m c q).scenes = s.scenes := rfl
@[simp] theorem State.setQueue_xm (m c : Nat) (q : LandQ) : (s.setQueue m c q).xm = s.xm := rfl
@[simp] theorem State.setQueue_pn (m c : Nat) (q : LandQ) : (s.setQueue m c q).pn = s.pn := rfl
@[simp] theorem State.setQueue_cores (m c : Nat) (q : LandQ) : (s.setQueue m c q).cores = s.cores := rfl
@[simp] theorem State.setQueue_ferry (m c : Nat) (q : LandQ) : (s.setQueue m c q).ferry = s.ferry := rfl
@[simp] theorem State.setQueue_moors (m c : Nat) (q : LandQ) : (s.setQueue m c q).moors = s.moors := rfl
@[simp] theorem State.setQueue_pcie (m c : Nat) (q : LandQ) : (s.setQueue m c q).pcie = s.pcie := rfl
@[simp] theorem State.setQueue_side (m c : Nat) (q : LandQ) : (s.setQueue m c q).side = s.side := rfl
@[simp] theorem State.setQueue_ctl (m c : Nat) (q : LandQ) : (s.setQueue m c q).ctl = s.ctl := rfl
@[simp] theorem State.setQueue_sec (m c : Nat) (q : LandQ) : (s.setQueue m c q).sec = s.sec := rfl
@[simp] theorem State.setQueue_otp (m c : Nat) (q : LandQ) : (s.setQueue m c q).otp = s.otp := rfl
@[simp] theorem State.setQueue_net (m c : Nat) (q : LandQ) : (s.setQueue m c q).net = s.net := rfl
@[simp] theorem State.setQueue_time (m c : Nat) (q : LandQ) : (s.setQueue m c q).time = s.time := rfl
@[simp] theorem State.setQueue_ports (m c : Nat) (q : LandQ) : (s.setQueue m c q).ports = s.ports := rfl
@[simp] theorem State.setQueue_meters (m c : Nat) (q : LandQ) : (s.setQueue m c q).meters = s.meters := rfl
@[simp] theorem State.setQueue_clk (m c : Nat) (q : LandQ) : (s.setQueue m c q).clk = s.clk := rfl
@[simp] theorem State.setQueue_rsel (m c : Nat) (q : LandQ) : (s.setQueue m c q).rsel = s.rsel := rfl
@[simp] theorem State.setQueue_dram (m c : Nat) (q : LandQ) : (s.setQueue m c q).dram = s.dram := rfl
@[simp] theorem State.setQueue_pwr (m c : Nat) (q : LandQ) : (s.setQueue m c q).pwr = s.pwr := rfl
@[simp] theorem State.setQueue_tap (m c : Nat) (q : LandQ) : (s.setQueue m c q).tap = s.tap := rfl
@[simp] theorem State.setQueue_ecc (m c : Nat) (q : LandQ) : (s.setQueue m c q).ecc = s.ecc := rfl

/-! alertBit changes side alone. -/

@[simp] theorem State.alertBit_pending (i : Nat) : (s.alertBit i).pending = s.pending := rfl
@[simp] theorem State.alertBit_free (i : Nat) : (s.alertBit i).free = s.free := rfl
@[simp] theorem State.alertBit_regs (i : Nat) : (s.alertBit i).regs = s.regs := rfl
@[simp] theorem State.alertBit_own (i : Nat) : (s.alertBit i).own = s.own := rfl
@[simp] theorem State.alertBit_mem (i : Nat) : (s.alertBit i).mem = s.mem := rfl
@[simp] theorem State.alertBit_marks (i : Nat) : (s.alertBit i).marks = s.marks := rfl
@[simp] theorem State.alertBit_msi (i : Nat) : (s.alertBit i).msi = s.msi := rfl
@[simp] theorem State.alertBit_rate (i : Nat) : (s.alertBit i).rate = s.rate := rfl
@[simp] theorem State.alertBit_rateChange (i : Nat) : (s.alertBit i).rateChange = s.rateChange := rfl
@[simp] theorem State.alertBit_deck (i : Nat) : (s.alertBit i).deck = s.deck := rfl
@[simp] theorem State.alertBit_tt (i : Nat) : (s.alertBit i).tt = s.tt := rfl
@[simp] theorem State.alertBit_scenes (i : Nat) : (s.alertBit i).scenes = s.scenes := rfl
@[simp] theorem State.alertBit_xm (i : Nat) : (s.alertBit i).xm = s.xm := rfl
@[simp] theorem State.alertBit_pn (i : Nat) : (s.alertBit i).pn = s.pn := rfl
@[simp] theorem State.alertBit_cores (i : Nat) : (s.alertBit i).cores = s.cores := rfl
@[simp] theorem State.alertBit_ferry (i : Nat) : (s.alertBit i).ferry = s.ferry := rfl
@[simp] theorem State.alertBit_queues (i : Nat) : (s.alertBit i).queues = s.queues := rfl
@[simp] theorem State.alertBit_moors (i : Nat) : (s.alertBit i).moors = s.moors := rfl
@[simp] theorem State.alertBit_pcie (i : Nat) : (s.alertBit i).pcie = s.pcie := rfl
@[simp] theorem State.alertBit_ctl (i : Nat) : (s.alertBit i).ctl = s.ctl := rfl
@[simp] theorem State.alertBit_sec (i : Nat) : (s.alertBit i).sec = s.sec := rfl
@[simp] theorem State.alertBit_otp (i : Nat) : (s.alertBit i).otp = s.otp := rfl
@[simp] theorem State.alertBit_net (i : Nat) : (s.alertBit i).net = s.net := rfl
@[simp] theorem State.alertBit_time (i : Nat) : (s.alertBit i).time = s.time := rfl
@[simp] theorem State.alertBit_ports (i : Nat) : (s.alertBit i).ports = s.ports := rfl
@[simp] theorem State.alertBit_meters (i : Nat) : (s.alertBit i).meters = s.meters := rfl
@[simp] theorem State.alertBit_clk (i : Nat) : (s.alertBit i).clk = s.clk := rfl
@[simp] theorem State.alertBit_rsel (i : Nat) : (s.alertBit i).rsel = s.rsel := rfl
@[simp] theorem State.alertBit_dram (i : Nat) : (s.alertBit i).dram = s.dram := rfl
@[simp] theorem State.alertBit_pwr (i : Nat) : (s.alertBit i).pwr = s.pwr := rfl
@[simp] theorem State.alertBit_tap (i : Nat) : (s.alertBit i).tap = s.tap := rfl
@[simp] theorem State.alertBit_ecc (i : Nat) : (s.alertBit i).ecc = s.ecc := rfl

/-! addWait changes ctl alone. -/

@[simp] theorem State.addWait_pending (n : Nat) (w : Wait) : (s.addWait n w).pending = s.pending := rfl
@[simp] theorem State.addWait_free (n : Nat) (w : Wait) : (s.addWait n w).free = s.free := rfl
@[simp] theorem State.addWait_regs (n : Nat) (w : Wait) : (s.addWait n w).regs = s.regs := rfl
@[simp] theorem State.addWait_own (n : Nat) (w : Wait) : (s.addWait n w).own = s.own := rfl
@[simp] theorem State.addWait_mem (n : Nat) (w : Wait) : (s.addWait n w).mem = s.mem := rfl
@[simp] theorem State.addWait_marks (n : Nat) (w : Wait) : (s.addWait n w).marks = s.marks := rfl
@[simp] theorem State.addWait_msi (n : Nat) (w : Wait) : (s.addWait n w).msi = s.msi := rfl
@[simp] theorem State.addWait_rate (n : Nat) (w : Wait) : (s.addWait n w).rate = s.rate := rfl
@[simp] theorem State.addWait_rateChange (n : Nat) (w : Wait) : (s.addWait n w).rateChange = s.rateChange := rfl
@[simp] theorem State.addWait_deck (n : Nat) (w : Wait) : (s.addWait n w).deck = s.deck := rfl
@[simp] theorem State.addWait_tt (n : Nat) (w : Wait) : (s.addWait n w).tt = s.tt := rfl
@[simp] theorem State.addWait_scenes (n : Nat) (w : Wait) : (s.addWait n w).scenes = s.scenes := rfl
@[simp] theorem State.addWait_xm (n : Nat) (w : Wait) : (s.addWait n w).xm = s.xm := rfl
@[simp] theorem State.addWait_pn (n : Nat) (w : Wait) : (s.addWait n w).pn = s.pn := rfl
@[simp] theorem State.addWait_cores (n : Nat) (w : Wait) : (s.addWait n w).cores = s.cores := rfl
@[simp] theorem State.addWait_ferry (n : Nat) (w : Wait) : (s.addWait n w).ferry = s.ferry := rfl
@[simp] theorem State.addWait_queues (n : Nat) (w : Wait) : (s.addWait n w).queues = s.queues := rfl
@[simp] theorem State.addWait_moors (n : Nat) (w : Wait) : (s.addWait n w).moors = s.moors := rfl
@[simp] theorem State.addWait_pcie (n : Nat) (w : Wait) : (s.addWait n w).pcie = s.pcie := rfl
@[simp] theorem State.addWait_side (n : Nat) (w : Wait) : (s.addWait n w).side = s.side := rfl
@[simp] theorem State.addWait_sec (n : Nat) (w : Wait) : (s.addWait n w).sec = s.sec := rfl
@[simp] theorem State.addWait_otp (n : Nat) (w : Wait) : (s.addWait n w).otp = s.otp := rfl
@[simp] theorem State.addWait_net (n : Nat) (w : Wait) : (s.addWait n w).net = s.net := rfl
@[simp] theorem State.addWait_time (n : Nat) (w : Wait) : (s.addWait n w).time = s.time := rfl
@[simp] theorem State.addWait_ports (n : Nat) (w : Wait) : (s.addWait n w).ports = s.ports := rfl
@[simp] theorem State.addWait_meters (n : Nat) (w : Wait) : (s.addWait n w).meters = s.meters := rfl
@[simp] theorem State.addWait_clk (n : Nat) (w : Wait) : (s.addWait n w).clk = s.clk := rfl
@[simp] theorem State.addWait_rsel (n : Nat) (w : Wait) : (s.addWait n w).rsel = s.rsel := rfl
@[simp] theorem State.addWait_dram (n : Nat) (w : Wait) : (s.addWait n w).dram = s.dram := rfl
@[simp] theorem State.addWait_pwr (n : Nat) (w : Wait) : (s.addWait n w).pwr = s.pwr := rfl
@[simp] theorem State.addWait_tap (n : Nat) (w : Wait) : (s.addWait n w).tap = s.tap := rfl
@[simp] theorem State.addWait_ecc (n : Nat) (w : Wait) : (s.addWait n w).ecc = s.ecc := rfl

/-! defer changes ctl alone. -/

@[simp] theorem State.defer_pending (n : Nat) (e : Eff) : (s.defer n e).pending = s.pending := rfl
@[simp] theorem State.defer_free (n : Nat) (e : Eff) : (s.defer n e).free = s.free := rfl
@[simp] theorem State.defer_regs (n : Nat) (e : Eff) : (s.defer n e).regs = s.regs := rfl
@[simp] theorem State.defer_own (n : Nat) (e : Eff) : (s.defer n e).own = s.own := rfl
@[simp] theorem State.defer_mem (n : Nat) (e : Eff) : (s.defer n e).mem = s.mem := rfl
@[simp] theorem State.defer_marks (n : Nat) (e : Eff) : (s.defer n e).marks = s.marks := rfl
@[simp] theorem State.defer_msi (n : Nat) (e : Eff) : (s.defer n e).msi = s.msi := rfl
@[simp] theorem State.defer_rate (n : Nat) (e : Eff) : (s.defer n e).rate = s.rate := rfl
@[simp] theorem State.defer_rateChange (n : Nat) (e : Eff) : (s.defer n e).rateChange = s.rateChange := rfl
@[simp] theorem State.defer_deck (n : Nat) (e : Eff) : (s.defer n e).deck = s.deck := rfl
@[simp] theorem State.defer_tt (n : Nat) (e : Eff) : (s.defer n e).tt = s.tt := rfl
@[simp] theorem State.defer_scenes (n : Nat) (e : Eff) : (s.defer n e).scenes = s.scenes := rfl
@[simp] theorem State.defer_xm (n : Nat) (e : Eff) : (s.defer n e).xm = s.xm := rfl
@[simp] theorem State.defer_pn (n : Nat) (e : Eff) : (s.defer n e).pn = s.pn := rfl
@[simp] theorem State.defer_cores (n : Nat) (e : Eff) : (s.defer n e).cores = s.cores := rfl
@[simp] theorem State.defer_ferry (n : Nat) (e : Eff) : (s.defer n e).ferry = s.ferry := rfl
@[simp] theorem State.defer_queues (n : Nat) (e : Eff) : (s.defer n e).queues = s.queues := rfl
@[simp] theorem State.defer_moors (n : Nat) (e : Eff) : (s.defer n e).moors = s.moors := rfl
@[simp] theorem State.defer_pcie (n : Nat) (e : Eff) : (s.defer n e).pcie = s.pcie := rfl
@[simp] theorem State.defer_side (n : Nat) (e : Eff) : (s.defer n e).side = s.side := rfl
@[simp] theorem State.defer_sec (n : Nat) (e : Eff) : (s.defer n e).sec = s.sec := rfl
@[simp] theorem State.defer_otp (n : Nat) (e : Eff) : (s.defer n e).otp = s.otp := rfl
@[simp] theorem State.defer_net (n : Nat) (e : Eff) : (s.defer n e).net = s.net := rfl
@[simp] theorem State.defer_time (n : Nat) (e : Eff) : (s.defer n e).time = s.time := rfl
@[simp] theorem State.defer_ports (n : Nat) (e : Eff) : (s.defer n e).ports = s.ports := rfl
@[simp] theorem State.defer_meters (n : Nat) (e : Eff) : (s.defer n e).meters = s.meters := rfl
@[simp] theorem State.defer_clk (n : Nat) (e : Eff) : (s.defer n e).clk = s.clk := rfl
@[simp] theorem State.defer_rsel (n : Nat) (e : Eff) : (s.defer n e).rsel = s.rsel := rfl
@[simp] theorem State.defer_dram (n : Nat) (e : Eff) : (s.defer n e).dram = s.dram := rfl
@[simp] theorem State.defer_pwr (n : Nat) (e : Eff) : (s.defer n e).pwr = s.pwr := rfl
@[simp] theorem State.defer_tap (n : Nat) (e : Eff) : (s.defer n e).tap = s.tap := rfl
@[simp] theorem State.defer_ecc (n : Nat) (e : Eff) : (s.defer n e).ecc = s.ecc := rfl

/-! setCore changes cores alone. -/

@[simp] theorem State.setCore_pending (c : Nat) (k : Core) : (s.setCore c k).pending = s.pending := rfl
@[simp] theorem State.setCore_free (c : Nat) (k : Core) : (s.setCore c k).free = s.free := rfl
@[simp] theorem State.setCore_regs (c : Nat) (k : Core) : (s.setCore c k).regs = s.regs := rfl
@[simp] theorem State.setCore_own (c : Nat) (k : Core) : (s.setCore c k).own = s.own := rfl
@[simp] theorem State.setCore_mem (c : Nat) (k : Core) : (s.setCore c k).mem = s.mem := rfl
@[simp] theorem State.setCore_marks (c : Nat) (k : Core) : (s.setCore c k).marks = s.marks := rfl
@[simp] theorem State.setCore_msi (c : Nat) (k : Core) : (s.setCore c k).msi = s.msi := rfl
@[simp] theorem State.setCore_rate (c : Nat) (k : Core) : (s.setCore c k).rate = s.rate := rfl
@[simp] theorem State.setCore_rateChange (c : Nat) (k : Core) : (s.setCore c k).rateChange = s.rateChange := rfl
@[simp] theorem State.setCore_deck (c : Nat) (k : Core) : (s.setCore c k).deck = s.deck := rfl
@[simp] theorem State.setCore_tt (c : Nat) (k : Core) : (s.setCore c k).tt = s.tt := rfl
@[simp] theorem State.setCore_scenes (c : Nat) (k : Core) : (s.setCore c k).scenes = s.scenes := rfl
@[simp] theorem State.setCore_xm (c : Nat) (k : Core) : (s.setCore c k).xm = s.xm := rfl
@[simp] theorem State.setCore_pn (c : Nat) (k : Core) : (s.setCore c k).pn = s.pn := rfl
@[simp] theorem State.setCore_ferry (c : Nat) (k : Core) : (s.setCore c k).ferry = s.ferry := rfl
@[simp] theorem State.setCore_queues (c : Nat) (k : Core) : (s.setCore c k).queues = s.queues := rfl
@[simp] theorem State.setCore_moors (c : Nat) (k : Core) : (s.setCore c k).moors = s.moors := rfl
@[simp] theorem State.setCore_pcie (c : Nat) (k : Core) : (s.setCore c k).pcie = s.pcie := rfl
@[simp] theorem State.setCore_side (c : Nat) (k : Core) : (s.setCore c k).side = s.side := rfl
@[simp] theorem State.setCore_ctl (c : Nat) (k : Core) : (s.setCore c k).ctl = s.ctl := rfl
@[simp] theorem State.setCore_sec (c : Nat) (k : Core) : (s.setCore c k).sec = s.sec := rfl
@[simp] theorem State.setCore_otp (c : Nat) (k : Core) : (s.setCore c k).otp = s.otp := rfl
@[simp] theorem State.setCore_net (c : Nat) (k : Core) : (s.setCore c k).net = s.net := rfl
@[simp] theorem State.setCore_time (c : Nat) (k : Core) : (s.setCore c k).time = s.time := rfl
@[simp] theorem State.setCore_ports (c : Nat) (k : Core) : (s.setCore c k).ports = s.ports := rfl
@[simp] theorem State.setCore_meters (c : Nat) (k : Core) : (s.setCore c k).meters = s.meters := rfl
@[simp] theorem State.setCore_clk (c : Nat) (k : Core) : (s.setCore c k).clk = s.clk := rfl
@[simp] theorem State.setCore_rsel (c : Nat) (k : Core) : (s.setCore c k).rsel = s.rsel := rfl
@[simp] theorem State.setCore_dram (c : Nat) (k : Core) : (s.setCore c k).dram = s.dram := rfl
@[simp] theorem State.setCore_pwr (c : Nat) (k : Core) : (s.setCore c k).pwr = s.pwr := rfl
@[simp] theorem State.setCore_tap (c : Nat) (k : Core) : (s.setCore c k).tap = s.tap := rfl
@[simp] theorem State.setCore_ecc (c : Nat) (k : Core) : (s.setCore c k).ecc = s.ecc := rfl

/-! setTask changes ferry alone. -/

@[simp] theorem State.setTask_pending (t : Nat) (r : TaskRec) : (s.setTask t r).pending = s.pending := rfl
@[simp] theorem State.setTask_free (t : Nat) (r : TaskRec) : (s.setTask t r).free = s.free := rfl
@[simp] theorem State.setTask_regs (t : Nat) (r : TaskRec) : (s.setTask t r).regs = s.regs := rfl
@[simp] theorem State.setTask_own (t : Nat) (r : TaskRec) : (s.setTask t r).own = s.own := rfl
@[simp] theorem State.setTask_mem (t : Nat) (r : TaskRec) : (s.setTask t r).mem = s.mem := rfl
@[simp] theorem State.setTask_marks (t : Nat) (r : TaskRec) : (s.setTask t r).marks = s.marks := rfl
@[simp] theorem State.setTask_msi (t : Nat) (r : TaskRec) : (s.setTask t r).msi = s.msi := rfl
@[simp] theorem State.setTask_rate (t : Nat) (r : TaskRec) : (s.setTask t r).rate = s.rate := rfl
@[simp] theorem State.setTask_rateChange (t : Nat) (r : TaskRec) : (s.setTask t r).rateChange = s.rateChange := rfl
@[simp] theorem State.setTask_deck (t : Nat) (r : TaskRec) : (s.setTask t r).deck = s.deck := rfl
@[simp] theorem State.setTask_tt (t : Nat) (r : TaskRec) : (s.setTask t r).tt = s.tt := rfl
@[simp] theorem State.setTask_scenes (t : Nat) (r : TaskRec) : (s.setTask t r).scenes = s.scenes := rfl
@[simp] theorem State.setTask_xm (t : Nat) (r : TaskRec) : (s.setTask t r).xm = s.xm := rfl
@[simp] theorem State.setTask_pn (t : Nat) (r : TaskRec) : (s.setTask t r).pn = s.pn := rfl
@[simp] theorem State.setTask_cores (t : Nat) (r : TaskRec) : (s.setTask t r).cores = s.cores := rfl
@[simp] theorem State.setTask_queues (t : Nat) (r : TaskRec) : (s.setTask t r).queues = s.queues := rfl
@[simp] theorem State.setTask_moors (t : Nat) (r : TaskRec) : (s.setTask t r).moors = s.moors := rfl
@[simp] theorem State.setTask_pcie (t : Nat) (r : TaskRec) : (s.setTask t r).pcie = s.pcie := rfl
@[simp] theorem State.setTask_side (t : Nat) (r : TaskRec) : (s.setTask t r).side = s.side := rfl
@[simp] theorem State.setTask_ctl (t : Nat) (r : TaskRec) : (s.setTask t r).ctl = s.ctl := rfl
@[simp] theorem State.setTask_sec (t : Nat) (r : TaskRec) : (s.setTask t r).sec = s.sec := rfl
@[simp] theorem State.setTask_otp (t : Nat) (r : TaskRec) : (s.setTask t r).otp = s.otp := rfl
@[simp] theorem State.setTask_net (t : Nat) (r : TaskRec) : (s.setTask t r).net = s.net := rfl
@[simp] theorem State.setTask_time (t : Nat) (r : TaskRec) : (s.setTask t r).time = s.time := rfl
@[simp] theorem State.setTask_ports (t : Nat) (r : TaskRec) : (s.setTask t r).ports = s.ports := rfl
@[simp] theorem State.setTask_meters (t : Nat) (r : TaskRec) : (s.setTask t r).meters = s.meters := rfl
@[simp] theorem State.setTask_clk (t : Nat) (r : TaskRec) : (s.setTask t r).clk = s.clk := rfl
@[simp] theorem State.setTask_rsel (t : Nat) (r : TaskRec) : (s.setTask t r).rsel = s.rsel := rfl
@[simp] theorem State.setTask_dram (t : Nat) (r : TaskRec) : (s.setTask t r).dram = s.dram := rfl
@[simp] theorem State.setTask_pwr (t : Nat) (r : TaskRec) : (s.setTask t r).pwr = s.pwr := rfl
@[simp] theorem State.setTask_tap (t : Nat) (r : TaskRec) : (s.setTask t r).tap = s.tap := rfl
@[simp] theorem State.setTask_ecc (t : Nat) (r : TaskRec) : (s.setTask t r).ecc = s.ecc := rfl

/-! setScene changes scenes alone. -/

@[simp] theorem State.setScene_pending (g : Nat) (x : Scene) : (s.setScene g x).pending = s.pending := rfl
@[simp] theorem State.setScene_free (g : Nat) (x : Scene) : (s.setScene g x).free = s.free := rfl
@[simp] theorem State.setScene_regs (g : Nat) (x : Scene) : (s.setScene g x).regs = s.regs := rfl
@[simp] theorem State.setScene_own (g : Nat) (x : Scene) : (s.setScene g x).own = s.own := rfl
@[simp] theorem State.setScene_mem (g : Nat) (x : Scene) : (s.setScene g x).mem = s.mem := rfl
@[simp] theorem State.setScene_marks (g : Nat) (x : Scene) : (s.setScene g x).marks = s.marks := rfl
@[simp] theorem State.setScene_msi (g : Nat) (x : Scene) : (s.setScene g x).msi = s.msi := rfl
@[simp] theorem State.setScene_rate (g : Nat) (x : Scene) : (s.setScene g x).rate = s.rate := rfl
@[simp] theorem State.setScene_rateChange (g : Nat) (x : Scene) : (s.setScene g x).rateChange = s.rateChange := rfl
@[simp] theorem State.setScene_deck (g : Nat) (x : Scene) : (s.setScene g x).deck = s.deck := rfl
@[simp] theorem State.setScene_tt (g : Nat) (x : Scene) : (s.setScene g x).tt = s.tt := rfl
@[simp] theorem State.setScene_xm (g : Nat) (x : Scene) : (s.setScene g x).xm = s.xm := rfl
@[simp] theorem State.setScene_pn (g : Nat) (x : Scene) : (s.setScene g x).pn = s.pn := rfl
@[simp] theorem State.setScene_cores (g : Nat) (x : Scene) : (s.setScene g x).cores = s.cores := rfl
@[simp] theorem State.setScene_ferry (g : Nat) (x : Scene) : (s.setScene g x).ferry = s.ferry := rfl
@[simp] theorem State.setScene_queues (g : Nat) (x : Scene) : (s.setScene g x).queues = s.queues := rfl
@[simp] theorem State.setScene_moors (g : Nat) (x : Scene) : (s.setScene g x).moors = s.moors := rfl
@[simp] theorem State.setScene_pcie (g : Nat) (x : Scene) : (s.setScene g x).pcie = s.pcie := rfl
@[simp] theorem State.setScene_side (g : Nat) (x : Scene) : (s.setScene g x).side = s.side := rfl
@[simp] theorem State.setScene_ctl (g : Nat) (x : Scene) : (s.setScene g x).ctl = s.ctl := rfl
@[simp] theorem State.setScene_sec (g : Nat) (x : Scene) : (s.setScene g x).sec = s.sec := rfl
@[simp] theorem State.setScene_otp (g : Nat) (x : Scene) : (s.setScene g x).otp = s.otp := rfl
@[simp] theorem State.setScene_net (g : Nat) (x : Scene) : (s.setScene g x).net = s.net := rfl
@[simp] theorem State.setScene_time (g : Nat) (x : Scene) : (s.setScene g x).time = s.time := rfl
@[simp] theorem State.setScene_ports (g : Nat) (x : Scene) : (s.setScene g x).ports = s.ports := rfl
@[simp] theorem State.setScene_meters (g : Nat) (x : Scene) : (s.setScene g x).meters = s.meters := rfl
@[simp] theorem State.setScene_clk (g : Nat) (x : Scene) : (s.setScene g x).clk = s.clk := rfl
@[simp] theorem State.setScene_rsel (g : Nat) (x : Scene) : (s.setScene g x).rsel = s.rsel := rfl
@[simp] theorem State.setScene_dram (g : Nat) (x : Scene) : (s.setScene g x).dram = s.dram := rfl
@[simp] theorem State.setScene_pwr (g : Nat) (x : Scene) : (s.setScene g x).pwr = s.pwr := rfl
@[simp] theorem State.setScene_tap (g : Nat) (x : Scene) : (s.setScene g x).tap = s.tap := rfl
@[simp] theorem State.setScene_ecc (g : Nat) (x : Scene) : (s.setScene g x).ecc = s.ecc := rfl

/-! setCtx changes net alone. -/

@[simp] theorem State.setCtx_pending (n : Nat) (c : Ctx) : (s.setCtx n c).pending = s.pending := rfl
@[simp] theorem State.setCtx_free (n : Nat) (c : Ctx) : (s.setCtx n c).free = s.free := rfl
@[simp] theorem State.setCtx_regs (n : Nat) (c : Ctx) : (s.setCtx n c).regs = s.regs := rfl
@[simp] theorem State.setCtx_own (n : Nat) (c : Ctx) : (s.setCtx n c).own = s.own := rfl
@[simp] theorem State.setCtx_mem (n : Nat) (c : Ctx) : (s.setCtx n c).mem = s.mem := rfl
@[simp] theorem State.setCtx_marks (n : Nat) (c : Ctx) : (s.setCtx n c).marks = s.marks := rfl
@[simp] theorem State.setCtx_msi (n : Nat) (c : Ctx) : (s.setCtx n c).msi = s.msi := rfl
@[simp] theorem State.setCtx_rate (n : Nat) (c : Ctx) : (s.setCtx n c).rate = s.rate := rfl
@[simp] theorem State.setCtx_rateChange (n : Nat) (c : Ctx) : (s.setCtx n c).rateChange = s.rateChange := rfl
@[simp] theorem State.setCtx_deck (n : Nat) (c : Ctx) : (s.setCtx n c).deck = s.deck := rfl
@[simp] theorem State.setCtx_tt (n : Nat) (c : Ctx) : (s.setCtx n c).tt = s.tt := rfl
@[simp] theorem State.setCtx_scenes (n : Nat) (c : Ctx) : (s.setCtx n c).scenes = s.scenes := rfl
@[simp] theorem State.setCtx_xm (n : Nat) (c : Ctx) : (s.setCtx n c).xm = s.xm := rfl
@[simp] theorem State.setCtx_pn (n : Nat) (c : Ctx) : (s.setCtx n c).pn = s.pn := rfl
@[simp] theorem State.setCtx_cores (n : Nat) (c : Ctx) : (s.setCtx n c).cores = s.cores := rfl
@[simp] theorem State.setCtx_ferry (n : Nat) (c : Ctx) : (s.setCtx n c).ferry = s.ferry := rfl
@[simp] theorem State.setCtx_queues (n : Nat) (c : Ctx) : (s.setCtx n c).queues = s.queues := rfl
@[simp] theorem State.setCtx_moors (n : Nat) (c : Ctx) : (s.setCtx n c).moors = s.moors := rfl
@[simp] theorem State.setCtx_pcie (n : Nat) (c : Ctx) : (s.setCtx n c).pcie = s.pcie := rfl
@[simp] theorem State.setCtx_side (n : Nat) (c : Ctx) : (s.setCtx n c).side = s.side := rfl
@[simp] theorem State.setCtx_ctl (n : Nat) (c : Ctx) : (s.setCtx n c).ctl = s.ctl := rfl
@[simp] theorem State.setCtx_sec (n : Nat) (c : Ctx) : (s.setCtx n c).sec = s.sec := rfl
@[simp] theorem State.setCtx_otp (n : Nat) (c : Ctx) : (s.setCtx n c).otp = s.otp := rfl
@[simp] theorem State.setCtx_time (n : Nat) (c : Ctx) : (s.setCtx n c).time = s.time := rfl
@[simp] theorem State.setCtx_ports (n : Nat) (c : Ctx) : (s.setCtx n c).ports = s.ports := rfl
@[simp] theorem State.setCtx_meters (n : Nat) (c : Ctx) : (s.setCtx n c).meters = s.meters := rfl
@[simp] theorem State.setCtx_clk (n : Nat) (c : Ctx) : (s.setCtx n c).clk = s.clk := rfl
@[simp] theorem State.setCtx_rsel (n : Nat) (c : Ctx) : (s.setCtx n c).rsel = s.rsel := rfl
@[simp] theorem State.setCtx_dram (n : Nat) (c : Ctx) : (s.setCtx n c).dram = s.dram := rfl
@[simp] theorem State.setCtx_pwr (n : Nat) (c : Ctx) : (s.setCtx n c).pwr = s.pwr := rfl
@[simp] theorem State.setCtx_tap (n : Nat) (c : Ctx) : (s.setCtx n c).tap = s.tap := rfl
@[simp] theorem State.setCtx_ecc (n : Nat) (c : Ctx) : (s.setCtx n c).ecc = s.ecc := rfl

/-! The conditional update of a field. -/

@[simp] theorem State.mark_pending (f : Fld) (b : Bool) : (s.mark f b).pending = s.pending := by unfold State.mark; split <;> rfl
@[simp] theorem State.mark_free (f : Fld) (b : Bool) : (s.mark f b).free = s.free := by unfold State.mark; split <;> rfl
@[simp] theorem State.mark_own (f : Fld) (b : Bool) : (s.mark f b).own = s.own := by unfold State.mark; split <;> rfl
@[simp] theorem State.mark_mem (f : Fld) (b : Bool) : (s.mark f b).mem = s.mem := by unfold State.mark; split <;> rfl
@[simp] theorem State.mark_marks (f : Fld) (b : Bool) : (s.mark f b).marks = s.marks := by unfold State.mark; split <;> rfl
@[simp] theorem State.mark_msi (f : Fld) (b : Bool) : (s.mark f b).msi = s.msi := by unfold State.mark; split <;> rfl
@[simp] theorem State.mark_rate (f : Fld) (b : Bool) : (s.mark f b).rate = s.rate := by unfold State.mark; split <;> rfl
@[simp] theorem State.mark_rateChange (f : Fld) (b : Bool) : (s.mark f b).rateChange = s.rateChange := by unfold State.mark; split <;> rfl
@[simp] theorem State.mark_deck (f : Fld) (b : Bool) : (s.mark f b).deck = s.deck := by unfold State.mark; split <;> rfl
@[simp] theorem State.mark_tt (f : Fld) (b : Bool) : (s.mark f b).tt = s.tt := by unfold State.mark; split <;> rfl
@[simp] theorem State.mark_scenes (f : Fld) (b : Bool) : (s.mark f b).scenes = s.scenes := by unfold State.mark; split <;> rfl
@[simp] theorem State.mark_xm (f : Fld) (b : Bool) : (s.mark f b).xm = s.xm := by unfold State.mark; split <;> rfl
@[simp] theorem State.mark_pn (f : Fld) (b : Bool) : (s.mark f b).pn = s.pn := by unfold State.mark; split <;> rfl
@[simp] theorem State.mark_cores (f : Fld) (b : Bool) : (s.mark f b).cores = s.cores := by unfold State.mark; split <;> rfl
@[simp] theorem State.mark_ferry (f : Fld) (b : Bool) : (s.mark f b).ferry = s.ferry := by unfold State.mark; split <;> rfl
@[simp] theorem State.mark_queues (f : Fld) (b : Bool) : (s.mark f b).queues = s.queues := by unfold State.mark; split <;> rfl
@[simp] theorem State.mark_moors (f : Fld) (b : Bool) : (s.mark f b).moors = s.moors := by unfold State.mark; split <;> rfl
@[simp] theorem State.mark_pcie (f : Fld) (b : Bool) : (s.mark f b).pcie = s.pcie := by unfold State.mark; split <;> rfl
@[simp] theorem State.mark_side (f : Fld) (b : Bool) : (s.mark f b).side = s.side := by unfold State.mark; split <;> rfl
@[simp] theorem State.mark_ctl (f : Fld) (b : Bool) : (s.mark f b).ctl = s.ctl := by unfold State.mark; split <;> rfl
@[simp] theorem State.mark_sec (f : Fld) (b : Bool) : (s.mark f b).sec = s.sec := by unfold State.mark; split <;> rfl
@[simp] theorem State.mark_otp (f : Fld) (b : Bool) : (s.mark f b).otp = s.otp := by unfold State.mark; split <;> rfl
@[simp] theorem State.mark_net (f : Fld) (b : Bool) : (s.mark f b).net = s.net := by unfold State.mark; split <;> rfl
@[simp] theorem State.mark_time (f : Fld) (b : Bool) : (s.mark f b).time = s.time := by unfold State.mark; split <;> rfl
@[simp] theorem State.mark_ports (f : Fld) (b : Bool) : (s.mark f b).ports = s.ports := by unfold State.mark; split <;> rfl
@[simp] theorem State.mark_meters (f : Fld) (b : Bool) : (s.mark f b).meters = s.meters := by unfold State.mark; split <;> rfl
@[simp] theorem State.mark_clk (f : Fld) (b : Bool) : (s.mark f b).clk = s.clk := by unfold State.mark; split <;> rfl
@[simp] theorem State.mark_rsel (f : Fld) (b : Bool) : (s.mark f b).rsel = s.rsel := by unfold State.mark; split <;> rfl
@[simp] theorem State.mark_dram (f : Fld) (b : Bool) : (s.mark f b).dram = s.dram := by unfold State.mark; split <;> rfl
@[simp] theorem State.mark_pwr (f : Fld) (b : Bool) : (s.mark f b).pwr = s.pwr := by unfold State.mark; split <;> rfl
@[simp] theorem State.mark_tap (f : Fld) (b : Bool) : (s.mark f b).tap = s.tap := by unfold State.mark; split <;> rfl
@[simp] theorem State.mark_ecc (f : Fld) (b : Bool) : (s.mark f b).ecc = s.ecc := by unfold State.mark; split <;> rfl

end Sys2Proof.Machine
end

