-- ==== Sys2Proof/Laws/Table.lean ====
section
/-! SUPPORT. Laws/Table.lean: sparse tables: what a lookup finds after a change, and that a change keeps the keys rising and
byte memory in its canonical form. -/

namespace Sys2Proof.Machine

variable {V : Type}

/-! ## Lookups -/

theorem look_ins_same (m : SMap V) (k : Nat) (v : V) : look (ins m k v) k = some v := by
  induction m with
  | nil => simp [ins, look]
  | cons e r ih =>
    simp only [ins]
    split
    · simp [look]
    · split <;> simp [look, *]

theorem look_ins_other (m : SMap V) {k j : Nat} (v : V) (h : j ≠ k) : look (ins m k v) j = look m j := by
  induction m with
  | nil => simp [ins, look, h]
  | cons e r ih =>
    simp only [ins]
    split
    · next hk => subst hk; simp [look, h]
    · split <;> simp [look, h, ih]

theorem look_del_same (m : SMap V) (k : Nat) : look (del m k) k = none := by
  induction m with
  | nil => rfl
  | cons e r ih =>
    by_cases h : e.1 = k
    · simpa [del, h] using ih
    · have h' : ¬ k = e.1 := fun g => h g.symm
      simpa [del, h, look, h'] using ih

theorem look_del_other (m : SMap V) {k j : Nat} (hj : j ≠ k) : look (del m k) j = look m j := by
  induction m with
  | nil => rfl
  | cons e r ih =>
    by_cases h : e.1 = k
    · have h' : ¬ j = e.1 := fun g => hj (g.trans h)
      simpa [del, h, look, hj, h'] using ih
    · simp only [del, bne_iff_ne, ne_eq, h, not_false_eq_true, List.filter_cons_of_pos, look]
      split
      · rfl
      · exact ih

theorem lookD_ins_same (m : SMap V) (d : V) (k : Nat) (v : V) : lookD (ins m k v) d k = v := by
  simp [lookD, look_ins_same]

theorem lookD_ins_other (m : SMap V) (d : V) {k j : Nat} (v : V) (h : j ≠ k) :
    lookD (ins m k v) d j = lookD m d j := by
  simp [lookD, look_ins_other m v h]

theorem lookD_insD_same [DecidableEq V] (m : SMap V) (d : V) (k : Nat) (v : V) : lookD (insD m d k v) d k = v := by
  unfold insD
  split
  · next hv => subst hv; simp [lookD, look_del_same m k]
  · exact lookD_ins_same m d k v

theorem lookD_insD_other [DecidableEq V] (m : SMap V) (d d' : V) {k j : Nat} (v : V) (hj : j ≠ k) :
    lookD (insD m d k v) d' j = lookD m d' j := by
  unfold insD
  split
  · simp [lookD, look_del_other m hj]
  · exact lookD_ins_other m d' v hj

/-! ## Keys in order -/

/-- The keys of a table lie above a bound, and strictly rise. -/
def above (b : Nat) : SMap V → Prop
  | [] => True
  | (a, _) :: r => b < a ∧ above a r

theorem above_mono {b c : Nat} (h : b ≤ c) (m : SMap V) (hm : above c m) : above b m := by
  cases m with
  | nil => trivial
  | cons e r => exact ⟨by have := hm.1; omega, hm.2⟩

theorem rising_cons (a : Nat) (u : V) (r : SMap V) : rising ((a, u) :: r) = true ↔ above a r := by
  induction r generalizing a u with
  | nil => simp [rising, above]
  | cons e r ih => simp only [rising, above, Bool.and_eq_true, decide_eq_true_eq, ih]

theorem above_ins (b k : Nat) (v : V) (hk : b < k) (m : SMap V) (h : above b m) : above b (ins m k v) := by
  induction m generalizing b with
  | nil => exact ⟨hk, trivial⟩
  | cons e r ih =>
    simp only [ins]
    split
    · next h1 => subst h1; exact h
    · split
      · next h2 => exact ⟨hk, h2, h.2⟩
      · next h1 h2 => exact ⟨h.1, ih e.1 (by omega) h.2⟩

theorem above_filter (p : Nat × V → Bool) (b : Nat) (m : SMap V) (h : above b m) : above b (m.filter p) := by
  induction m generalizing b with
  | nil => trivial
  | cons e r ih =>
    simp only [List.filter_cons]
    split
    · exact ⟨h.1, ih e.1 h.2⟩
    · exact above_mono (by have := h.1; omega) _ (ih e.1 h.2)

theorem rising_of_above (b : Nat) (m : SMap V) (h : above b m) : rising m = true := by
  cases m with
  | nil => rfl
  | cons e r => rw [rising_cons]; exact h.2

theorem rising_ins (m : SMap V) (k : Nat) (v : V) (h : rising m = true) : rising (ins m k v) = true := by
  cases m with
  | nil => simp [ins, rising]
  | cons e r =>
    rw [rising_cons] at h
    simp only [ins]
    split
    · next h1 => subst h1; rwa [rising_cons]
    · split
      · next h2 => rw [rising_cons]; exact ⟨h2, h⟩
      · next h1 h2 => rw [rising_cons]; exact above_ins e.1 k v (by omega) r h

theorem rising_filter (p : Nat × V → Bool) (m : SMap V) (h : rising m = true) : rising (m.filter p) = true := by
  cases m with
  | nil => rfl
  | cons e r =>
    rw [rising_cons] at h
    simp only [List.filter_cons]
    split
    · rw [rising_cons]; exact above_filter p e.1 r h
    · exact rising_of_above e.1 _ (above_filter p e.1 r h)

theorem rising_insD [DecidableEq V] (m : SMap V) (d : V) (k : Nat) (v : V) (h : rising m = true) :
    rising (insD m d k v) = true := by
  unfold insD
  split
  · exact rising_filter _ m h
  · exact rising_ins m k v h

/-! ## Byte memory -/

theorem all_ins (p : Nat × V → Bool) (m : SMap V) (k : Nat) (v : V) (h : m.all p = true) (hv : p (k, v) = true) :
    (ins m k v).all p = true := by
  induction m with
  | nil => simpa [ins] using hv
  | cons e r ih =>
    simp only [List.all_cons, Bool.and_eq_true] at h
    simp only [ins]
    split
    · simp only [List.all_cons, hv, h.2, Bool.and_self]
    · split
      · simp only [List.all_cons, hv, h.1, h.2, Bool.and_self]
      · simp only [List.all_cons, h.1, ih h.2, Bool.and_self]

theorem memWf_filter (p : Host.Cell → Bool) (m : List Host.Cell) (h : memWf m = true) : memWf (m.filter p) = true := by
  simp only [memWf, Bool.and_eq_true] at h ⊢
  refine ⟨rising_filter p m h.1, ?_⟩
  have h2 := h.2
  simp only [List.all_eq_true] at h2 ⊢
  intro e he
  exact h2 e (List.mem_filter.mp he).1

@[simp] theorem memWf_insD (m : List Host.Cell) (k : Nat) (v : Byte) (h : memWf m = true) : memWf (insD m 0 k v) = true := by
  unfold insD
  split
  · exact memWf_filter _ m h
  · next hv =>
    simp only [memWf, Bool.and_eq_true] at h ⊢
    exact ⟨rising_ins m k v h.1, all_ins _ m k v h.2 (by simpa using hv)⟩

@[simp] theorem memWf_delRange (m : List Host.Cell) (a n : Nat) (h : memWf m = true) : memWf (delRange m a n) = true :=
  memWf_filter _ m h

@[simp] theorem memWf_sub (m : List Host.Cell) (a n : Nat) (h : memWf m = true) : memWf (sub m a n) = true :=
  memWf_filter _ m h

/-- A byte read after a store is the byte stored. -/
theorem byte_setByte_same (s : State) (a : Nat) (b : Byte) : (s.setByte a b).byte a = b :=
  lookD_insD_same s.mem 0 a b

/-- A store leaves every other byte alone. -/
theorem byte_setByte_other (s : State) {a j : Nat} (b : Byte) (hj : j ≠ a) : (s.setByte a b).byte j = s.byte j :=
  lookD_insD_other s.mem 0 0 b hj

/-- A word read after a store is the word stored. -/
theorem word_setWord_same (s : State) (a : Nat) (w : W32) : (s.setWord a w).word a = w := by
  unfold State.setWord State.word
  simp (disch := omega) only [byte_setByte_same, byte_setByte_other]
  exact bytes_word w

end Sys2Proof.Machine
end

