-- ==== Sys2Proof/Laws/Ops.lean ====
section
/-! SUPPORT. Laws/Ops.lean: the shared operations: what each leaves alone, what a register reads after a change, and what an
instruction of a packet comes to. -/

namespace Sys2Proof.Machine

/-! ## Frames -/

/-- Nothing differs but the registers and what belongs to sessions: moorings, controller, landing queues, keys. -/
def Session (s t : State) : Prop :=
  t = { s with regs := t.regs, moors := t.moors, ctl := t.ctl, queues := t.queues, sec := t.sec }

theorem Session.refl (s : State) : Session s s := rfl

theorem Session.trans {s t u : State} (h : Session s t) (g : Session t u) : Session s u := by
  unfold Session at *
  rw [g, h]

theorem Session.pending {s t : State} (h : Session s t) : t.pending = s.pending := by have g := congrArg State.pending h; exact g
theorem Session.free {s t : State} (h : Session s t) : t.free = s.free := by have g := congrArg State.free h; exact g
theorem Session.own {s t : State} (h : Session s t) : t.own = s.own := by have g := congrArg State.own h; exact g
theorem Session.mem {s t : State} (h : Session s t) : t.mem = s.mem := by have g := congrArg State.mem h; exact g
theorem Session.marks {s t : State} (h : Session s t) : t.marks = s.marks := by have g := congrArg State.marks h; exact g
theorem Session.msi {s t : State} (h : Session s t) : t.msi = s.msi := by have g := congrArg State.msi h; exact g
theorem Session.rate {s t : State} (h : Session s t) : t.rate = s.rate := by have g := congrArg State.rate h; exact g
theorem Session.rateChange {s t : State} (h : Session s t) : t.rateChange = s.rateChange := by have g := congrArg State.rateChange h; exact g
theorem Session.deck {s t : State} (h : Session s t) : t.deck = s.deck := by have g := congrArg State.deck h; exact g
theorem Session.tt {s t : State} (h : Session s t) : t.tt = s.tt := by have g := congrArg State.tt h; exact g
theorem Session.scenes {s t : State} (h : Session s t) : t.scenes = s.scenes := by have g := congrArg State.scenes h; exact g
theorem Session.xm {s t : State} (h : Session s t) : t.xm = s.xm := by have g := congrArg State.xm h; exact g
theorem Session.pn {s t : State} (h : Session s t) : t.pn = s.pn := by have g := congrArg State.pn h; exact g
theorem Session.cores {s t : State} (h : Session s t) : t.cores = s.cores := by have g := congrArg State.cores h; exact g
theorem Session.ferry {s t : State} (h : Session s t) : t.ferry = s.ferry := by have g := congrArg State.ferry h; exact g
theorem Session.pcie {s t : State} (h : Session s t) : t.pcie = s.pcie := by have g := congrArg State.pcie h; exact g
theorem Session.side {s t : State} (h : Session s t) : t.side = s.side := by have g := congrArg State.side h; exact g
theorem Session.otp {s t : State} (h : Session s t) : t.otp = s.otp := by have g := congrArg State.otp h; exact g
theorem Session.net {s t : State} (h : Session s t) : t.net = s.net := by have g := congrArg State.net h; exact g
theorem Session.time {s t : State} (h : Session s t) : t.time = s.time := by have g := congrArg State.time h; exact g
theorem Session.ports {s t : State} (h : Session s t) : t.ports = s.ports := by have g := congrArg State.ports h; exact g
theorem Session.meters {s t : State} (h : Session s t) : t.meters = s.meters := by have g := congrArg State.meters h; exact g
theorem Session.clk {s t : State} (h : Session s t) : t.clk = s.clk := by have g := congrArg State.clk h; exact g
theorem Session.rsel {s t : State} (h : Session s t) : t.rsel = s.rsel := by have g := congrArg State.rsel h; exact g
theorem Session.dram {s t : State} (h : Session s t) : t.dram = s.dram := by have g := congrArg State.dram h; exact g
theorem Session.pwr {s t : State} (h : Session s t) : t.pwr = s.pwr := by have g := congrArg State.pwr h; exact g
theorem Session.tap {s t : State} (h : Session s t) : t.tap = s.tap := by have g := congrArg State.tap h; exact g
theorem Session.ecc {s t : State} (h : Session s t) : t.ecc = s.ecc := by have g := congrArg State.ecc h; exact g

theorem Session.of_regs (s : State) (r : SMap W32) : Session s { s with regs := r } := rfl
theorem Session.of_ctl (s : State) (c : Ctl) : Session s { s with ctl := c } := rfl

theorem session_setReg (s : State) (a : Nat) (v : W32) : Session s (s.setReg a v) := rfl
theorem session_setFld (s : State) (f : Fld) (v : Nat) : Session s (s.setFld f v) := rfl
theorem session_bump (s : State) (f : Fld) : Session s (s.bump f) := rfl
theorem session_addWait (s : State) (n : Nat) (w : Wait) : Session s (s.addWait n w) := rfl
theorem session_defer (s : State) (n : Nat) (e : Eff) : Session s (s.defer n e) := rfl
theorem session_setQueue (s : State) (m c : Nat) (q : LandQ) : Session s (s.setQueue m c q) := rfl
theorem session_post (s : State) (m : Fin 8) (ws : List W32) (b : Bool) : Session s (s.post m ws b) := rfl
theorem session_freeUnits (s : State) (m c n : Nat) : Session s (s.freeUnits m c n) := rfl

theorem session_reply (s : State) (p : Pkt) : Session s (s.reply p) := by
  unfold State.reply
  simp only []
  split <;> first | exact Session.refl s | exact session_post s _ _ _

theorem session_noticeTo (s : State) (m : Fin 8) (c : Nat) (ws : List W32) : Session s (s.noticeTo m c ws) := by
  unfold State.noticeTo
  simp only []
  split
  · exact Session.refl s
  · split <;> rfl

theorem session_foldl {A : Type} (f : State → A → State) (hf : ∀ s a, Session s (f s a)) (l : List A) (s : State) :
    Session s (l.foldl f s) := by
  induction l generalizing s with
  | nil => exact Session.refl s
  | cons a r ih => exact (hf s a).trans (ih (f s a))

theorem session_noticeIf (s : State) (c : Nat) (ws : List W32) (p : Fin 8 → Bool) : Session s (s.noticeIf c ws p) :=
  session_foldl _ (fun t m => session_noticeTo t m c ws) _ s

theorem session_notice (s : State) (c : Nat) (ws : List W32) : Session s (s.notice c ws) :=
  session_noticeIf s c ws _

theorem session_setReady (s : State) (fs : List Fld) : Session s (s.setReady fs) := by
  have h : Session s ((fs.filter (fun f => !s.readyBarred f)).foldl (fun t f => t.setFld f 1) s) :=
    session_foldl _ (fun t f => session_setFld t f 1) _ s
  unfold State.setReady
  simp only []
  split
  · exact h
  · exact h.trans (session_notice _ _ _)

theorem session_clearReady (s : State) (fs : List Fld) : Session s (s.clearReady fs) :=
  session_foldl _ (fun t f => session_setFld t f 0) fs s

/-- A reply leaves, and the units of its packet are freed. -/
theorem session_sent (s : State) (p : Pkt) :
    Session s (if p.units = 0 then s.reply p else (s.reply p).freeUnits p.m.val p.cls.val p.units) := by
  split
  · exact session_reply s p
  · exact (session_reply s p).trans (session_freeUnits _ _ _ _)

theorem session_sendDue (l : List Pkt) (s : State) : Session s (State.sendDue l s) := by
  induction l generalizing s with
  | nil => exact Session.refl s
  | cons p r ih =>
    unfold State.sendDue
    split
    · exact ih s
    · refine Session.trans (Session.trans (session_sent s p) ?_) (ih _)
      rfl

theorem session_flushDue (s : State) : Session s s.flushDue := by
  unfold State.flushDue
  split
  · exact Session.refl s
  · exact session_sendDue _ s

theorem session_release (s : State) (p : Wait → Bool) : Session s (s.release p) :=
  Session.trans (Session.of_ctl s _) (session_flushDue _)

theorem session_completePacket (s : State) : Session s s.completePacket := by
  unfold State.completePacket
  split
  · exact Session.refl s
  · simp only []
    split
    · exact Session.trans (Session.of_ctl s _) (session_flushDue _)
    · exact Session.trans ((session_freeUnits s _ _ _).trans (Session.of_ctl _ _)) (session_flushDue _)

theorem session_closeReserved (s : State) : Session s s.closeReserved := by
  unfold State.closeReserved
  split
  · exact Session.refl s
  · split
    · exact Session.refl s
    · split
      · exact Session.refl s
      · exact Session.trans (Session.of_ctl s _) (session_completePacket _)

theorem session_boundary (s : State) : Session s s.boundary := by
  unfold State.boundary
  refine session_foldl _ (fun t _ => ?_) _ s
  split
  · exact Session.refl t
  · exact session_closeReserved t

/-- Adding a record to the running packet changes nothing outside the sessions. -/
theorem session_record (s : State) (r : Rec) : Session s (s.record r) := by
  unfold State.record
  split
  · exact Session.refl s
  · simp only []
    refine Session.trans ?_ (session_boundary _)
    split
    · exact Session.of_ctl s _
    · exact Session.trans (Session.of_ctl s _) (session_completePacket _)

theorem enter_eq (s : State) (op : Nat) (q : Req) : s.enter op q = { s with ctl := (s.enter op q).ctl } := by
  unfold State.enter
  simp only []
  split <;> rfl

theorem session_enter (s : State) (op : Nat) (q : Req) : Session s (s.enter op q) := by
  rw [enter_eq]; exact Session.of_ctl s _

/-! ## Registers -/

theorem reg_setReg_same (s : State) (a : Nat) (v : W32) : (s.setReg a v).reg a = v :=
  lookD_insD_same s.regs (regReset a) a v

theorem reg_setReg_other (s : State) {a b : Nat} (v : W32) (hb : b ≠ a) : (s.setReg a v).reg b = s.reg b :=
  lookD_insD_other s.regs (regReset a) (regReset b) v hb

/-- A field set in another register leaves a register as it was. -/
theorem reg_setFld_other (s : State) {f : Fld} {b : Nat} (v : Nat) (hb : b ≠ f.reg) : (s.setFld f v).reg b = s.reg b :=
  reg_setReg_other s _ hb

/-- A field reads as it was set. -/
theorem fld_setFld_same (s : State) (f : Fld) (v : Nat) (h : f.hi < 32) :
    (s.setFld f v).fld f = v % 2 ^ (f.hi + 1 - f.lo) := by
  unfold State.fld State.setFld
  rw [reg_setReg_same, bf_setBf_same _ _ _ _ h]

/-- A field of another register, or one that does not meet the field set, reads as before. -/
theorem fld_setFld_other (s : State) (f g : Fld) (v : Nat) (h : g.reg ≠ f.reg ∨ g.hi < f.lo ∨ f.hi < g.lo) :
    (s.setFld f v).fld g = s.fld g := by
  unfold State.fld State.setFld
  by_cases hr : g.reg = f.reg
  · rw [hr, reg_setReg_same]
    exact bf_setBf_other _ _ _ _ _ _ (h.resolve_left (fun x => x hr))
  · rw [reg_setReg_other _ _ hr]

/-! ## Instructions -/

/-- The packet in which an instruction acts stands at the front: it is of the mooring and class of the request. -/
theorem enter_stack (s : State) (op : Nat) (q : Req) :
    ∃ p r, (s.enter op q).ctl.stack = p :: r ∧ p.m = q.m ∧ p.cls = q.cls := by
  unfold State.enter
  simp only []
  split
  · next h =>
    unfold State.isNext at h
    split at h
    · next p r hs =>
      simp only [Bool.and_eq_true, beq_iff_eq] at h
      exact ⟨p, r, hs, h.1.1.1, h.1.1.2⟩
    · cases h
  · exact ⟨_, _, rfl, rfl, rfl⟩

/-- No error of a table holds: the instruction acts. -/
theorem checked_act (s : State) (cs : List (Bool × Nat)) (act : Unit → Res) (h : firstErr cs = none) :
    checked s cs act = act () := by
  unfold checked; rw [h]

/-- The first error of a table that holds is the status. -/
theorem checked_err (s : State) (cs : List (Bool × Nat)) (act : Unit → Res) (e : Nat) (h : firstErr cs = some e) :
    checked s cs act = Res.err s e := by
  unfold checked; rw [h]

end Sys2Proof.Machine
end

