-- ==== Sys2Proof/Laws/Insn.lean ====
section
/-! SUPPORT. Laws/Insn.lean: what an instruction row comes to: its body acts in its packet, and its record is added (R317,
R318, R320). -/

namespace Sys2Proof.Machine

theorem packet_some (s : State) (op : Nat) (q : Req) :
    ∃ p r, (s.enter op q).ctl.stack = p :: r ∧ s.packet op q = some p ∧ s.packetId op q = p.id ∧ p.m = q.m := by
  obtain ⟨p, r, h, hm, _⟩ := enter_stack s op q
  have h1 : s.packet op q = some p := by unfold State.packet; rw [h]; rfl
  exact ⟨p, r, h, h1, by unfold State.packetId; rw [h1]; rfl, hm⟩

/-- The packet's number stands at the front of the stack once the instruction has entered. -/
theorem enter_head (s : State) (op : Nat) (q : Req) :
    (s.enter op q).ctl.stack.head?.map (·.id) = some (s.packetId op q) := by
  obtain ⟨p, r, h, _, hid, _⟩ := packet_some s op q
  rw [h, hid]; rfl

/-- An instruction that the controllers execute, by what its body answers. -/
theorem runInsn_body {s t : State} {op k st : Nat} {q : Req} {payload : List W32} {body : Nat → Bool → State → Res} {p : Pkt}
    (h : s.takes op k q) (hp : s.packet op q = some p)
    (hb : body (s.packetId op q) true (s.enter op q) = ⟨st, payload, t⟩)
    (hs : t.ctl.stack.head?.map (·.id) = some (s.packetId op q)) :
    runInsn op k q s body = if s.tooLong p op k q ⟨st, payload, t⟩ && !aboveRange st then
      (s.enter op q).record { op := op, status := erange, payload := [] }
      else t.record { op := op, status := st, payload := payload } := by
  obtain ⟨hc, he, hm⟩ := h
  obtain ⟨p', r, hst, hp', hid, _⟩ := packet_some s op q
  obtain rfl : p' = p := by rw [hp] at hp'; exact (Option.some.inj hp').symm
  rw [hid] at hb hs
  unfold runInsn
  simp only [hc, hm, hst, he, hb, hs, Bool.not_true, Option.getD_some, bne_self_eq_false, Bool.or_self,
    Bool.false_eq_true, if_false, Option.isSome_some, beq_self_eq_true, if_true]

/-- A reply that has room for a record is not too long with it. -/
theorem room_fits {s : State} {op k : Nat} {q : Req} {p : Pkt} {r : Res} (hp : s.packet op q = some p)
    (hr : s.room op q (if r.status = stOk ∨ r.status = stPending then r.payload.length else payloadLen op k q)) :
    s.tooLong p op k q r = false := by
  obtain ⟨p', _, _, hp', _, hm⟩ := packet_some s op q
  obtain rfl : p' = p := by rw [hp] at hp'; exact (Option.some.inj hp').symm
  have h := hr p' hp
  unfold State.tooLong
  rw [hm]
  exact decide_eq_false (Nat.not_lt.mpr h)

/-- An instruction that succeeds, with room for its record. -/
theorem runInsn_acts {s t : State} {op k st : Nat} {q : Req} {payload : List W32} {body : Nat → Bool → State → Res}
    (h : s.takes op k q) (hb : body (s.packetId op q) true (s.enter op q) = ⟨st, payload, t⟩)
    (hok : st = stOk ∨ st = stPending) (hr : s.room op q payload.length)
    (hs : t.ctl.stack.head?.map (·.id) = some (s.packetId op q)) :
    runInsn op k q s body = t.record { op := op, status := st, payload := payload } := by
  obtain ⟨p, _, _, hp, _, _⟩ := packet_some s op q
  rw [runInsn_body h hp hb hs, room_fits hp (by simpa [hok] using hr)]
  simp

/-- A reserved modifier: the body answers with modOk false and a status no lower than ERANGE. -/
theorem runInsn_reserved {s : State} {op k st : Nat} {q : Req} {body : Nat → Bool → State → Res}
    (hc : s.serves op q = true) (he : s.executes op = true) (hm : modSel op q.mod = none)
    (hb : body (s.packetId op q) false (s.enter op q) = Res.err (s.enter op q) st)
    (ht : aboveRange st = true ∨ st = erange) :
    runInsn op k q s body = (s.enter op q).record { op := op, status := st, payload := [] } := by
  obtain ⟨p, r, hst, hp, hid, hpm⟩ := packet_some s op q
  have hs := enter_head s op q
  rw [hid] at hb hs
  unfold runInsn
  rcases ht with h | rfl
  · simp [hc, hm, hst, he, hb, h, Res.err]
  · simp [hc, hm, hst, he, hb, Res.err]

/-- Outside a packet's own row nothing happens: the modifier selects another operation. -/
theorem runInsn_other {s : State} {op k j : Nat} {q : Req} {body : Nat → Bool → State → Res}
    (hm : modSel op q.mod = some j) (hj : j ≠ k) : runInsn op k q s body = s := by
  unfold runInsn
  simp [hm, hj]

/-- The controllers do not come to the instruction: nothing happens. -/
theorem runInsn_held {s : State} {op k : Nat} {q : Req} {body : Nat → Bool → State → Res} (hc : s.serves op q = false) :
    runInsn op k q s body = s := by
  unfold runInsn
  simp [hc]

/-- The controllers do not run: nothing happens. -/
theorem runInsn_off {s : State} {op k : Nat} {q : Req} {body : Nat → Bool → State → Res} (hc : s.commands = false) :
    runInsn op k q s body = s := runInsn_held (by unfold State.serves; rw [hc]; rfl)

/-- A failed instruction leaves its record with the status it fails with. -/
theorem runInsn_fails {s : State} {op k e : Nat} {q : Req} {body : Nat → Bool → State → Res} (h : s.takes op k q)
    (hb : body (s.packetId op q) true (s.enter op q) = Res.err (s.enter op q) e) :
    runInsn op k q s body = (s.enter op q).record { op := op, status := s.failure op k q e, payload := [] } := by
  obtain ⟨p, _, _, hp, _, _⟩ := packet_some s op q
  have hl : s.tooLong p op k q ⟨e, [], s.enter op q⟩ = s.tooLong p op k q (Res.err s e) := rfl
  rw [runInsn_body h hp hb (enter_head s op q), hl]
  unfold State.failure
  rw [hp]
  by_cases hx : (s.tooLong p op k q (Res.err s e) && !aboveRange e) = true
  · simp [hx]
  · simp [hx]

/-- A failed instruction answers its status. -/
theorem insn_rejects {s : State} {op k e : Nat} {q : Req} {body : Nat → Bool → State → Res} (h : s.takes op k q)
    (hb : body (s.packetId op q) true (s.enter op q) = Res.err (s.enter op q) e) :
    done s (runInsn op k q s body) = s.rejects op q (s.failure op k q e) := by
  unfold State.rejects State.answer
  rw [runInsn_fails h hb]

/-- A record stores no byte. -/
theorem doneMem_record (s : State) (op e : Nat) (q : Req) (l : List W32) :
    doneMem s ((s.enter op q).record { op := op, status := e, payload := l }) =
      done s ((s.enter op q).record { op := op, status := e, payload := l }) := by
  unfold done doneMem
  congr 1
  have h : ((s.enter op q).record { op := op, status := e, payload := l }).mem = s.mem :=
    (session_record _ _).mem.trans (session_enter _ _ _).mem
  rw [← h]

theorem insn_rejects_mem {s : State} {op k e : Nat} {q : Req} {body : Nat → Bool → State → Res} (h : s.takes op k q)
    (hb : body (s.packetId op q) true (s.enter op q) = Res.err (s.enter op q) e) :
    doneMem s (runInsn op k q s body) = s.rejects op q (s.failure op k q e) := by
  unfold State.rejects State.answer
  rw [runInsn_fails h hb, doneMem_record]

/-- A reserved modifier answers its status. -/
theorem insn_reserved {s : State} {op k e : Nat} {q : Req} {body : Nat → Bool → State → Res} (hc : s.serves op q = true)
    (he : s.executes op = true) (hm : modSel op q.mod = none)
    (hb : body (s.packetId op q) false (s.enter op q) = Res.err (s.enter op q) e) (ht : aboveRange e = true ∨ e = erange) :
    done s (runInsn op k q s body) = s.rejects op q e := by
  unfold State.rejects State.answer
  rw [runInsn_reserved hc he hm hb ht]

theorem insn_reserved_mem {s : State} {op k e : Nat} {q : Req} {body : Nat → Bool → State → Res} (hc : s.serves op q = true)
    (he : s.executes op = true) (hm : modSel op q.mod = none)
    (hb : body (s.packetId op q) false (s.enter op q) = Res.err (s.enter op q) e) (ht : aboveRange e = true ∨ e = erange) :
    doneMem s (runInsn op k q s body) = s.rejects op q e := by
  unfold State.rejects State.answer
  rw [runInsn_reserved hc he hm hb ht, doneMem_record]

/-- An event where its precondition holds, and where it does not. -/
theorem when_true {s t : State} {b : Bool} (h : b = true) : s.when b t = t := by unfold State.when; rw [h]; rfl
theorem when_false {s t : State} {b : Bool} (h : b = false) : s.when b t = s := by unfold State.when; rw [h]; rfl

end Sys2Proof.Machine
end

