-- ==== Sys2Proof/Laws/Kept.lean ====
section
/-! SUPPORT. Laws/Kept.lean: what an instruction's packet does to the state leaves the units as they are (R317, R318). -/

namespace Sys2Proof.Machine

theorem State.unitsKept.refl (s : State) : s.unitsKept s := rfl

theorem State.unitsKept.trans {s t u : State} (h : s.unitsKept t) (g : t.unitsKept u) : s.unitsKept u := by
  unfold State.unitsKept at *
  rw [g, h]

theorem kept_foldl {A : Type} (f : State → A → State) (hf : ∀ (s : State) (a : A), s.unitsKept (f s a)) (l : List A) (s : State) :
    s.unitsKept (l.foldl f s) := by
  induction l generalizing s with
  | nil => exact State.unitsKept.refl s
  | cons a r ih => exact (hf s a).trans (ih (f s a))

theorem kept_ctl (s : State) (c : Ctl) : s.unitsKept { s with ctl := c } := rfl
theorem kept_addWait (s : State) (n : Nat) (w : Wait) : s.unitsKept (s.addWait n w) := rfl
theorem kept_defer (s : State) (n : Nat) (e : Eff) : s.unitsKept (s.defer n e) := rfl
theorem kept_post (s : State) (m : Fin 8) (ws : List W32) (b : Bool) : s.unitsKept (s.post m ws b) := rfl
theorem kept_freeUnits (s : State) (m c n : Nat) : s.unitsKept (s.freeUnits m c n) := rfl

theorem kept_deferEdge (s : State) (n : Nat) (es : List Eff) : s.unitsKept (s.deferEdge n es) := by
  unfold State.deferEdge
  exact (kept_foldl (fun t e => State.defer t n e) (fun t e => kept_defer t n e) es s).trans (kept_addWait _ _ _)

theorem kept_reply (s : State) (p : Pkt) : s.unitsKept (s.reply p) := by
  unfold State.reply
  simp only []
  split <;> first | exact State.unitsKept.refl s | exact kept_post s _ _ _

theorem kept_sent (s : State) (p : Pkt) :
    s.unitsKept (if p.units = 0 then s.reply p else (s.reply p).freeUnits p.m.val p.cls.val p.units) := by
  split
  · exact kept_reply s p
  · exact (kept_reply s p).trans (kept_freeUnits _ _ _ _)

theorem kept_sendDue (l : List Pkt) (s : State) : s.unitsKept (State.sendDue l s) := by
  induction l generalizing s with
  | nil => exact State.unitsKept.refl s
  | cons p r ih =>
    unfold State.sendDue
    split
    · exact ih s
    · refine State.unitsKept.trans (State.unitsKept.trans (kept_sent s p) ?_) (ih _)
      rfl

theorem kept_flushDue (s : State) : s.unitsKept s.flushDue := by
  unfold State.flushDue
  split
  · exact State.unitsKept.refl s
  · exact kept_sendDue _ s

theorem kept_release (s : State) (p : Wait → Bool) : s.unitsKept (s.release p) :=
  State.unitsKept.trans (kept_ctl s _) (kept_flushDue _)

theorem kept_completePacket (s : State) : s.unitsKept s.completePacket := by
  unfold State.completePacket
  split
  · exact State.unitsKept.refl s
  · simp only []
    split
    · exact State.unitsKept.trans (kept_ctl s _) (kept_flushDue _)
    · exact State.unitsKept.trans ((kept_freeUnits s _ _ _).trans (kept_ctl _ _)) (kept_flushDue _)

theorem kept_closeReserved (s : State) : s.unitsKept s.closeReserved := by
  unfold State.closeReserved
  split
  · exact State.unitsKept.refl s
  · split
    · exact State.unitsKept.refl s
    · split
      · exact State.unitsKept.refl s
      · exact State.unitsKept.trans (kept_ctl s _) (kept_completePacket _)

theorem kept_boundary (s : State) : s.unitsKept s.boundary := by
  unfold State.boundary
  refine kept_foldl _ (fun t _ => ?_) _ s
  split
  · exact State.unitsKept.refl t
  · exact kept_closeReserved t

theorem kept_record (s : State) (r : Rec) : s.unitsKept (s.record r) := by
  unfold State.record
  split
  · exact State.unitsKept.refl s
  · simp only []
    refine State.unitsKept.trans ?_ (kept_boundary _)
    split
    · exact kept_ctl s _
    · exact State.unitsKept.trans (kept_ctl s _) (kept_completePacket _)

theorem kept_enter (s : State) (op : Nat) (q : Req) : s.unitsKept (s.enter op q) := by
  unfold State.enter
  simp only []
  split
  · exact State.unitsKept.refl s
  · rfl

/-- An instruction whose body keeps the units keeps them. -/
theorem kept_runInsn (op k : Nat) (q : Req) (s : State) (body : Nat → Bool → State → Res)
    (hb : ∀ (p : Nat) (ok : Bool) (u : State), u.unitsKept (body p ok u).st) : s.unitsKept (runInsn op k q s body) := by
  unfold runInsn
  split
  · exact State.unitsKept.refl s
  · simp only []
    split
    · exact State.unitsKept.refl s
    · rename_i p _ _
      have he := kept_enter s op q
      repeat' split
      · exact he.trans (kept_record _ _)
      · exact he.trans (kept_record _ _)
      · exact he.trans ((hb _ _ _).trans (kept_record _ _))
      · exact he.trans (hb _ _ _)

/-- A checked body keeps the units where its action does. -/
theorem kept_checked (s : State) (cs : List (Bool × Nat)) (act : Unit → Res) (h : s.unitsKept (act ()).st) :
    s.unitsKept (checked s cs act).st := by
  unfold checked
  split
  · exact State.unitsKept.refl s
  · exact h

end Sys2Proof.Machine
end

