-- ==== Sys2Proof/Laws/Memory.lean ====
section
/-! SUPPORT. Laws/Memory.lean: byte memory. mem_f: f leaves byte memory as it is. memWf_f and memOk_f: f stores to byte memory and
keeps its canonical form (log 9). -/

namespace Sys2Proof.Machine

/-- A fold of steps that leave byte memory as it is does too. -/
theorem mem_foldl {A : Type} (f : State → A → State) (h : ∀ s a, (f s a).mem = s.mem) (l : List A) (s : State) :
    (l.foldl f s).mem = s.mem := by
  induction l generalizing s with
  | nil => rfl
  | cons a l ih => rw [List.foldl_cons, ih, h]
/-- A step from s to t that leaves byte memory as it is. -/
def KeepsMem (s t : State) : Prop := t.mem = s.mem
theorem KeepsMem.trans {s t u : State} (h : KeepsMem s t) (g : KeepsMem t u) : KeepsMem s u := Eq.trans g h
theorem KeepsMem.foldl {A : Type} (f : State → A → State) (h : ∀ s a, KeepsMem s (f s a)) (l : List A) (s : State) :
    KeepsMem s (l.foldl f s) := mem_foldl f h l s
theorem KeepsMem.ite {s t u : State} {b : Prop} [Decidable b] (h : KeepsMem s t) (g : KeepsMem s u) :
    KeepsMem s (if b then t else u) := by split <;> assumption
@[simp] theorem mem_Res_err (s : State) (e : Nat) : (Res.err s e).st.mem = s.mem := by
  unfold Res.err
  simp

@[simp] theorem mem_setReg (s : State) (a : Nat) (v : W32) : (s.setReg a v).mem = s.mem := rfl

@[simp] theorem mem_setFld (s : State) (f : Fld) (v : Nat) : (s.setFld f v).mem = s.mem := rfl

@[simp] theorem mem_ueRecord (s : State) (a : Nat) : (State.ueRecord s a).mem = s.mem := by
  unfold State.ueRecord
  split <;> simp

@[simp] theorem mem_Res_fault (s : State) (a : Nat) : (Res.fault s a).st.mem = s.mem := by
  unfold Res.fault
  simp

@[simp] theorem mem_Res_ok (s : State) : (Res.ok s).st.mem = s.mem := by
  unfold Res.ok
  simp

@[simp] theorem mem_Res_okP (s : State) (p : List W32) : (Res.okP s p).st.mem = s.mem := by
  unfold Res.okP
  simp

@[simp] theorem mem_setTask (s : State) (t : Nat) (r : TaskRec) : (State.setTask s t r).mem = s.mem := by
  unfold State.setTask
  simp

@[simp] theorem mem_assignShadow (s : State) (t : Nat) : (State.assignShadow s t).mem = s.mem := by
  unfold State.assignShadow
  simp only []
  (repeat' split) <;> simp

@[simp] theorem mem_setCore (s : State) (c : Nat) (k : Core) : (State.setCore s c k).mem = s.mem := by
  unfold State.setCore
  simp

@[simp] theorem mem_clearMarks (s : State) (a n : Nat) : (State.clearMarks s a n).mem = s.mem := by
  unfold State.clearMarks
  simp

@[simp] theorem mem_setMark (s : State) (a : Nat) (m : Option Mark) : (State.setMark s a m).mem = s.mem := by
  unfold State.setMark
  (repeat' split) <;> simp

@[simp] theorem mem_flip (s : State) : (State.flip s).mem = s.mem := by
  unfold State.flip
  simp only []
  (repeat' split) <;> simp

@[simp] theorem mem_bump (s : State) (f : Fld) : (State.bump s f).mem = s.mem := by
  unfold State.bump
  simp

@[simp] theorem mem_ceRecord (s : State) (a : Nat) : (State.ceRecord s a).mem = s.mem := by
  unfold State.ceRecord
  split <;> simp

@[simp] theorem mem_merge (s : State) (a : Nat) : (State.merge s a).mem = s.mem := by
  unfold State.merge
  split <;> simp

@[simp] theorem mem_validate (s : State) (a n : Nat) : (State.validate s a n).mem = s.mem := by
  unfold State.validate
  (repeat' split) <;> simp

@[simp] theorem mem_wrote (s : State) (a n : Nat) : (State.wrote s a n).mem = s.mem := by
  unfold State.wrote
  simp only []
  (repeat' split) <;> simp

@[simp] theorem mem_emptyBerth (s : State) (c : Nat) (st : Berth) : (State.emptyBerth s c st).mem = s.mem := by
  unfold State.emptyBerth
  simp

@[simp] theorem mem_modCore (s : State) (c : Nat) (f : Core → Core) : (State.modCore s c f).mem = s.mem := by
  unfold State.modCore
  simp

@[simp] theorem mem_clearBerth (s : State) (c : Nat) : (State.clearBerth s c).mem = s.mem := by
  unfold State.clearBerth
  simp

@[simp] theorem mem_post (s : State) (m : Fin 8) (ws : List W32) (notice : Bool) :
    (State.post s m ws notice).mem = s.mem := by
  unfold State.post
  simp

@[simp] theorem mem_noticeTo (s : State) (m : Fin 8) (code : Nat) (payload : List W32) :
    (State.noticeTo s m code payload).mem = s.mem := by
  unfold State.noticeTo
  simp only []
  (repeat' split) <;> simp

@[simp] theorem mem_noticeIf (s : State) (code : Nat) (payload : List W32) (sel : Fin 8 → Bool) :
    (State.noticeIf s code payload sel).mem = s.mem := by
  unfold State.noticeIf
  rw [mem_foldl]
  intro _ _
  simp

@[simp] theorem mem_notice (s : State) (code : Nat) (payload : List W32) : (State.notice s code payload).mem = s.mem := by
  unfold State.notice
  simp

@[simp] theorem mem_ferryNotice (s : State) (event reason task from_ to_ frame gap : Nat) :
    (State.ferryNotice s event reason task from_ to_ frame gap).mem = s.mem := by
  unfold State.ferryNotice
  simp

@[simp] theorem mem_toTesting (s : State) (c : Nat) : (State.toTesting s c).mem = s.mem := by
  unfold State.toTesting
  simp

@[simp] theorem mem_finishMove (s : State) (t : Nat) (test : Bool) : (State.finishMove s t test).mem = s.mem := by
  unfold State.finishMove
  simp only []
  (repeat' split) <;> simp

@[simp] theorem mem_issued (s : State) (c cycle : Nat) (r : CoreRegs) (cost : Nat) :
    (State.issued s c cycle r cost).mem = s.mem := by
  unfold State.issued
  simp

@[simp] theorem mem_progFixed (s : State) (c : Nat) : (State.progFixed s c).mem = s.mem := by
  unfold State.progFixed
  simp

@[simp] theorem mem_progSingle (s : State) (c : Nat) : (State.progSingle s c).mem = s.mem := by
  unfold State.progSingle
  split <;> simp

@[simp] theorem mem_frameCore (s : State) (cycle c : Nat) : (State.frameCore s cycle c).mem = s.mem := by
  unfold State.frameCore
  simp

@[simp] theorem mem_completeTo (s : State) (c n : Nat) : (State.completeTo s c n).mem = s.mem := by
  unfold State.completeTo
  simp

@[simp] theorem mem_alertBit (s : State) (i : Nat) : (State.alertBit s i).mem = s.mem := by
  unfold State.alertBit
  simp

@[simp] theorem mem_faultNotice (s : State) (source cause cls unit task code pc action : Nat) :
    (State.faultNotice s source cause cls unit task code pc action).mem = s.mem := by
  unfold State.faultNotice
  simp

@[simp] theorem mem_modTask (s : State) (t : Nat) (f : TaskRec → TaskRec) : (State.modTask s t f).mem = s.mem := by
  unfold State.modTask
  simp

@[simp] theorem mem_pairCompare (s : State) (c : Nat) (w : DeckWr) : (State.pairCompare s c w).mem = s.mem := by
  unfold State.pairCompare
  (repeat' split) <;> simp

@[simp] theorem mem_draw (s : State) : (State.draw s).2.mem = s.mem := by
  unfold State.draw
  simp

@[simp] theorem mem_eccNotice (s : State) (bank kind master addr index : Nat) :
    (State.eccNotice s bank kind master addr index).mem = s.mem := by
  unfold State.eccNotice
  simp

@[simp] theorem mem_deckScanOne (s : State) (key : Nat) (master : Option Nat) :
    (State.deckScanOne s key master).mem = s.mem := by
  unfold State.deckScanOne
  simp only []
  (repeat' split) <;> simp

@[simp] theorem mem_kerr (s : State) : (State.kerr s).mem = s.mem := by
  unfold State.kerr
  simp

@[simp] theorem mem_dkerr (s : State) (c : Nat) : (State.dkerr s c).mem = s.mem := by
  unfold State.dkerr
  simp

@[simp] theorem mem_pdErr (s : State) (b : Nat) : (State.pdErr s b).mem = s.mem := by
  unfold State.pdErr
  split <;> simp

@[simp] theorem mem_deckFetch (s : State) (c : Nat) (r : DeckRd) : (State.deckFetch s c r).1.mem = s.mem := by
  unfold State.deckFetch
  simp only []
  (repeat' split) <;> simp

@[simp] theorem mem_readsFirst (s : State) (c : Nat) (w : DeckWr) : (State.readsFirst s c w).mem = s.mem := by
  unfold State.readsFirst
  rw [mem_foldl]
  intro _ _
  (repeat' split) <;> simp

@[simp] theorem mem_deckPut (s : State) (slot frame w : Nat) (v : W32) : (State.deckPut s slot frame w v).mem = s.mem := by
  unfold State.deckPut
  split <;> simp

theorem keepsMem_storeWrite (s : State) (c : Nat) (w : DeckWr) (cycle : Nat) : KeepsMem s (s.storeWrite c w cycle) := by
  unfold State.storeWrite
  extract_lets k slot pos lag r key wrote put
  have hw : ∀ (t : State) (l : List Nat) (f : Core → Core), KeepsMem t (l.foldl (fun t x => t.modCore x f) t) :=
    fun t l f => KeepsMem.foldl _ (fun _ _ => mem_modCore _ _ _) l t
  have hp : ∀ u : State, KeepsMem u (put u) := fun u =>
    KeepsMem.trans (t := u.deckPut slot w.frame pos _) (mem_deckPut _ _ _ _ _)
      (KeepsMem.trans (mem_modCore _ _ _) (hw _ _ _))
  clear_value put
  refine KeepsMem.ite (mem_dkerr _ _) (KeepsMem.ite (mem_pdErr _ _)
    (KeepsMem.ite (KeepsMem.ite (mem_kerr _) (mem_dkerr _ _)) ?_))
  cases r.move with
  | none => exact hp _
  | some mv =>
    exact KeepsMem.ite (hp _) (KeepsMem.ite ((hp _).trans (mem_modTask _ _ _)) (KeepsMem.ite rfl (hp _)))
@[simp] theorem mem_storeWrite (s : State) (c : Nat) (w : DeckWr) (cycle : Nat) : (s.storeWrite c w cycle).mem = s.mem :=
  keepsMem_storeWrite s c w cycle

@[simp] theorem mem_drainOne (s : State) (c cycle : Nat) : (State.drainOne s c cycle).mem = s.mem := by
  unfold State.drainOne
  (repeat' split) <;> simp

@[simp] theorem mem_drain (s : State) (c cycle : Nat) : (State.drain s c cycle).mem = s.mem := by
  unfold State.drain
  rw [mem_foldl]
  intro _ _
  simp

@[simp] theorem mem_syncReturn (s : State) (c cycle : Nat) : (State.syncReturn s c cycle).mem = s.mem := by
  unfold State.syncReturn
  simp

@[simp] theorem mem_openBarrier (s : State) (b cycle : Nat) : (State.openBarrier s b cycle).mem = s.mem := by
  unfold State.openBarrier
  repeat'
    first
    | with_reducible rfl
    | simp only []
    | split
    | (simp; done)
    | rw [mem_foldl]
    | intro _ _
    | simp

@[simp] theorem mem_deckScan (s : State) (slot frame : Nat) (master : Option Nat) :
    (State.deckScan s slot frame master).mem = s.mem := by
  unfold State.deckScan
  repeat'
    first
    | with_reducible rfl
    | simp only []
    | split
    | (simp; done)
    | rw [mem_foldl]
    | intro _ _
    | simp

@[simp] theorem mem_xmStart (s : State) (phase : Nat) (stage2 : Bool) : (State.xmStart s phase stage2).mem = s.mem := by
  unfold State.xmStart
  repeat'
    first
    | with_reducible rfl
    | simp only []
    | split
    | (simp; done)
    | rw [mem_foldl]
    | intro _ _
    | simp

@[simp] theorem mem_startUnit (s : State) (q : PhUnit → Bool) (cycle : Nat) : (State.startUnit s q cycle).mem = s.mem := by
  unfold State.startUnit
  (repeat' split) <;> simp

@[simp] theorem mem_advanceFrom (n cycle : Nat) (s : State) : (State.advanceFrom n cycle s).mem = s.mem := by
  induction n generalizing s with
  | zero => rfl
  | succ n ih =>
    unfold State.advanceFrom
    simp only []
    split
    · rw [ih]; simp
    · simp

@[simp] theorem mem_advance (s : State) (cycle : Nat) : (s.advance cycle).mem = s.mem := mem_advanceFrom _ _ _

@[simp] theorem mem_frameTask (s : State) (cycle c : Nat) : (State.frameTask s cycle c).mem = s.mem := by
  unfold State.frameTask
  simp only []
  (repeat' split) <;> simp

@[simp] theorem mem_assignAll (s : State) : (State.assignAll s).mem = s.mem := by
  unfold State.assignAll
  rw [mem_foldl]
  intro _ _
  (repeat' split) <;> simp

@[simp] theorem mem_fillPayload (s : State) (t frame : Nat) : (State.fillPayload s t frame).mem = s.mem := by
  unfold State.fillPayload
  simp

@[simp] theorem mem_fillFree (s : State) (t : Nat) : (State.fillFree s t).mem = s.mem := by
  unfold State.fillFree
  simp

@[simp] theorem mem_setQueue (s : State) (m c : Nat) (q : LandQ) : (State.setQueue s m c q).mem = s.mem := by
  unfold State.setQueue
  simp

@[simp] theorem mem_freeUnits (s : State) (m c units : Nat) : (State.freeUnits s m c units).mem = s.mem := by
  unfold State.freeUnits
  simp

@[simp] theorem mem_reply (s : State) (p : Pkt) : (State.reply s p).mem = s.mem := by
  unfold State.reply
  simp only []
  (repeat' split) <;> simp

@[simp] theorem mem_sendDue (l : List Pkt) (s : State) : (State.sendDue l s).mem = s.mem := (session_sendDue l s).mem

@[simp] theorem mem_flushDue (s : State) : s.flushDue.mem = s.mem := (session_flushDue s).mem

@[simp] theorem mem_release (s : State) (p : Wait → Bool) : (State.release s p).mem = s.mem := by
  unfold State.release
  simp

@[simp] theorem mem_cancelReply (s : State) (t : Nat) : (State.cancelReply s t).mem = s.mem := by
  unfold State.cancelReply
  simp

@[simp] theorem mem_cancelMove (s : State) (t reason : Nat) : (State.cancelMove s t reason).mem = s.mem := by
  unfold State.cancelMove
  simp only []
  (repeat' split) <;> simp

@[simp] theorem mem_leavePair (s : State) (c : Nat) : (State.leavePair s c).mem = s.mem := by
  unfold State.leavePair
  simp only []
  (repeat' split) <;> simp

@[simp] theorem mem_moveMasks (s : State) (a b : Nat) : (State.moveMasks s a b).mem = s.mem := by
  unfold State.moveMasks
  simp

@[simp] theorem mem_addPatch (s : State) (p : Patch) : (State.addPatch s p).mem = s.mem := by
  unfold State.addPatch
  split <;> simp

@[simp] theorem mem_dropJobs (s : State) (t : Nat) : (State.dropJobs s t).mem = s.mem := by
  unfold State.dropJobs
  simp

@[simp] theorem mem_loseSpare (s : State) (b keep : Nat) : (State.loseSpare s b keep).mem = s.mem := by
  unfold State.loseSpare
  repeat'
    first
    | with_reducible rfl
    | simp only []
    | split
    | (simp; done)
    | rw [mem_foldl]
    | intro _ _
    | simp

@[simp] theorem mem_ferryTakes (s : State) (j : FerryJob) : (State.ferryTakes s j).mem = s.mem := by
  unfold State.ferryTakes
  simp

@[simp] theorem mem_putPast (s : State) (fade : Bool) (frame : Nat) (e : Nat × Nat) :
    (State.putPast s fade frame e).mem = s.mem := by
  unfold State.putPast
  simp

@[simp] theorem mem_fadeInto (s : State) (frame : Nat) (slots : List Nat) :
    (State.fadeInto s frame slots).mem = s.mem := by
  unfold State.fadeInto
  rw [mem_foldl]
  intro _ _
  simp

@[simp] theorem mem_stopFerry (s : State) (j : FerryJob) (reason inc : Nat) :
    (State.stopFerry s j reason inc).mem = s.mem := by
  unfold State.stopFerry
  (repeat' split) <;> simp

@[simp] theorem mem_nextFerryFrom (n : Nat) (s : State) : (State.nextFerryFrom n s).mem = s.mem := by
  induction n generalizing s with
  | zero => rfl
  | succ n ih =>
    unfold State.nextFerryFrom
    split
    · rfl
    · simp only []
      split
      · rfl
      · split
        · simp
        · rw [ih]; simp

@[simp] theorem mem_nextFerry (s : State) : (State.nextFerry s).mem = s.mem := by
  unfold State.nextFerry
  simp

@[simp] theorem mem_recordFault (s : State) (c cause cls code : Nat) :
    (State.recordFault s c cause cls code).mem = s.mem := by
  unfold State.recordFault
  (repeat' split) <;> simp

@[simp] theorem mem_taskFault (s : State) (c cause code : Nat) : (State.taskFault s c cause code).mem = s.mem := by
  unfold State.taskFault
  simp only []
  (repeat' split) <;> simp

@[simp] theorem mem_tellFault (s : State) (c cause cls code action : Nat) :
    (State.tellFault s c cause cls code action).mem = s.mem := by
  unfold State.tellFault
  simp

theorem keepsMem_coreFault (s : State) (c cause code : Nat) : KeepsMem s (s.coreFault c cause code) := by
  unfold State.coreFault
  extract_lets k t r cls paired planned s0 s1 lead
  refine KeepsMem.ite rfl (KeepsMem.ite ?_ ?_)
  · have hp : KeepsMem s (if planned = true then s.cancelMove t 1 else s) := KeepsMem.ite (mem_cancelMove _ _ _) rfl
    exact hp.trans (KeepsMem.trans (mem_tellFault _ _ _ _ _ _) (mem_leavePair _ _))
  · have h0 : KeepsMem s s0 := by
      refine KeepsMem.ite ?_ rfl
      cases r.partner with
      | none => exact rfl
      | some p => exact mem_clearBerth _ _
    have h1 : KeepsMem s s1 := KeepsMem.ite (h0.trans (mem_modTask _ _ _)) h0
    clear_value s1
    refine h1.trans ?_
    split
    · exact mem_taskFault _ _ _ _
    · rename_i mv _
      refine KeepsMem.ite ?_ (KeepsMem.ite ?_ (KeepsMem.ite ?_ ?_))
      · exact KeepsMem.trans (mem_cancelMove _ _ _) (mem_taskFault _ _ _ _)
      · exact KeepsMem.trans (KeepsMem.trans (t := s1.tellFault c cause cls code 6) (mem_tellFault _ _ _ _ _ _) (mem_drain _ _ _))
          (mem_finishMove _ _ _)
      · extract_lets s2 s3
        have h2 : KeepsMem s1 s2 :=
          KeepsMem.trans (t := s1.tellFault c cause cls code 6) (mem_tellFault _ _ _ _ _ _) (mem_modTask _ _ _)
        have h3 : KeepsMem s2 s3 :=
          KeepsMem.trans (KeepsMem.trans (mem_moveMasks _ _ _) (mem_toTesting _ _)) (mem_setFld _ _ _)
        exact (h2.trans h3).trans (KeepsMem.trans (mem_assignShadow _ _) (mem_ferryNotice _ _ _ _ _ _ _ _))
      · exact KeepsMem.trans (mem_finishMove _ _ _) (mem_taskFault _ _ _ _)
@[simp] theorem mem_coreFault (s : State) (c cause code : Nat) : (s.coreFault c cause code).mem = s.mem :=
  keepsMem_coreFault s c cause code

theorem mem_issueAll (s : State) (ms : List Nat) (fault : State → Nat → Option (Nat × Nat)) (act : State → Nat → State)
    (h : ∀ t c, KeepsMem t (act t c)) : KeepsMem s (s.issueAll ms fault act) := by
  have hf : ∀ (l : List Nat) (u : State), KeepsMem u (l.foldl (fun t c => match fault s c with
      | some f => t.coreFault c f.1 f.2
      | none => if (t.core c).state == .active then act t c else t) u) := by
    intro l u
    refine KeepsMem.foldl _ (fun t c => ?_) _ _
    cases fault s c with
    | some f => exact mem_coreFault _ _ _ _
    | none => exact KeepsMem.ite (h _ _) rfl
  unfold State.issueAll
  extract_lets both
  clear_value both
  match ms, both with
  | [_, _], true => exact (KeepsMem.trans (mem_clearBerth _ _) (mem_modTask _ _ _) : KeepsMem s _).trans (mem_coreFault _ _ _ _)
  | [], _ => exact hf _ _
  | [_], _ => exact hf _ _
  | [_, _], false => exact hf _ _
  | _ :: _ :: _ :: _, _ => exact hf _ _

@[simp] theorem mem_frame (s : State) (c cycle : Nat) : (s.frame c cycle).mem = s.mem := by
  show KeepsMem s _
  unfold State.frame
  extract_lets ms lead t
  refine KeepsMem.ite (KeepsMem.ite (mem_finishMove _ _ _) ?_) rfl
  exact (mem_issueAll _ _ _ _ (fun _ _ => mem_frameCore _ _ _)).trans (KeepsMem.foldl _ (fun _ _ => mem_frameTask _ _ _) _ _)

@[simp] theorem mem_deferFlag (s : State) (frame : Nat) : (State.deferFlag s frame).mem = s.mem := by
  unfold State.deferFlag
  simp

@[simp] theorem mem_setRef (s : State) (i st : Nat) : (State.setRef s i st).mem = s.mem := by
  unfold State.setRef
  simp

@[simp] theorem mem_refJudge (s : State) (i : Nat) : (State.refJudge s i).mem = s.mem := by
  unfold State.refJudge
  simp only []
  (repeat' split) <;> simp

@[simp] theorem mem_refApply (s : State) (regs : SMap W32) : (State.refApply s regs).mem = s.mem := by
  unfold State.refApply
  repeat'
    first
    | with_reducible rfl
    | simp only []
    | split
    | (simp; done)
    | rw [mem_foldl]
    | intro _ _
    | simp

@[simp] theorem mem_refWaited (s : State) : (State.refWaited s).mem = s.mem := by
  unfold State.refWaited
  split <;> simp

@[simp] theorem mem_selMove (s : State) (st input cause : Nat) : (State.selMove s st input cause).mem = s.mem := by
  unfold State.selMove
  simp

@[simp] theorem mem_selHoldover (s : State) (cause : Nat) : (State.selHoldover s cause).mem = s.mem := by
  unfold State.selHoldover
  simp

@[simp] theorem mem_selIdle (s : State) (cause : Nat) : (State.selIdle s cause).mem = s.mem := by
  unfold State.selIdle
  repeat'
    first
    | with_reducible rfl
    | simp only []
    | split
    | (simp; done)
    | rw [mem_foldl]
    | intro _ _
    | simp

@[simp] theorem mem_abandonSwitch (s : State) : (State.abandonSwitch s).mem = s.mem := by
  unfold State.abandonSwitch
  split <;> simp

@[simp] theorem mem_activate (s : State) (frame : Nat) : (State.activate s frame).mem = s.mem := by
  unfold State.activate
  (repeat' split) <;> simp

@[simp] theorem mem_addWait (s : State) (pid : Nat) (w : Wait) : (State.addWait s pid w).mem = s.mem := by
  unfold State.addWait
  simp

@[simp] theorem mem_mapZones (s : State) (first last : Nat) (f : Zone → Zone) :
    (State.mapZones s first last f).mem = s.mem := by
  unfold State.mapZones
  simp

@[simp] theorem mem_alarmZones (s : State) (m first last : Nat) (on : Bool) :
    (State.alarmZones s m first last on).mem = s.mem := by
  unfold State.alarmZones
  simp

@[simp] theorem mem_alarmEdge (s : State) (a : PendAlarm) : (State.alarmEdge s a).mem = s.mem := by
  unfold State.alarmEdge
  split <;> simp

@[simp] theorem mem_alarmsReady (s : State) : (State.alarmsReady s).mem = s.mem := by
  unfold State.alarmsReady
  repeat'
    first
    | with_reducible rfl
    | simp only []
    | split
    | (simp; done)
    | rw [mem_foldl]
    | intro _ _
    | simp

@[simp] theorem mem_badHdr (s : State) : (State.badHdr s).mem = s.mem := by
  unfold State.badHdr
  simp

@[simp] theorem mem_flushCheck (s : State) : (State.flushCheck s).mem = s.mem := by
  unfold State.flushCheck
  simp

@[simp] theorem mem_violate (s : State) (m : Fin 8) (c : Nat) (seq : W16) : (State.violate s m c seq).mem = s.mem := by
  unfold State.violate
  simp

theorem mem_checked (s : State) (cs : List (Bool × Nat)) (act : Unit → Res) (h : (act ()).st.mem = s.mem) :
    (checked s cs act).st.mem = s.mem := by
  unfold checked; split
  · rfl
  · exact h

@[simp] theorem mem_stray (s : State) : (State.stray s).mem = s.mem := by
  unfold State.stray
  simp

@[simp] theorem mem_claimZones (s : State) (m first last prio : Nat) :
    (State.claimZones s m first last prio).mem = s.mem := by
  unfold State.claimZones
  simp

@[simp] theorem mem_setScene (s : State) (g : Nat) (x : Scene) : (State.setScene s g x).mem = s.mem := by
  unfold State.setScene
  simp

@[simp] theorem mem_modScene (s : State) (g : Nat) (f : Scene → Scene) : (State.modScene s g f).mem = s.mem := by
  unfold State.modScene
  simp

@[simp] theorem mem_turnDone (s : State) (g issuer result start xpts sections pages len : Nat) :
    (State.turnDone s g issuer result start xpts sections pages len).mem = s.mem := by
  unfold State.turnDone
  simp

@[simp] theorem mem_armedDone (s : State) (g : Nat) (a : Armed) (result : Nat) :
    (State.armedDone s g a result).mem = s.mem := by
  unfold State.armedDone
  simp

@[simp] theorem mem_wroteAll (s : State) (l : List (Nat × Nat)) : (State.wroteAll s l).mem = s.mem := by
  unfold State.wroteAll
  rw [mem_foldl]
  intro _ _
  (repeat' split) <;> simp

@[simp] theorem mem_putPages (s : State) (f : Mems → Mems) (l : List (Nat × Nat)) (c : Nat) :
    (State.putPages s f l c).mem = s.mem := by
  unfold State.putPages
  simp

@[simp] theorem mem_dropBerth (s : State) (c : Nat) : (State.dropBerth s c).mem = s.mem := by
  unfold State.dropBerth
  simp

@[simp] theorem mem_fixSingles (s : State) (a n : Nat) : (State.fixSingles s a n).mem = s.mem := by
  unfold State.fixSingles
  repeat'
    first
    | with_reducible rfl
    | simp only []
    | split
    | (simp; done)
    | rw [mem_foldl]
    | intro _ _
    | simp

@[simp] theorem mem_pnLose (s : State) (n : Nat) : (State.pnLose s n).mem = s.mem := by
  unfold State.pnLose
  split <;> simp

@[simp] theorem mem_storeSection (s : State) (n : Nat) (r : Section) : (State.storeSection s n r).mem = s.mem := by
  unfold State.storeSection
  simp

@[simp] theorem mem_setSection (s : State) (n : Nat) (r : Section) : (State.setSection s n r).mem = s.mem := by
  unfold State.setSection
  split <;> simp

@[simp] theorem mem_editSection (s : State) (n : Nat) (f : Section → Section) : (State.editSection s n f).mem = s.mem := by
  unfold State.editSection
  simp only []
  (repeat' split) <;> simp

@[simp] theorem mem_mapSections (s : State) (f : Nat → Section → Section) : (State.mapSections s f).mem = s.mem := by
  unfold State.mapSections
  rw [mem_foldl]
  intro _ _
  simp

@[simp] theorem mem_pnDrop (s : State) (p : Nat → Bool) : (State.pnDrop s p).mem = s.mem := by
  unfold State.pnDrop
  simp

@[simp] theorem mem_storeXm (s : State) (key : Nat) (e : XmEntry) : (State.storeXm s key e).mem = s.mem := by
  unfold State.storeXm
  simp

@[simp] theorem mem_setXm (s : State) (key : Nat) (e : XmEntry) : (State.setXm s key e).mem = s.mem := by
  unfold State.setXm
  split <;> simp

@[simp] theorem mem_xmHeal (s : State) (key : Nat) : (State.xmHeal s key).mem = s.mem := by
  unfold State.xmHeal
  simp

@[simp] theorem mem_xmTouch (s : State) (key : Nat) : (State.xmTouch s key).mem = s.mem := by
  unfold State.xmTouch
  simp only []
  (repeat' split) <;> simp

@[simp] theorem mem_xmEdit (s : State) (key : Nat) (f : XmEntry → XmEntry) : (State.xmEdit s key f).mem = s.mem := by
  unfold State.xmEdit
  simp

@[simp] theorem mem_xmDrop (s : State) (p : Nat → Bool) : (State.xmDrop s p).mem = s.mem := by
  unfold State.xmDrop
  rw [mem_foldl]
  intro _ _
  simp

@[simp] theorem mem_dropPending (s : State) (p : Nat → Bool) : (State.dropPending s p).mem = s.mem := by
  unfold State.dropPending
  repeat'
    first
    | with_reducible rfl
    | simp only []
    | split
    | (simp; done)
    | rw [mem_foldl]
    | intro _ _
    | simp

@[simp] theorem mem_dropGroup (s : State) (g : Nat) (hit : Option Armed) : (State.dropGroup s g hit).mem = s.mem := by
  unfold State.dropGroup
  simp only []
  (repeat' split) <;> simp

@[simp] theorem mem_healSection (s : State) (n : Nat) : (State.healSection s n).mem = s.mem := by
  unfold State.healSection
  split <;> simp

@[simp] theorem mem_onPages (s : State) (t : Nat) (f : Mems → Mems) (l : List (Nat × Nat)) :
    (State.onPages s t f l).mem = s.mem := by
  unfold State.onPages
  rw [mem_foldl]
  intro _ _
  simp

@[simp] theorem mem_deckClearSlot (s : State) (slot : Nat) : (State.deckClearSlot s slot).mem = s.mem := by
  unfold State.deckClearSlot
  simp

@[simp] theorem mem_setKind (s : State) (slot : Nat) (k : SlotKind) : (State.setKind s slot k).mem = s.mem := by
  unfold State.setKind
  split <;> simp

@[simp] theorem mem_setKinds (s : State) (a n : Nat) (k : SlotKind) : (s.setKinds a n k).mem = s.mem := by
  induction n generalizing s a with
  | zero => rfl
  | succ n ih => unfold State.setKinds; rw [ih, mem_setKind]

@[simp] theorem mem_sosApply (s : State) (n : Nat) (glide clr : Bool) (g : Nat) (bq : Biquad) (later : Bool) :
    (State.sosApply s n glide clr g bq later).mem = s.mem := by
  unfold State.sosApply
  simp

@[simp] theorem mem_storeSpan (s : State) (n : Nat) (d : Option Span) : (State.storeSpan s n d).mem = s.mem := by
  unfold State.storeSpan
  simp

@[simp] theorem mem_putSpan (s : State) (n : Nat) (d : Option Span) : (State.putSpan s n d).mem = s.mem := by
  unfold State.putSpan
  split <;> simp

@[simp] theorem mem_spanApply (s : State) (n : Nat) (d : Option Span) : (s.spanApply n d).mem = s.mem := by
  unfold State.spanApply
  split
  · simp
  · rename_i d
    extract_lets was u
    have h : KeepsMem s u := KeepsMem.foldl _ (fun t i => by
      show KeepsMem t (if _ then _ else _)
      exact KeepsMem.ite rfl (mem_editSection _ _ _)) _ _
    exact h.trans (mem_putSpan _ _ _)

@[simp] theorem mem_unclaim (s : State) (m : Nat) : (State.unclaim s m).mem = s.mem := by
  unfold State.unclaim
  simp

@[simp] theorem mem_applyWait (s : State) (w : ChanWait) : (State.applyWait s w).mem = s.mem := by
  unfold State.applyWait
  simp

@[simp] theorem mem_waitStart (s : State) (out : Bool) (chan : Nat) : (State.waitStart s out chan).mem = s.mem := by
  unfold State.waitStart
  simp only []
  (repeat' split) <;> simp

@[simp] theorem mem_xmBlock (s : State) (stage2 : Bool) (src dst nsrc ndst : Nat) (gains : List W24) (f : XmEntry → W24 → XmEntry) :
    (State.xmBlock s stage2 src dst nsrc ndst gains f).mem = s.mem := by
  unfold State.xmBlock
  rw [mem_foldl]
  intro _ _
  simp

@[simp] theorem mem_xmMode (s : State) (cfg : W32) : (State.xmMode s cfg).mem = s.mem := by
  unfold State.xmMode
  simp only []
  (repeat' split) <;> simp

@[simp] theorem mem_applyEff (s : State) (e : Eff) : (s.applyEff e).mem = s.mem := by
  unfold State.applyEff
  split <;> simp

@[simp] theorem mem_applyAll (s : State) : (State.applyAll s).mem = s.mem := by
  unfold State.applyAll
  rw [mem_foldl]
  intro _ _
  simp

@[simp] theorem mem_armTask (s : State) (t k : Nat) (ws : List W32) (rs : List (Nat × Nat)) :
    (State.armTask s t k ws rs).mem = s.mem := by
  unfold State.armTask
  simp

@[simp] theorem mem_setAsrc (s : State) (n st : Nat) : (State.setAsrc s n st).mem = s.mem := by
  unfold State.setAsrc
  simp

@[simp] theorem mem_asrcInput (s : State) (kind n : Nat) (up : Bool) : (State.asrcInput s kind n up).mem = s.mem := by
  unfold State.asrcInput
  repeat'
    first
    | with_reducible rfl
    | simp only []
    | split
    | (simp; done)
    | rw [mem_foldl]
    | intro _ _
    | simp

@[simp] theorem mem_fusesLoad (s : State) (b : Nat) : (State.fusesLoad s b).mem = s.mem := by
  unfold State.fusesLoad
  simp

@[simp] theorem mem_bankKept (s : State) (failed : Bool) : (State.bankKept s failed).mem = s.mem := by
  unfold State.bankKept
  split <;> simp

@[simp] theorem mem_fillMarks (s : State) (b : Nat) : (State.fillMarks s b).mem = s.mem := by
  unfold State.fillMarks
  simp

@[simp] theorem mem_bootStart (s : State) : (State.bootStart s).mem = s.mem := by
  unfold State.bootStart
  split <;> simp

@[simp] theorem mem_engineDone (s : State) : (State.engineDone s).mem = s.mem := by
  unfold State.engineDone
  split <;> simp

@[simp] theorem mem_setReady (s : State) (fs : List Fld) : (s.setReady fs).mem = s.mem := (session_setReady s fs).mem

@[simp] theorem mem_bringUp (s : State) : (State.bringUp s).mem = s.mem := by
  unfold State.bringUp
  split <;> simp

@[simp] theorem mem_repair (s : State) (b : Nat) (f : SubFail) : (State.repair s b f).mem = s.mem := by
  unfold State.repair
  simp only []
  (repeat' split) <;> simp

theorem mem_repairs (b : Nat) (l : List SubFail) (x : State × Bool) :
    (l.foldl (fun (x : State × Bool) f => (x.1.repair b f, x.2 && x.1.covers b f)) x).1.mem = x.1.mem := by
  induction l generalizing x with
  | nil => rfl
  | cons f r ih => rw [List.foldl_cons, ih, mem_repair]
@[simp] theorem mem_marched (s : State) (b : Nat) (fails : List SubFail) : (State.marched s b fails).1.mem = s.mem := by
  unfold State.marched
  simp only [mem_setFld, mem_repairs]

@[simp] theorem mem_softDrop (s : State) (b : Nat) : (State.softDrop s b).mem = s.mem := by
  unfold State.softDrop
  simp

@[simp] theorem mem_cancelUpdate (s : State) (t reason : Nat) : (State.cancelUpdate s t reason).mem = s.mem := by
  unfold State.cancelUpdate
  simp only []
  (repeat' split) <;> simp

@[simp] theorem mem_defer (s : State) (pid : Nat) (e : Eff) : (State.defer s pid e).mem = s.mem := by
  unfold State.defer
  simp

@[simp] theorem mem_dropPackets (s : State) (m : Fin 8) : (State.dropPackets s m).mem = s.mem := by
  unfold State.dropPackets
  simp

@[simp] theorem mem_dropQuay (s : State) (p : QuayIn → Bool) : (State.dropQuay s p).mem = s.mem := by
  unfold State.dropQuay
  simp

@[simp] theorem mem_resetTurns (s : State) (g : Nat) : (State.resetTurns s g).mem = s.mem := by
  unfold State.resetTurns
  repeat'
    first
    | with_reducible rfl
    | simp only []
    | split
    | (simp; done)
    | rw [mem_foldl]
    | intro _ _
    | simp

@[simp] theorem mem_sceneMooring (s : State) (p : Nat → Bool) : (State.sceneMooring s p).mem = s.mem := by
  unfold State.sceneMooring
  repeat'
    first
    | with_reducible rfl
    | simp only []
    | split
    | (simp; done)
    | rw [mem_foldl]
    | intro _ _
    | simp

@[simp] theorem mem_mooringReset (s : State) (m : Fin 8) : (State.mooringReset s m).mem = s.mem := by
  unfold State.mooringReset
  repeat'
    first
    | with_reducible rfl
    | simp only []
    | split
    | (simp; done)
    | rw [mem_foldl]
    | intro _ _
    | simp

@[simp] theorem mem_bindWrite (s : State) (m : Fin 8) (v : W32) : (State.bindWrite s m v).mem = s.mem := by
  unfold State.bindWrite
  simp only []
  (repeat' split) <;> simp

@[simp] theorem mem_clearReady (s : State) (fs : List Fld) : (State.clearReady s fs).mem = s.mem := by
  unfold State.clearReady
  rw [mem_foldl]
  intro _ _
  simp

@[simp] theorem mem_eccTestWrite (s : State) (v : W32) : (State.eccTestWrite s v).mem = s.mem := by
  unfold State.eccTestWrite
  simp only []
  (repeat' split) <;> simp

@[simp] theorem mem_kick (s : State) (v : W32) : (State.kick s v).mem = s.mem := by
  unfold State.kick
  split <;> simp

@[simp] theorem mem_setOut (s : State) (ch : Nat) (o : OutCh) : (State.setOut s ch o).mem = s.mem := by
  unfold State.setOut
  simp

@[simp] theorem mem_modOut (s : State) (ch : Nat) (f : OutCh → OutCh) : (State.modOut s ch f).mem = s.mem := by
  unfold State.modOut
  simp

@[simp] theorem mem_limWrite (s : State) (n : Nat) (v : W32) : (State.limWrite s n v).mem = s.mem := by
  unfold State.limWrite
  simp

@[simp] theorem mem_queueWrite (s : State) (m c : Nat) (v : W32) : (State.queueWrite s m c v).mem = s.mem := by
  unfold State.queueWrite
  simp only []
  (repeat' split) <;> simp

@[simp] theorem mem_writeOwn (s : State) (off : Nat) (v : W32) : (State.writeOwn s off v).mem = s.mem := by
  unfold State.writeOwn
  simp

@[simp] theorem mem_writeReg (s : State) (a : Nat) (v : W32) (bar : Bool) : (s.writeReg a v bar).mem = s.mem := by
  show KeepsMem s _
  unfold State.writeReg
  refine KeepsMem.ite (mem_writeOwn _ _ _) (KeepsMem.ite rfl ?_)
  split
  · exact rfl
  · rename_i r i j _
    extract_lets new t f u hit
    have hs : ∀ x, KeepsMem s (s.setReg a x) := fun x => mem_setReg _ _ _
    refine KeepsMem.ite ?_ (KeepsMem.ite (mem_queueWrite _ _ _ _) (KeepsMem.ite (mem_limWrite _ _ _) (KeepsMem.ite (mem_eccTestWrite _ _)
      (KeepsMem.ite (KeepsMem.ite rfl (hs _)) (KeepsMem.ite (KeepsMem.ite (hs _) rfl) (KeepsMem.ite ((hs _).trans (mem_kick _ _))
      (KeepsMem.ite ?_ (KeepsMem.ite (hs _) (KeepsMem.ite (hs _) (KeepsMem.ite ?_ (KeepsMem.ite ?_ (hs _))))))))))))
    · split
      · exact mem_bindWrite _ _ _
      · exact rfl
    · exact KeepsMem.ite (hs _) ((hs _).trans (mem_setFld _ _ _))
    · exact KeepsMem.ite ((hs _).trans (mem_bringUp _)) ((hs _).trans (mem_clearReady _ _))
    · exact (hs _).trans (KeepsMem.foldl _ (fun _ _ => KeepsMem.foldl _ (fun _ _ => mem_editSection _ _ _) _ _) _ _)

@[simp] theorem mem_berthsBack (s : State) (d : Nat) : (State.berthsBack s d).mem = s.mem := by
  unfold State.berthsBack
  rw [mem_foldl]
  intro _ _
  (repeat' split) <;> simp

@[simp] theorem mem_berthsReset (s : State) : (State.berthsReset s).mem = s.mem := by
  unfold State.berthsReset
  rw [mem_foldl]
  intro _ _
  simp

@[simp] theorem mem_bindBlock (s : State) (body : List W32) (off : Nat) : (State.bindBlock s body off).mem = s.mem := by
  unfold State.bindBlock
  repeat'
    first
    | with_reducible rfl
    | simp only []
    | split
    | (simp; done)
    | rw [mem_foldl]
    | intro _ _
    | simp

@[simp] theorem mem_selNone (s : State) (cause : Nat) : (State.selNone s cause).mem = s.mem := by
  unfold State.selNone
  simp only []
  (repeat' split) <;> simp

@[simp] theorem mem_endSwitch (s : State) (cause : Nat) : (State.endSwitch s cause).mem = s.mem := by
  unfold State.endSwitch
  simp only []
  (repeat' split) <;> simp

@[simp] theorem mem_selDecide (s : State) (why : Option Nat) : (State.selDecide s why).mem = s.mem := by
  unfold State.selDecide
  simp only []
  (repeat' split) <;> simp

@[simp] theorem mem_romStop (s : State) (a : Nat) : (State.romStop s a).mem = s.mem := by
  unfold State.romStop
  simp

@[simp] theorem mem_completePacket (s : State) : (State.completePacket s).mem = s.mem := by
  unfold State.completePacket
  (repeat' split) <;> simp

@[simp] theorem mem_closeReserved (s : State) : (State.closeReserved s).mem = s.mem := by
  unfold State.closeReserved
  (repeat' split) <;> simp

@[simp] theorem mem_boundary (s : State) : (State.boundary s).mem = s.mem := by
  unfold State.boundary
  rw [mem_foldl]
  intro _ _
  (repeat' split) <;> simp

@[simp] theorem mem_bumpBy (s : State) (f : Fld) (n : Nat) : (State.bumpBy s f n).mem = s.mem := by
  unfold State.bumpBy
  simp

@[simp] theorem mem_cancelTurn (s : State) (g result : Nat) : (State.cancelTurn s g result).mem = s.mem := by
  unfold State.cancelTurn
  split <;> simp

@[simp] theorem mem_recDrop (s : State) (r : RecLine) : (State.recDrop s r).mem = s.mem := by
  unfold State.recDrop
  simp

@[simp] theorem mem_dramUe (s : State) (a port : Nat) : (State.dramUe s a port).mem = s.mem := by
  unfold State.dramUe
  simp

@[simp] theorem mem_dramScan (s : State) (a n port : Nat) : (State.dramScan s a n port).mem = s.mem := by
  unfold State.dramScan
  repeat'
    first
    | with_reducible rfl
    | simp only []
    | split
    | (simp; done)
    | rw [mem_foldl]
    | intro _ _
    | simp

@[simp] theorem mem_capTake (s : State) (m : Nat) : (State.capTake s m).mem = s.mem := by
  unfold State.capTake
  repeat'
    first
    | with_reducible rfl
    | simp only []
    | split
    | (simp; done)
    | rw [mem_foldl]
    | intro _ _
    | simp

@[simp] theorem mem_clearPeaks (s : State) (m : Fin 8) (first n : Nat) : (State.clearPeaks s m first n).mem = s.mem := by
  unfold State.clearPeaks
  simp

@[simp] theorem mem_clearRc (s : State) (a : Nat) : (State.clearRc s a).mem = s.mem := by
  unfold State.clearRc
  (repeat' split) <;> simp

@[simp] theorem mem_clkFail (s : State) (source domain meas : Nat) : (State.clkFail s source domain meas).mem = s.mem := by
  unfold State.clkFail
  simp

@[simp] theorem mem_invalidate (s : State) (a n : Nat) : (State.invalidate s a n).mem = s.mem := by
  unfold State.invalidate
  (repeat' split) <;> simp

@[simp] theorem mem_stopPacket (s : State) (p : Pkt) : (State.stopPacket s p).mem = s.mem := by
  unfold State.stopPacket
  simp

@[simp] theorem mem_latch (s : State) (a : Nat) : (State.latch s a).mem = s.mem := by
  unfold State.latch
  (repeat' split) <;> simp

@[simp] theorem mem_readReg (s : State) (a : Nat) : (State.readReg s a).2.mem = s.mem := by
  unfold State.readReg
  (repeat' split) <;> simp

@[simp] theorem mem_show (s : State) (l : List W32) : (State.show s l).mem = s.mem := by
  unfold State.show
  simp

@[simp] theorem mem_stored (s : State) (a : Nat) : (State.stored s a).2.2.mem = s.mem := by
  unfold State.stored
  simp only []
  (repeat' split) <;> simp

@[simp] theorem mem_streamPut (s : State) (a : Nat) (w : W32) : (State.streamPut s a w).mem = s.mem := by
  unfold State.streamPut
  simp

@[simp] theorem mem_wroteRange (s : State) (a n : Nat) : (State.wroteRange s a n).mem = s.mem := by
  unfold State.wroteRange
  simp only []
  (repeat' split) <;> simp

@[simp] theorem mem_fuseRegs (s : State) : (State.fuseRegs s).mem = s.mem := by
  unfold State.fuseRegs
  simp

@[simp] theorem mem_outside (s t : State) : (s.outside t).mem = t.mem := rfl

@[simp] theorem mem_when (s : State) (b : Bool) (t : State) : (s.when b t).mem = if b then t.mem else s.mem := by
  unfold State.when; split <;> rfl

@[simp] theorem mem_setPd (s : State) (p v : Nat) : (State.setPd s p v).mem = s.mem := by
  unfold State.setPd
  simp

@[simp] theorem mem_setPds (s : State) (v : Nat) : (State.setPds s v).mem = s.mem := by
  unfold State.setPds
  simp

@[simp] theorem mem_muteAll (s : State) : (State.muteAll s).mem = s.mem := by
  unfold State.muteAll
  simp

@[simp] theorem mem_coast (s : State) : (State.coast s).mem = s.mem := by
  unfold State.coast
  simp

@[simp] theorem mem_domainFail (s : State) (d n : Nat) : (State.domainFail s d n).mem = s.mem := by
  unfold State.domainFail
  split <;> simp

@[simp] theorem mem_windowJudge (s : State) (c : ClockCounts) : (State.windowJudge s c).mem = s.mem := by
  unfold State.windowJudge
  repeat'
    first
    | with_reducible rfl
    | simp only []
    | split
    | (simp; done)
    | rw [mem_foldl]
    | intro _ _
    | simp

theorem keepsMem_windowShow (s : State) (c : ClockCounts) : KeepsMem s (s.windowShow c) := by
  unfold State.windowShow
  extract_lets t good
  refine (?_ : KeepsMem s t).trans (KeepsMem.trans (mem_setFld _ _ _) (mem_setFld _ _ _))
  exact KeepsMem.foldl _ (fun _ _ => mem_setFld _ _ _) _ _
@[simp] theorem mem_windowShow (s : State) (c : ClockCounts) : (s.windowShow c).mem = s.mem := keepsMem_windowShow s c

@[simp] theorem mem_flipErrors (s : State) (c : Nat) : (State.flipErrors s c).mem = s.mem := by
  unfold State.flipErrors
  simp

@[simp] theorem mem_flipBerth (s : State) (c : Nat) : (State.flipBerth s c).mem = s.mem := by
  unfold State.flipBerth
  simp

@[simp] theorem mem_flipPage (s : State) (t : Nat) : (State.flipPage s t).mem = s.mem := by
  unfold State.flipPage
  repeat'
    first
    | with_reducible rfl
    | simp only []
    | split
    | (simp; done)
    | rw [mem_foldl]
    | intro _ _
    | simp

@[simp] theorem mem_pnCommit (s old : State) (g : Nat) : (State.pnCommit s old g).1.mem = s.mem := by
  unfold State.pnCommit
  simp

@[simp] theorem mem_xmCommit (s old : State) (g : Nat) : (State.xmCommit s old g).1.mem = s.mem := by
  unfold State.xmCommit
  repeat'
    first
    | with_reducible rfl
    | simp only []
    | split
    | (simp; done)
    | rw [mem_foldl]
    | intro _ _
    | simp

@[simp] theorem mem_commit (s old : State) (g frame : Nat) : (State.commit s old g frame).mem = s.mem := by
  unfold State.commit
  repeat'
    first
    | with_reducible rfl
    | simp only []
    | split
    | (simp; done)
    | rw [mem_foldl]
    | intro _ _
    | simp

@[simp] theorem mem_commitDone (s : State) (g : Nat) (c : Commit) (result : Nat) :
    (State.commitDone s g c result).mem = s.mem := by
  unfold State.commitDone
  simp

@[simp] theorem mem_commits (s old : State) (frame : Nat) : (State.commits s old frame).mem = s.mem := by
  unfold State.commits
  rw [mem_foldl]
  intro _ _
  (repeat' split) <;> simp

@[simp] theorem mem_copyInto (s : State) (j : FerryJob) : (State.copyInto s j).mem = s.mem := by
  unfold State.copyInto
  simp

@[simp] theorem mem_coresEnd (s : State) : (State.coresEnd s).mem = s.mem := by
  unfold State.coresEnd
  repeat'
    first
    | with_reducible rfl
    | simp only []
    | split
    | (simp; done)
    | rw [mem_foldl]
    | intro _ _
    | simp

@[simp] theorem mem_selAsk (s : State) : (State.selAsk s).mem = s.mem := by
  unfold State.selAsk
  split <;> simp

@[simp] theorem mem_ptpFollow (s : State) : (State.ptpFollow s).mem = s.mem := by
  unfold State.ptpFollow
  simp only []
  (repeat' split) <;> simp

@[simp] theorem mem_selRestart (s : State) : (State.selRestart s).mem = s.mem := by
  unfold State.selRestart
  simp only []
  (repeat' split) <;> simp

@[simp] theorem mem_ptpNotice (s : State) (source old new : Nat) : (State.ptpNotice s source old new).mem = s.mem := by
  unfold State.ptpNotice
  simp

@[simp] theorem mem_setServo (s : State) (st : Nat) : (State.setServo s st).mem = s.mem := by
  unfold State.setServo
  simp only []
  (repeat' split) <;> simp

@[simp] theorem mem_ctlResume (s : State) : (State.ctlResume s).mem = s.mem := by
  unfold State.ctlResume
  simp only []
  (repeat' split) <;> simp

@[simp] theorem mem_ctxEdge (s : State) : (State.ctxEdge s).mem = s.mem := by
  unfold State.ctxEdge
  simp

@[simp] theorem mem_pnLoseSpan (s : State) (n : Nat) : (State.pnLoseSpan s n).mem = s.mem := by
  unfold State.pnLoseSpan
  simp

@[simp] theorem mem_deckPuts (s : State) (a b c : Nat) (l : List W32) : (s.deckPuts a b c l).mem = s.mem := by
  induction l generalizing s c with
  | nil => rfl
  | cons v r ih => unfold State.deckPuts; rw [ih, mem_deckPut]

@[simp] theorem mem_deckWrite16 (s : State) (slot frame : Nat) (ws : List W32) :
    (State.deckWrite16 s slot frame ws).mem = s.mem := by
  unfold State.deckWrite16
  (repeat' split) <;> simp

@[simp] theorem mem_pnRead (s : State) (n : Nat) (d : Span) : (State.pnRead s n d).mem = s.mem := by
  unfold State.pnRead
  repeat'
    first
    | with_reducible rfl
    | simp only []
    | split
    | (simp; done)
    | rw [mem_foldl]
    | intro _ _
    | simp

@[simp] theorem mem_mark (s : State) (f : Fld) (b : Bool) : (State.mark s f b).mem = s.mem := by
  unfold State.mark
  split <;> simp

@[simp] theorem mem_spanSat (s : State) (n : Nat) (b : Bool) : (State.spanSat s n b).mem = s.mem := by
  unfold State.spanSat
  simp

@[simp] theorem mem_storeRecords (s : State) (a : Nat) (l : List (Section × Bool)) : (s.storeRecords a l).mem = s.mem := by
  induction l generalizing s a with
  | nil => rfl
  | cons v r ih => unfold State.storeRecords; rw [ih]; split <;> simp

@[simp] theorem mem_pnSpan (s : State) (n : Nat) (d : Span) : (State.pnSpan s n d).mem = s.mem := by
  unfold State.pnSpan
  simp

@[simp] theorem mem_pnUnfinished (s : State) (n : Nat) (d : Span) (started : Bool) :
    (State.pnUnfinished s n d started).mem = s.mem := by
  unfold State.pnUnfinished
  split <;> simp

@[simp] theorem mem_pnUpsets (s : State) (ups : List PnUpset) : (State.pnUpsets s ups).mem = s.mem := by
  unfold State.pnUpsets
  repeat'
    first
    | with_reducible rfl
    | simp only []
    | split
    | (simp; done)
    | rw [mem_foldl]
    | intro _ _
    | simp

@[simp] theorem mem_pnPhase (s : State) (arg : W32) (c n : Nat) (ups : List PnUpset) :
    (State.pnPhase s arg c n ups).mem = s.mem := by
  unfold State.pnPhase
  repeat'
    first
    | with_reducible rfl
    | simp only []
    | split
    | (simp; done)
    | rw [mem_foldl]
    | intro _ _
    | simp

@[simp] theorem mem_cutPn (s : State) (ups : List PnUpset) : (State.cutPn s ups).mem = s.mem := by
  unfold State.cutPn
  rw [mem_foldl]
  intro _ _
  (repeat' split) <;> simp

@[simp] theorem mem_xmAdvance (s : State) (stage2 : Bool) (bad : List Nat) :
    (State.xmAdvance s stage2 bad).mem = s.mem := by
  unfold State.xmAdvance
  rw [mem_foldl]
  intro _ _
  simp

@[simp] theorem mem_xmFix (s : State) (stage2 : Bool) : (State.xmFix s stage2).mem = s.mem := by
  unfold State.xmFix
  rw [mem_foldl]
  intro _ _
  simp

@[simp] theorem mem_xmSatFlag (s : State) (stage2 : Bool) (dst : Nat) : (State.xmSatFlag s stage2 dst).mem = s.mem := by
  unfold State.xmSatFlag
  simp

@[simp] theorem mem_xmPutDest (s : State) (stage2 : Bool) (src : List (List W32)) (bad : Nat → Bool) (dst : Nat) :
    (State.xmPutDest s stage2 src bad dst).mem = s.mem := by
  unfold State.xmPutDest
  simp only []
  (repeat' split) <;> simp

@[simp] theorem mem_xmRun (s : State) (stage2 : Bool) (src : List (List W32)) (n : Nat) (found : List Nat) :
    (State.xmRun s stage2 src n found).mem = s.mem := by
  unfold State.xmRun
  repeat'
    first
    | with_reducible rfl
    | simp only []
    | split
    | (simp; done)
    | rw [mem_foldl]
    | intro _ _
    | simp

@[simp] theorem mem_xmPass (s : State) (stage2 : Bool) : (State.xmPass s stage2).mem = s.mem := by
  unfold State.xmPass
  simp

@[simp] theorem mem_cutXm (s : State) (written : Nat) : (State.cutXm s written).mem = s.mem := by
  unfold State.cutXm
  rw [mem_foldl]
  intro _ _
  (repeat' split) <;> simp

@[simp] theorem mem_deckClear (s : State) (parity : Nat) (p : SlotKind → Bool) :
    (State.deckClear s parity p).mem = s.mem := by
  unfold State.deckClear
  simp

@[simp] theorem mem_deckWrite (s : State) (slot frame w : Nat) (lag : Bool) (v : W32) :
    (State.deckWrite s slot frame w lag v).mem = s.mem := by
  unfold State.deckWrite
  (repeat' split) <;> simp

@[simp] theorem mem_disarm (s : State) (b : Nat) : (State.disarm s b).mem = s.mem := by
  unfold State.disarm
  split <;> simp

@[simp] theorem mem_dlDelay (s : State) (m n t len : Nat) : (State.dlDelay s m n t len).1.mem = s.mem := by
  unfold State.dlDelay
  split <;> simp

@[simp] theorem mem_dramWord (s : State) (a port : Nat) : (State.dramWord s a port).1.mem = s.mem := by
  unfold State.dramWord
  split <;> simp

@[simp] theorem mem_dlTap (s : State) (m base len e d slot : Nat) : (State.dlTap s m base len e d slot).mem = s.mem := by
  unfold State.dlTap
  repeat'
    first
    | with_reducible rfl
    | simp only []
    | split
    | (simp; done)
    | rw [mem_foldl]
    | intro _ _
    | simp

@[simp] theorem mem_dlPlay (s : State) (m n t slot : Nat) : (State.dlPlay s m n t slot).mem = s.mem := by
  unfold State.dlPlay
  split <;> simp

@[simp] theorem mem_drainEnd (s : State) : (State.drainEnd s).mem = s.mem := by
  unfold State.drainEnd
  rw [mem_foldl]
  intro _ _
  (repeat' split) <;> simp

theorem keepsMem_playRun (s : State) (m p : Nat) : KeepsMem s (s.playRun m p) := by
  unfold State.playRun
  extract_lets s0 w run loop playing len base slot from_ r t on
  have hs : KeepsMem s s0 := mem_deckScan _ _ _ _
  refine KeepsMem.ite hs ?_
  refine (hs.trans (?_ : KeepsMem s0 t)).trans
    (KeepsMem.trans (t := t.setFld (F.DRC_PLAYp_W3_PLAY p) (if on then 1 else 0)) (mem_setFld _ _ _) (mem_setFld _ _ _))
  refine KeepsMem.foldl _ (fun u e => ?_) _ _
  have key : ∀ x : State × W32, KeepsMem u x.1 →
      KeepsMem u (x.1.deckWrite slot m e.2 false (if run then x.2 else fade16 x.2 (15 - e.2))) :=
    fun x h => h.trans (mem_deckWrite _ _ _ _ _ _)
  exact key _ (mem_dramWord _ _ _)
@[simp] theorem mem_playRun (s : State) (m p : Nat) : (s.playRun m p).mem = s.mem := keepsMem_playRun s m p

@[simp] theorem mem_resetRegs (s : State) (a n : Nat) : (State.resetRegs s a n).mem = s.mem := by
  unfold State.resetRegs
  simp

@[simp] theorem mem_dramEngine (s : State) : (State.dramEngine s).mem = s.mem := by
  unfold State.dramEngine
  simp

@[simp] theorem mem_edgeReplies (s : State) (e : Nat) : (State.edgeReplies s e).mem = s.mem := by
  unfold State.edgeReplies
  simp

@[simp] theorem mem_xmDeferred (s old : State) : (State.xmDeferred s old).mem = s.mem := by
  unfold State.xmDeferred
  rw [mem_foldl]
  intro _ _
  simp

@[simp] theorem mem_effectsEdge (s : State) : (State.effectsEdge s).mem = s.mem := by
  unfold State.effectsEdge
  simp

@[simp] theorem mem_heldEnd (s : State) : (State.heldEnd s).mem = s.mem := by
  unfold State.heldEnd
  simp

@[simp] theorem mem_gwCheck (s : State) : (State.gwCheck s).mem = s.mem := by
  unfold State.gwCheck
  simp only []
  (repeat' split) <;> simp

@[simp] theorem mem_setGrp (s : State) (g : Nat) (x : TdmGrp) : (State.setGrp s g x).mem = s.mem := by
  unfold State.setGrp
  simp

@[simp] theorem mem_setGrpState (s : State) (g st : Nat) : (State.setGrpState s g st).mem = s.mem := by
  unfold State.setGrpState
  split <;> simp

@[simp] theorem mem_groupCfg (s : State) (g : Nat) (w : W32) : (State.groupCfg s g w).mem = s.mem := by
  unfold State.groupCfg
  split <;> simp

@[simp] theorem mem_setNom (s : State) (n nom : Nat) : (State.setNom s n nom).mem = s.mem := by
  unfold State.setNom
  simp only []
  (repeat' split) <;> simp

@[simp] theorem mem_setRx (s : State) (n : Nat) (x : AesRx) : (State.setRx s n x).mem = s.mem := by
  unfold State.setRx
  simp

@[simp] theorem mem_loseLock (s : State) (n : Nat) : (State.loseLock s n).mem = s.mem := by
  unfold State.loseLock
  simp

@[simp] theorem mem_portsEdge (s : State) : (State.portsEdge s).mem = s.mem := by
  unfold State.portsEdge
  repeat'
    first
    | with_reducible rfl
    | simp only []
    | split
    | (simp; done)
    | rw [mem_foldl]
    | intro _ _
    | simp

@[simp] theorem mem_rateNext (s : State) : (State.rateNext s).mem = s.mem := by
  unfold State.rateNext
  (repeat' split) <;> simp

@[simp] theorem mem_refRateDone (s : State) : (State.refRateDone s).mem = s.mem := by
  unfold State.refRateDone
  split <;> simp

@[simp] theorem mem_rateDone (s : State) : (State.rateDone s).mem = s.mem := by
  unfold State.rateDone
  (repeat' split) <;> simp

@[simp] theorem mem_stageEnd (s : State) (g : Nat) : (State.stageEnd s g).mem = s.mem := by
  unfold State.stageEnd
  repeat'
    first
    | with_reducible rfl
    | simp only []
    | split
    | (simp; done)
    | rw [mem_foldl]
    | intro _ _
    | simp

@[simp] theorem mem_forcePhase (s : State) (p : Phase) (i : Nat) : (State.forcePhase s p i).mem = s.mem := by
  unfold State.forcePhase
  repeat'
    first
    | with_reducible rfl
    | simp only []
    | split
    | (simp; done)
    | rw [mem_foldl]
    | intro _ _
    | simp

@[simp] theorem mem_forceAll (s : State) : (State.forceAll s).mem = s.mem := by
  unfold State.forceAll
  rw [mem_foldl]
  intro _ _
  (repeat' split) <;> simp

@[simp] theorem mem_meterTake (s : State) (n : Nat) (m : Meter) (frame : Nat) :
    (State.meterTake s n m frame).mem = s.mem := by
  unfold State.meterTake
  simp

@[simp] theorem mem_metersTake (s : State) (ins_ : Bool) (frame : Nat) : (State.metersTake s ins_ frame).mem = s.mem := by
  unfold State.metersTake
  repeat'
    first
    | with_reducible rfl
    | simp only []
    | split
    | (simp; done)
    | rw [mem_foldl]
    | intro _ _
    | simp

@[simp] theorem mem_missedFades (s : State) : (State.missedFades s).mem = s.mem := by
  unfold State.missedFades
  rw [mem_foldl]
  intro _ _
  (repeat' split) <;> simp

@[simp] theorem mem_patchPart (s : State) (p : Patch) (n : Nat) : (State.patchPart s p n).mem = s.mem := by
  unfold State.patchPart
  rw [mem_foldl]
  intro _ _
  simp

@[simp] theorem mem_patchesCut (s : State) (part : List Nat) : (State.patchesCut s part).mem = s.mem := by
  unfold State.patchesCut
  repeat'
    first
    | with_reducible rfl
    | simp only []
    | split
    | (simp; done)
    | rw [mem_foldl]
    | intro _ _
    | simp

@[simp] theorem mem_pnGlides (s : State) : (State.pnGlides s).mem = s.mem := by
  unfold State.pnGlides
  simp

@[simp] theorem mem_pnHeal (s : State) : (State.pnHeal s).mem = s.mem := by
  unfold State.pnHeal
  rw [mem_foldl]
  intro _ _
  simp

@[simp] theorem mem_pnEdge (s : State) : (State.pnEdge s).mem = s.mem := by
  unfold State.pnEdge
  simp

@[simp] theorem mem_pnEnd (s : State) : (State.pnEnd s).mem = s.mem := by
  unfold State.pnEnd
  simp

@[simp] theorem mem_xmEnd (s : State) : (State.xmEnd s).mem = s.mem := by
  unfold State.xmEnd
  simp

@[simp] theorem mem_stageEnds (s : State) (i : EdgeIn) : (State.stageEnds s i).mem = s.mem := by
  unfold State.stageEnds
  split <;> simp

@[simp] theorem mem_edgeCommon (s : State) (i : EdgeIn) (e : Nat) : (State.edgeCommon s i e).mem = s.mem := by
  unfold State.edgeCommon
  repeat'
    first
    | with_reducible rfl
    | simp only []
    | split
    | (simp; done)
    | rw [mem_foldl]
    | intro _ _
    | simp

@[simp] theorem mem_engineReplies (s : State) : (State.engineReplies s).mem = s.mem := by
  unfold State.engineReplies
  repeat'
    first
    | with_reducible rfl
    | simp only []
    | split
    | (simp; done)
    | rw [mem_foldl]
    | intro _ _
    | simp

@[simp] theorem mem_idleFrame (s : State) : (State.idleFrame s).mem = s.mem := by
  unfold State.idleFrame
  simp

@[simp] theorem mem_idleTasks (s : State) : (State.idleTasks s).mem = s.mem := by
  unfold State.idleTasks
  simp

@[simp] theorem mem_limClear (s : State) : (State.limClear s).mem = s.mem := by
  unfold State.limClear
  simp

@[simp] theorem mem_pnReset (s : State) (all : Bool) : (State.pnReset s all).mem = s.mem := by
  unfold State.pnReset
  split <;> simp

@[simp] theorem mem_runReset (s : State) : (State.runReset s).mem = s.mem := by
  unfold State.runReset
  simp

@[simp] theorem mem_sceneEngine (s : State) : (State.sceneEngine s).mem = s.mem := by
  unfold State.sceneEngine
  repeat'
    first
    | with_reducible rfl
    | simp only []
    | split
    | (simp; done)
    | rw [mem_foldl]
    | intro _ _
    | simp

@[simp] theorem mem_xmReset (s : State) : (State.xmReset s).mem = s.mem := by
  unfold State.xmReset
  simp

@[simp] theorem mem_newStage (s : State) (frame : Nat) : (State.newStage s frame).mem = s.mem := by
  unfold State.newStage
  simp

@[simp] theorem mem_playChan (s : State) (frame ch : Nat) : (State.playChan s frame ch).mem = s.mem := by
  unfold State.playChan
  simp only []
  (repeat' split) <;> simp

@[simp] theorem mem_playout (s : State) (frame : Nat) (fade : Bool) : (State.playout s frame fade).mem = s.mem := by
  unfold State.playout
  rw [mem_foldl]
  intro _ _
  simp

@[simp] theorem mem_rateFadeStart (s : State) : (State.rateFadeStart s).mem = s.mem := by
  unfold State.rateFadeStart
  (repeat' split) <;> simp

@[simp] theorem mem_fadesEdge (s : State) (frame : Nat) : (State.fadesEdge s frame).mem = s.mem := by
  unfold State.fadesEdge
  rw [mem_foldl]
  intro _ _
  simp

@[simp] theorem mem_ferried (s : State) (j : FerryJob) : (State.ferried s j).mem = s.mem := by
  unfold State.ferried
  simp

@[simp] theorem mem_frameReturn (s : State) (c frame : Nat) : (State.frameReturn s c frame).mem = s.mem := by
  unfold State.frameReturn
  simp only []
  (repeat' split) <;> simp

@[simp] theorem mem_moveReply (s : State) (t frame : Nat) : (State.moveReply s t frame).mem = s.mem := by
  unfold State.moveReply
  simp

@[simp] theorem mem_handover (s : State) (t frame : Nat) : (State.handover s t frame).mem = s.mem := by
  unfold State.handover
  simp only []
  (repeat' split) <;> simp

@[simp] theorem mem_handovers (s : State) (frame : Nat) : (State.handovers s frame).mem = s.mem := by
  unfold State.handovers
  rw [mem_foldl]
  intro _ _
  (repeat' split) <;> simp

@[simp] theorem mem_metersNotify (s : State) (frame : Nat) : (State.metersNotify s frame).mem = s.mem := by
  unfold State.metersNotify
  rw [mem_foldl]
  intro _ _
  (repeat' split) <;> simp

@[simp] theorem mem_pairsEdge (s : State) : (State.pairsEdge s).mem = s.mem := by
  unfold State.pairsEdge
  repeat'
    first
    | with_reducible rfl
    | simp only []
    | split
    | (simp; done)
    | rw [mem_foldl]
    | intro _ _
    | simp

@[simp] theorem mem_rampOnly (s : State) : (State.rampOnly s).mem = s.mem := by
  unfold State.rampOnly
  (repeat' split) <;> simp

@[simp] theorem mem_resume (s : State) (j : FerryJob) (wait : Option CoreWait) : (State.resume s j wait).mem = s.mem := by
  unfold State.resume
  simp only []
  (repeat' split) <;> simp

@[simp] theorem mem_resumeAhead (s : State) (i : Nat) : (State.resumeAhead s i).mem = s.mem := by
  unfold State.resumeAhead
  simp only []
  (repeat' split) <;> simp

@[simp] theorem mem_resumeCopied (s : State) : (State.resumeCopied s).mem = s.mem := by
  unfold State.resumeCopied
  (repeat' split) <;> simp

@[simp] theorem mem_resumeEdge (s : State) (n : Nat) : (State.resumeEdge s n).mem = s.mem := by
  unfold State.resumeEdge
  repeat'
    first
    | with_reducible rfl
    | simp only []
    | split
    | (simp; done)
    | rw [mem_foldl]
    | intro _ _
    | simp

@[simp] theorem mem_startMove (s : State) (t : Nat) (kind : MoveKind) (dst notBefore : Nat) (rejoin : Bool) :
    (State.startMove s t kind dst notBefore rejoin).mem = s.mem := by
  unfold State.startMove
  split <;> simp

@[simp] theorem mem_startReturn (s : State) (t : Nat) : (State.startReturn s t).mem = s.mem := by
  unfold State.startReturn
  split <;> simp

@[simp] theorem mem_returnsEdge (s : State) : (State.returnsEdge s).mem = s.mem := by
  unfold State.returnsEdge
  rw [mem_foldl]
  intro _ _
  (repeat' split) <;> simp

@[simp] theorem mem_spareMove (s : State) (b : Nat) : (State.spareMove s b).mem = s.mem := by
  unfold State.spareMove
  split <;> simp

@[simp] theorem mem_spareEdge (s : State) : (State.spareEdge s).mem = s.mem := by
  unfold State.spareEdge
  repeat'
    first
    | with_reducible rfl
    | simp only []
    | split
    | (simp; done)
    | rw [mem_foldl]
    | intro _ _
    | simp

@[simp] theorem mem_startTask (s : State) (c frame : Nat) : (State.startTask s c frame).mem = s.mem := by
  unfold State.startTask
  simp only []
  (repeat' split) <;> simp

@[simp] theorem mem_stopTask (s : State) (t frame : Nat) (cut : Bool) : (State.stopTask s t frame cut).mem = s.mem := by
  unfold State.stopTask
  simp only []
  (repeat' split) <;> simp

@[simp] theorem mem_stopsEdge (s : State) (frame : Nat) : (State.stopsEdge s frame).mem = s.mem := by
  unfold State.stopsEdge
  rw [mem_foldl]
  intro _ _
  (repeat' split) <;> simp

@[simp] theorem mem_enter (s : State) (op : Nat) (q : Req) : (State.enter s op q).mem = s.mem := by
  unfold State.enter
  split <;> simp

theorem keepsMem_fastBank (s : State) (b : Nat) :
    KeepsMem s ((((s.clearMarks (bankBase b) (bankSize b)).fusesLoad b).setFld (F.BANK_STATb_READY b) 1).setFld (F.BANK_STATb_VB b) 1) :=
  KeepsMem.trans (KeepsMem.trans (KeepsMem.trans (mem_clearMarks _ _ _) (mem_fusesLoad _ _)) (mem_setFld _ _ _)) (mem_setFld _ _ _)
@[simp] theorem mem_fastBanks (s : State) : s.fastBanks.mem = s.mem := by
  show KeepsMem s _
  unfold State.fastBanks
  generalize allBanks.filter _ = l
  extract_lets e t
  have h : KeepsMem s t := KeepsMem.trans (t := { s with pn := idlePn true, ecc := { s.ecc with lines := [], full := [], march1 := false } })
    rfl (KeepsMem.foldl _ (fun u b => keepsMem_fastBank u b) l _)
  clear_value t
  exact (h.trans (mem_fusesLoad _ _)).trans (mem_setFld _ _ _)

@[simp] theorem mem_unblock (s : State) : (State.unblock s).mem = s.mem := by
  unfold State.unblock
  split <;> simp

@[simp] theorem mem_mpllUnlock (s : State) : (State.mpllUnlock s).mem = s.mem := by
  unfold State.mpllUnlock
  simp

@[simp] theorem mem_mpllSelect (s : State) : (State.mpllSelect s).mem = s.mem := by
  unfold State.mpllSelect
  split <;> simp

@[simp] theorem mem_refusePacket (s : State) (m : Fin 8) (c : Fin 4) (p : Landed) (ws : List W32) (status : Nat) :
    (State.refusePacket s m c p ws status).mem = s.mem := by
  unfold State.refusePacket
  split <;> simp

@[simp] theorem mem_trainStart (s : State) (short : Bool) : (State.trainStart s short).mem = s.mem := by
  unfold State.trainStart
  simp

@[simp] theorem mem_slipDry (s : State) (g n : Nat) : (State.slipDry s g n).mem = s.mem := by
  unfold State.slipDry
  simp

@[simp] theorem mem_slip (s : State) (g n : Nat) : (State.slip s g n).mem = s.mem := by
  unfold State.slip
  simp

@[simp] theorem mem_portsStop (s : State) : (State.portsStop s).mem = s.mem := by
  unfold State.portsStop
  rw [mem_foldl]
  intro _ _
  (repeat' split) <;> simp

@[simp] theorem mem_setQuay (s : State) (n : Nat) (x : Option QuayIn) : (State.setQuay s n x).mem = s.mem := by
  unfold State.setQuay
  simp

@[simp] theorem mem_sceneRate (s : State) : (State.sceneRate s).mem = s.mem := by
  unfold State.sceneRate
  rw [mem_foldl]
  intro _ _
  simp

@[simp] theorem mem_record (s : State) (r : Rec) : (State.record s r).mem = s.mem := by
  unfold State.record
  simp only []
  (repeat' split) <;> simp

@[simp] theorem mem_trainDone (s : State) : (State.trainDone s).mem = s.mem := by
  unfold State.trainDone
  repeat'
    first
    | with_reducible rfl
    | simp only []
    | split
    | (simp; done)
    | rw [mem_foldl]
    | intro _ _
    | simp

@[simp] theorem mem_trainFail (s : State) (cause lane : Nat) : (State.trainFail s cause lane).mem = s.mem := by
  unfold State.trainFail
  split <;> simp

@[simp] theorem mem_updCommit (s : State) (t k : Nat) (ws : List W32) : (State.updCommit s t k ws).mem = s.mem := by
  unfold State.updCommit
  simp

@[simp] theorem mem_writeRegs (s : State) (a : Nat) (l : List W32) : (s.writeRegs a l).mem = s.mem := by
  induction l generalizing s a with
  | nil => rfl
  | cons v r ih => unfold State.writeRegs; rw [ih, mem_writeReg]

theorem mem_runInsn (op k : Nat) (q : Req) (s : State) (body : Nat → Bool → State → Res)
    (h : ∀ p ok u, (body p ok u).st.mem = u.mem) : (runInsn op k q s body).mem = s.mem := by
  unfold runInsn
  simp only []
  repeat' split
  all_goals simp [h]

/-! What stores to byte memory. -/

theorem memWf_foldl {A : Type} (f : State → A → State) (h : ∀ s a, memWf s.mem = true → memWf (f s a).mem = true) (l : List A)
    (s : State) (hs : memWf s.mem = true) : memWf (l.foldl f s).mem = true := by
  induction l generalizing s with
  | nil => exact hs
  | cons a l ih => exact ih _ (h _ _ hs)
theorem memOk_of {s t : State} (k : KeepsMem s t) (h : s.memOk) : t.memOk := by
  unfold State.memOk; rw [show t.mem = s.mem from k]; exact h
theorem memOk_ite {s t : State} {b : Prop} [Decidable b] (h : s.memOk) (g : t.memOk) : State.memOk (if b then s else t) := by
  split <;> assumption
theorem memOk_foldl {A : Type} (f : State → A → State) (h : ∀ s a, s.memOk → (f s a).memOk) (l : List A)
    (s : State) (hs : s.memOk) : (l.foldl f s).memOk := memWf_foldl f h l s hs
@[simp] theorem memWf_setByte (s : State) (a : Nat) (b : Byte) (h : memWf s.mem = true) : memWf (s.setByte a b).mem = true :=
  memWf_insD _ _ _ h

@[simp] theorem memWf_setWord (s : State) (a : Nat) (w : W32) (h : memWf s.mem = true) : memWf (s.setWord a w).mem = true :=
  memWf_setByte _ _ _ (memWf_setByte _ _ _ (memWf_setByte _ _ _ (memWf_setByte _ _ _ h)))

@[simp] theorem memWf_wroteParity (s : State) (a n : Nat) (h : memWf s.mem = true) :
    memWf (State.wroteParity s a n).mem = true := by
  unfold State.wroteParity
  simp only []
  (repeat' split) <;> simp [*]

@[simp] theorem memWf_landWord (s : State) (m c p i : Nat) (w : W32) (h : memWf s.mem = true) :
    memWf (State.landWord s m c p i w).mem = true := by
  unfold State.landWord
  simp [*]

@[simp] theorem memWf_landWords (s : State) (m c p i : Nat) (l : List W32) (h : memWf s.mem = true) :
    memWf (s.landWords m c p i l).mem = true := by
  induction l generalizing s i with
  | nil => exact h
  | cons w r ih => exact ih _ _ (memWf_landWord _ _ _ _ _ _ h)

@[simp] theorem memWf_landPoisoned (s : State) (m c p n : Nat) (ws : List W32) (tags : List Nat) (h : memWf s.mem = true) :
    memWf (s.landPoisoned m c p n ws tags).mem = true := by
  show State.memOk _
  unfold State.landPoisoned
  exact memOk_foldl _ (fun _ _ h => memOk_of (mem_setMark _ _ _) h) _ _ (memWf_landWords _ _ _ _ _ _ h)

@[simp] theorem memWf_arrive (s : State) (link : Nat) (m : Fin 8) (c : Nat) (words : List W32) (how : Arrival)
    (h : memWf s.mem = true) : memWf (s.arrive link m c words how).mem = true := by
  show State.memOk _
  unfold State.arrive
  extract_lets q l size all tags l1 kept room fit t from_ t2
  refine memOk_ite (memOk_of (mem_setQueue _ _ _ _) h) (memOk_ite (memOk_of (mem_setQueue _ _ _ _) h) (memOk_ite
    (memOk_of (KeepsMem.trans (KeepsMem.trans (mem_setQueue _ _ _ _) (mem_badHdr _)) (mem_flushCheck _)) h) (memOk_ite ?_ ?_)))
  · refine memOk_of (KeepsMem.trans (KeepsMem.trans (mem_setQueue _ _ _ _) (mem_violate _ _ _ _)) (mem_flushCheck _)) ?_
    exact memOk_ite h (memWf_landPoisoned _ _ _ _ _ _ _ h)
  · exact memOk_of (mem_setQueue _ _ _ _) (memWf_landPoisoned _ _ _ _ _ _ _ h)

@[simp] theorem memWf_apertureWrite (s : State) (pf m : Nat) (mm : Fin 8) (c : Nat) (words : List W32) (how : Arrival) (h : memWf s.mem = true) :
    memWf (State.apertureWrite s pf m mm c words how).mem = true := by
  unfold State.apertureWrite
  (repeat' split) <;> simp [*]

@[simp] theorem memWf_fillBank (s : State) (b : Nat) (h : memWf s.mem = true) : memWf (State.fillBank s b).mem = true := by
  unfold State.fillBank
  (repeat' split) <;> simp [*]

theorem memOk_fillBank (s : State) (b : Nat) (h : s.memOk) : (s.fillBank b).memOk := memWf_fillBank s b h
@[simp] theorem memWf_bankLost (s : State) (b : Nat) (h : memWf s.mem = true) : memWf (s.bankLost b).mem = true := by
  unfold State.bankLost
  simp [h]
theorem memOk_bankLost (s : State) (b : Nat) (h : s.memOk) : (s.bankLost b).memOk := memWf_bankLost s b h

@[simp] theorem memWf_bankReady (s : State) (b : Nat) (fails : List SubFail) (h : memWf s.mem = true) :
    memWf (s.bankReady b fails).mem = true := by
  show State.memOk _
  unfold State.bankReady
  extract_lets x r y z t
  have hr : r.1.memOk := memOk_of (mem_marched _ _ _) (memOk_of (KeepsMem.trans (mem_softDrop _ _) (mem_fusesLoad _ _)) h)
  clear_value r
  have ht : t.memOk := memOk_ite (memOk_of rfl hr) hr
  clear_value t
  refine memOk_ite h (memOk_ite (memOk_of (KeepsMem.trans (t := { s with pwr := x }) rfl (mem_bringUp _)) h) (memOk_ite h
    (memOk_ite ?_ (memOk_ite ?_ ?_))))
  · exact memOk_of ((KeepsMem.trans (mem_setFld _ _ _) (mem_bringUp _)).trans (mem_bootStart _)) (memOk_fillBank _ _ ht)
  · exact memOk_of (KeepsMem.trans (mem_setCore _ _ _) (mem_bringUp _)) ht
  · exact memOk_of ((KeepsMem.trans (mem_setFld _ _ _) (mem_bringUp _)).trans (mem_bootStart _)) ht

@[simp] theorem memWf_endPacket (s : State) (m : Fin 8) (c : Nat) (mismatch part : Bool) (h : memWf s.mem = true) :
    memWf (State.endPacket s m c mismatch part).mem = true := by
  unfold State.endPacket
  simp only []
  (repeat' split) <;> simp [*]

@[simp] theorem memWf_doorbell (s : State) (pf : Nat) (m : Fin 8) (v : W32) (h : memWf s.mem = true) :
    memWf (State.doorbell s pf m v).mem = true := by
  unfold State.doorbell
  simp only []
  (repeat' split) <;> simp [*]

@[simp] theorem memWf_barWrite (s : State) (pf off : Nat) (v : W32) (h : memWf s.mem = true) :
    memWf (State.barWrite s pf off v).mem = true := by
  unfold State.barWrite
  (repeat' split) <;> simp [*]

@[simp] theorem memWf_setWords (s : State) (a : Nat) (l : List W32) (h : memWf s.mem = true) :
    memWf (s.setWords a l).mem = true := by
  induction l generalizing s a with
  | nil => exact h
  | cons w r ih => exact ih _ _ (memWf_setWord _ _ _ h)

@[simp] theorem memWf_fwStart (s : State) (l : List Byte) (h : memWf s.mem = true) : memWf (s.fwStart l).mem = true := by
  show State.memOk _
  unfold State.fwStart
  extract_lets hd b body t t1 x t2 first y t3 t4
  have h0 : t.memOk := memWf_setWords _ _ _ h
  have h1 : t1.memOk := memOk_of (KeepsMem.trans (mem_setFld _ _ _) (mem_setFld _ _ _)) h0
  clear_value t1
  have h2 : t2.memOk := memOk_of rfl h1
  clear_value t2
  have h3 : t3.memOk := memOk_of (KeepsMem.trans (t := { t2 with ctl := { t2.ctl with bound := true } }) rfl (mem_setFld _ _ _)) h2
  clear_value t3
  exact memOk_ite (memOk_of ((KeepsMem.trans (mem_bindBlock _ _ _) (mem_setReady _ _)).trans (mem_selDecide _ _)) h3)
    (memOk_of (mem_setReady _ _) h3)

@[simp] theorem memWf_fromFlash (s : State) (a b : List Byte) (h : memWf s.mem = true) : memWf (s.fromFlash a b).mem = true := by
  show State.memOk _
  unfold State.fromFlash
  exact memOk_ite (memWf_fwStart _ _ (memOk_of (mem_setFld _ _ _) h)) (memOk_ite (memWf_fwStart _ _ (memOk_of (mem_setFld _ _ _) h))
    (memOk_of (KeepsMem.trans (t := s.setFld F.SYS_BOOT_SOURCE 3) (mem_setFld _ _ _) rfl) h))

@[simp] theorem memWf_bootFlash (s : State) (c0 c1 : List Byte) (h : memWf s.mem = true) :
    memWf (State.bootFlash s c0 c1).mem = true := by
  unfold State.bootFlash
  (repeat' split) <;> simp [*]

@[simp] theorem memWf_dramPut (s : State) (port : Nat) (ws : List (Nat × W32)) (h : memWf s.mem = true) :
    memWf (s.dramPut port ws).mem = true := by
  show State.memOk _
  unfold State.dramPut
  extract_lets fit has t u
  have ht : t.memOk := memOk_foldl _ (fun _ _ h => memWf_setWord _ _ _ h) _ _ h
  clear_value t
  have hu : u.memOk := memOk_foldl _ (fun _ _ h => memOk_ite (memOk_of (mem_wrote _ _ _) h) (memOk_ite h
    (memOk_of (KeepsMem.trans (mem_wrote _ _ _) (mem_dramScan _ _ _ _)) h))) _ _ ht
  clear_value u
  exact memOk_ite (memOk_of (mem_bump _ _) hu) hu

@[simp] theorem memWf_ringPut (s : State) (port base len i : Nat) (w : Nat → W32) (h : memWf s.mem = true) :
    memWf (s.ringPut port base len i w).mem = true := memWf_dramPut _ _ _ h

@[simp] theorem memWf_capDone (s : State) (c : Nat) (h : memWf s.mem = true) : memWf (s.capDone c).mem = true := by
  show State.memOk _
  unfold State.capDone
  split
  · exact h
  · exact memOk_ite (memOk_of (mem_recDrop _ _) h) (memOk_of (mem_setReg _ _ _) (memOk_of (mem_recDrop _ _)
      (memWf_ringPut _ _ _ _ _ _ h)))

@[simp] theorem memWf_ctlRestart (s : State) (cause addr : Nat) (h : memWf s.mem = true) :
    memWf (s.ctlRestart cause addr).mem = true := by
  show State.memOk _
  unfold State.ctlRestart
  extract_lets t x y t1 t2 z t3 t4 t5 n t6 t7 top lose ms t8
  refine memOk_ite h ?_
  have h0 : t.memOk := memOk_of (mem_setFld _ _ _) (memOk_of (mem_bump _ _) h)
  clear_value t
  have hx : x.memOk := memOk_of (mem_clearReady _ _) h0
  clear_value x
  have h1 : t1.memOk := memOk_of rfl hx
  clear_value t1
  have h2 : t2.memOk := memOk_foldl _ (fun _ _ h => memOk_of (mem_stopPacket _ _) h) _ _ h1
  clear_value t2
  have h3 : t3.memOk := memOk_of rfl h2
  clear_value t3
  have h4 : t4.memOk := memOk_foldl _ (fun _ _ h => memOk_ite (memOk_of (mem_clearBerth _ _) h) h) _ _ h3
  clear_value t4
  have h5 : t5.memOk := memOk_foldl _ (fun _ _ h => memOk_ite (memOk_of (mem_cancelUpdate _ _ _) h) h) _ _ h4
  clear_value t5
  have h6 : t6.memOk := memOk_of (mem_clearMarks _ _ _) (memWf_delRange _ _ _ h5)
  clear_value t6
  have h7 : t7.memOk := memOk_of (mem_invalidate _ _ _) h6
  clear_value t7
  have h8 : t8.memOk := memOk_ite (memOk_of (mem_clearMarks _ _ _) (memWf_delRange _ _ _ h7)) h7
  clear_value t8
  exact memOk_ite (memOk_of (mem_eccNotice _ _ _ _ _ _) h8) h8

@[simp] theorem memWf_ctlReadFault (s : State) (a : Nat) (h : memWf s.mem = true) :
    memWf (State.ctlReadFault s a).mem = true := by
  unfold State.ctlReadFault
  simp [*]

/-- The memory of a read's state has its form. -/
def sndOk (x : Option W32 × State) : Prop := x.2.memOk
theorem sndOk_ite {x y : Option W32 × State} {b : Prop} [Decidable b] (h : sndOk x) (g : sndOk y) :
    sndOk (if b then x else y) := by split <;> assumption
theorem sndOk_mk {w : Option W32} {s : State} (h : s.memOk) : sndOk (w, s) := h
theorem memWf_readWord (s : State) (a : Nat) (h : s.memOk) : (s.readWord a).2.memOk := by
  show sndOk _
  unfold State.readWord
  have key : ∀ b, sndOk (match s.region b with
      | .periph => let r := s.readReg (b - periphBase); (some r.1, r.2)
      | .dram =>
        let t := s.dramScan b 4 4
        if t.bad b 4 then (none, t) else (some (t.word b), t)
      | _ =>
        match bankOf b with
        | some k =>
          if s.marching k then (none, s)
          else
            let t := s.fixSingles b 4
            if t.bad b 4 then (none, if k = 0 then t.ctlReadFault b else t.ueRecord b) else (some (t.rawWord b), t)
        | none => (some (s.rawWord b), s)) := by
    intro b
    split
    · exact sndOk_mk (memOk_of (mem_readReg _ _) h)
    · have ht : (s.dramScan b 4 4).memOk := memOk_of (mem_dramScan _ _ _ _) h
      exact sndOk_ite (sndOk_mk ht) (sndOk_mk ht)
    · split
      · have hu : (s.fixSingles b 4).memOk := memOk_of (mem_fixSingles _ _ _) h
        exact sndOk_ite (sndOk_mk h) (sndOk_ite (sndOk_mk (memOk_ite (memWf_ctlReadFault _ _ hu) (memOk_of (mem_ueRecord _ _) hu)))
          (sndOk_mk hu))
      · exact sndOk_mk h
  exact key _

@[simp] theorem memWf_debugRead (s : State) (a : Nat) (h : memWf s.mem = true) : memWf (s.debugRead a).mem = true := by
  show State.memOk _
  unfold State.debugRead
  extract_lets x t r
  split
  · refine memOk_ite (memOk_of (mem_show _ _) (memOk_of (KeepsMem.trans (mem_stored s a) (mem_setFld _ _ _)) h)) ?_
    have ht : t.memOk := memOk_of (mem_fixSingles _ _ _) h
    exact memOk_ite (memOk_of (KeepsMem.trans (mem_ueRecord _ _) (mem_show _ _)) ht) (memOk_of (mem_show _ _) ht)
  · exact memOk_of (mem_show _ _) (memWf_readWord _ _ h)

@[simp] theorem memWf_putWord (s : State) (a : Nat) (w : W32) (h : memWf s.mem = true) : memWf (s.putWord a w).mem = true := by
  show State.memOk _
  unfold State.putWord
  split
  · exact memWf_setWord _ _ _ h
  · exact memWf_setWord _ _ _ h
  · exact memWf_setWord _ _ _ h
  · exact memOk_ite h (memOk_of (mem_storeXm _ _ _) h)
  · exact memOk_of (mem_storeSection _ _ _) h
  · exact memOk_of (mem_storeSpan _ _ _) h
  · exact memOk_of (mem_streamPut _ _ _) h
  · exact memOk_of rfl h
  · extract_lets c o own
    have ho : own.memOk := memOk_of (mem_modCore _ _ _) h
    refine memOk_ite ?_ (memOk_ite ?_ ho)
    all_goals
      split
      · exact memOk_of (mem_modTask _ _ _) h
      · exact ho
  · exact h

@[simp] theorem memWf_storeRaw (s : State) (a : Nat) (d : W64) (chk : Byte) (h : memWf s.mem = true) :
    memWf (State.storeRaw s a d chk).mem = true := by
  unfold State.storeRaw
  simp only []
  (repeat' split) <;> simp [*]

@[simp] theorem memWf_rawPut (s : State) (a : Nat) (w : W32) (h : memWf s.mem = true) :
    memWf (State.rawPut s a w).mem = true := by
  unfold State.rawPut
  simp [*]

@[simp] theorem memWf_writeDram (s : State) (a : Nat) (l : List W32) (h : memWf s.mem = true) :
    memWf (s.writeDram a l).mem = true := memOk_of (mem_wroteRange _ _ _) (memWf_setWords _ _ _ h)

@[simp] theorem memWf_debugWrite (s : State) (a : Nat) (w : W32) (h : memWf s.mem = true) : memWf (s.debugWrite a w).mem = true := by
  show State.memOk _
  unfold State.debugWrite
  split
  · exact memOk_of (mem_writeReg _ _ _ _) h
  · exact memOk_of (mem_dramScan _ _ _ _) (memWf_writeDram _ _ _ h)
  · split
    · exact memOk_ite (memWf_rawPut _ _ _ h) (memOk_ite h (memOk_ite (memWf_wroteParity _ _ _ (memWf_putWord _ _ _ h))
        (memOk_of (mem_wrote _ _ _) (memWf_putWord _ _ _ h))))
    · exact h

@[simp] theorem memWf_debug (s : State) (a0 : Nat) (write : Option W32) (h : memWf s.mem = true) :
    memWf (State.debug s a0 write).mem = true := by
  unfold State.debug
  simp only []
  (repeat' split) <;> simp [*]

@[simp] theorem memWf_scan (s : State) (i : Tap) (h : memWf s.mem = true) : memWf (State.scan s i).mem = true := by
  unfold State.scan
  simp [*]

@[simp] theorem memWf_idcode (s : State) (h : memWf s.mem = true) : memWf (State.idcode s).mem = true := by
  unfold State.idcode
  split <;> simp [*]

@[simp] theorem memWf_deviceReset (s : State) (cause : Nat) (h : memWf s.mem = true) : memWf (s.deviceReset cause).mem = true := by
  show State.memOk _
  unfold State.deviceReset
  extract_lets t x y z t1 t2 t3
  have h1 : t1.memOk := memWf_sub _ _ _ h
  clear_value t1
  have h2 : t2.memOk := memOk_of (mem_berthsReset _) h1
  clear_value t2
  have h3 : t3.memOk := memOk_of ((KeepsMem.trans (mem_fuseRegs _) (mem_setPds _ _)).trans (mem_bankKept _ _)) h2
  clear_value t3
  exact memOk_of (KeepsMem.trans (mem_setFld _ _ _) (mem_bump _ _)) h3

@[simp] theorem memWf_guardFail (s : State) (src : Bool) (h : memWf s.mem = true) : memWf (s.guardFail src).mem = true :=
  memWf_deviceReset _ _ h

@[simp] theorem memWf_clockWindow (s : State) (c : ClockCounts) (h : memWf s.mem = true) : memWf (s.clockWindow c).mem = true := by
  unfold State.clockWindow
  simp only []
  repeat' split
  all_goals simp [h]

@[simp] theorem memWf_ctlRestartDone (s : State) (c0 c1 : List Byte) (h : memWf s.mem = true) :
    memWf (State.ctlRestartDone s c0 c1).mem = true := by
  unfold State.ctlRestartDone
  simp only []
  (repeat' split) <;> simp [*]

theorem memOk_dlMiss (s : State) (m n : Nat) (h : s.memOk) : (s.dlMiss m n).memOk := by
  unfold State.dlMiss
  exact memWf_ringPut _ _ _ _ _ _ h

theorem memOk_dlStore (s : State) (m n : Nat) (h : s.memOk) : (s.dlStore m n).memOk := by
  unfold State.dlStore
  exact memWf_ringPut _ _ _ _ _ _ (memOk_of (mem_deckScan _ _ _ _) h)

theorem memOk_dlRun (s : State) (m n : Nat) (h : s.memOk) : (s.dlRun m n).memOk := by
  unfold State.dlRun
  have key : ∀ t : State, t.memOk → State.memOk (if s.snapFld (F.DRC_DLn_W0_T1EN n) = 1 then
      t.dlPlay m n 1 (s.snapFld (F.DRC_DLn_W1_OSLOT1 n)) else t) :=
    fun t ht => memOk_ite (memOk_of (mem_dlPlay _ _ _ _ _) ht) ht
  exact key _ (memOk_of (mem_dlPlay _ _ _ _ _) (memOk_dlStore _ _ _ h))

@[simp] theorem memWf_passDone (s : State) (cycles : Nat) (cut : Option Nat) (h : memWf s.mem = true) :
    memWf (s.passDone cycles cut).mem = true := by
  show State.memOk _
  unfold State.passDone
  split
  · exact h
  · rename_i m _
    extract_lets lines x t u
    have ht : t.memOk := memOk_of rfl h
    clear_value t
    have hl : ∀ l : List Nat, (l.foldl (fun t n => t.dlRun m n) t).memOk :=
      fun l => memOk_foldl _ (fun _ _ h => memOk_dlRun _ _ _ h) _ _ ht
    have hp : ∀ (l : List Nat) (u : State), u.memOk → (l.foldl (fun t p => t.playRun m p) u).memOk :=
      fun l u hu => memOk_foldl _ (fun _ _ h => memOk_of (mem_playRun _ _ _) h) _ _ hu
    refine memOk_ite ht ?_
    split
    · exact memOk_of (mem_setFld _ _ _) (hp _ _ (hl _))
    · exact memOk_of (mem_setFld _ _ _) (memOk_foldl _ (fun _ _ h => memOk_dlMiss _ _ _ h) _ _ (hp _ _ (hl _)))

@[simp] theorem memWf_passCut (s : State) (h : memWf s.mem = true) : memWf (State.passCut s).mem = true := by
  unfold State.passCut
  split <;> simp [*]

@[simp] theorem memWf_dramEdge (s : State) (m : Nat) (h : memWf s.mem = true) : memWf (State.dramEdge s m).mem = true := by
  unfold State.dramEdge
  repeat'
    first
    | assumption
    | (simp [*]; done)
    | simp only []
    | split
    | refine memWf_foldl _ (fun _ _ _ => ?_) _ _ ?_
    | simp [*]

@[simp] theorem memWf_dramRate (s : State) (h : memWf s.mem = true) : memWf (State.dramRate s).mem = true := by
  unfold State.dramRate
  simp [*]

@[simp] theorem memWf_dramSleep (s : State) (off : Bool) (h : memWf s.mem = true) :
    memWf (State.dramSleep s off).mem = true := by
  unfold State.dramSleep
  split <;> simp [*]

@[simp] theorem memOk_engineFill (s : State) (h : s.memOk) : s.engineFill.memOk := by
  unfold State.engineFill
  extract_lets t u
  have ht : t.memOk := memOk_foldl _ (fun _ _ h => memOk_fillBank _ _ h) _ _ h
  clear_value t
  have hu : u.memOk := memOk_foldl _ (fun _ _ h => memOk_of (mem_fillMarks _ _) h) _ _ ht
  clear_value u
  exact hu

@[simp] theorem memWf_marchAbandon (s : State) (h : memWf s.mem = true) : memWf (State.marchAbandon s).mem = true := by
  unfold State.marchAbandon
  simp only []
  (repeat' split) <;> simp [*]

@[simp] theorem memWf_engineApply (s : State) (h : memWf s.mem = true) : memWf s.engineApply.mem = true := by
  show State.memOk _
  unfold State.engineApply
  extract_lets t t1 t2 t3
  have h0 : t.memOk := memWf_marchAbandon _ (memOk_of (mem_sceneEngine s) h)
  clear_value t
  have h1 : t1.memOk := memOk_of (KeepsMem.trans (mem_resetRegs _ _ _) (mem_idleFrame _)) h0
  clear_value t1
  have h2 : t2.memOk := memOk_engineFill _ (memOk_of (mem_berthsReset _) (memOk_of (mem_idleTasks _) (memOk_of (mem_dramEngine _)
    (memOk_of (mem_runReset _) (memOk_of (mem_pnReset _ _) (memOk_of (mem_xmReset _) h1))))))
  clear_value t2
  have h3 : t3.memOk := memOk_of (mem_clearReady _ _) h2
  clear_value t3
  exact memOk_of (mem_engineReplies _) (memOk_of (mem_bump _ _) (memOk_of (mem_limClear _) h3))

@[simp] theorem memWf_engineStep (s : State) (h : memWf s.mem = true) : memWf s.engineStep.mem = true := by
  show State.memOk _
  unfold State.engineStep
  split
  · exact h
  · exact memWf_engineApply _ h
  · exact h

@[simp] theorem memWf_stageStarts (s old : State) (i : EdgeIn) (frame : Nat) (h : memWf s.mem = true) :
    memWf (s.stageStarts old i frame).mem = true := by
  show State.memOk _
  unfold State.stageStarts
  extract_lets t x t1 t2 t3 t4 t5 t6
  have h0 : t.memOk := memOk_of (mem_pairsEdge _) (memOk_of (mem_activate _ _) h)
  clear_value t
  have h1 : t1.memOk := memOk_of rfl h0
  clear_value t1
  have h2 : t2.memOk := memOk_foldl _ (fun _ _ h => memOk_of (mem_frameReturn _ _ _) h) _ _ h1
  have h3 : t3.memOk := memOk_of (mem_handovers _ _) (memOk_of (mem_stopsEdge _ _) (memOk_of (mem_fadesEdge _ _) h2))
  have h4 : t4.memOk := memOk_of (mem_resumeEdge _ _) h3
  have h5 : t5.memOk := memOk_foldl _ (fun _ _ h => memOk_of (mem_startTask _ _ _) h) _ _ h4
  have h6 : t6.memOk := memOk_of (mem_returnsEdge _) (memOk_of (mem_spareEdge _) (memOk_of (mem_rampOnly _) (memOk_of (mem_commits _ _ _) h5)))
  exact memWf_dramEdge _ _ (memOk_of (mem_metersNotify _ _) (memOk_of (mem_metersTake _ _ _) h6))

@[simp] theorem memWf_edgeStages (s old : State) (i : EdgeIn) (e : Nat) (h : memWf s.mem = true) : memWf (s.edgeStages old i e).mem = true := by
  show State.memOk _
  unfold State.edgeStages
  extract_lets fade t t1 t2
  have h0 : t.memOk := memWf_engineStep _ (memOk_of (mem_rateFadeStart _) h)
  have h1 : t1.memOk := memOk_ite h0 (memWf_stageStarts _ _ _ _ (memOk_of (mem_newStage _ _) h0))
  have h2 : t2.memOk := memOk_ite h1 (memOk_of (mem_playout _ _ _) h1)
  exact memOk_ite h2 (memOk_of (mem_advance _ _) h2)

@[simp] theorem memWf_wipeSecure (s : State) (h : memWf s.mem = true) : memWf (State.wipeSecure s).mem = true := by
  unfold State.wipeSecure
  simp [*]

@[simp] theorem memWf_fuseDone (s : State) (h : memWf s.mem = true) : memWf (State.fuseDone s).mem = true := by
  unfold State.fuseDone
  split <;> simp [*]

theorem memWf_loaderGo (s : State) (h : memWf s.mem = true) : s.loaderGo.1.memOk := by
  unfold State.loaderGo
  extract_lets l first t
  split
  · have ht : t.memOk := memWf_fwStart _ _ (memOk_of (mem_setFld _ _ _) h)
    exact memOk_ite ht (memOk_of (mem_ctlResume _) ht)
  · exact h

@[simp] theorem memWf_goWrite (s : State) (v : W32) (h : memWf s.mem = true) : memWf (s.goWrite v).mem = true := by
  show State.memOk _
  have ht : (s.writeReg F.SYS_BOOT v false).memOk := memOk_of (mem_writeReg _ _ _ _) h
  exact memOk_ite (memWf_loaderGo _ ht) ht

@[simp] theorem memWf_goodFalls (s : State) (h : memWf s.mem = true) : memWf s.goodFalls.mem = true := by
  show State.memOk _
  unfold State.goodFalls
  extract_lets x t u
  have h1 : t.unblock.memOk := memOk_of (mem_unblock t) h
  have hu : u.memOk := memWf_deviceReset t.unblock 2 h1
  exact memOk_ite h (memOk_ite (memOk_of (mem_setFld _ _ _) hu) hu)

@[simp] theorem memWf_marchEnd (s : State) (fails : List SubFail) (addr : Nat) (h : memWf s.mem = true) :
    memWf (State.marchEnd s fails addr).mem = true := by
  unfold State.marchEnd
  simp only []
  (repeat' split) <;> simp [*]

@[simp] theorem memWf_tamper (s : State) (cause : Nat) (h : memWf s.mem = true) :
    memWf (State.tamper s cause).mem = true := by
  unfold State.tamper
  (repeat' split) <;> simp [*]

@[simp] theorem memWf_secureRead (s : State) (a n : Nat) (h : memWf s.mem = true) :
    memWf (State.secureRead s a n).mem = true := by
  unfold State.secureRead
  simp only []
  (repeat' split) <;> simp [*]

@[simp] theorem memWf_takePacket (s : State) (m : Fin 8) (c : Fin 4) (p : Landed) (h : memWf s.mem = true) :
    memWf (s.takePacket m c p).mem = true := by
  unfold State.takePacket
  repeat'
    first
    | assumption
    | (simp [*]; done)
    | simp only []
    | split
    | refine memWf_foldl _ (fun _ _ _ => ?_) _ _ ?_
    | simp [*]

@[simp] theorem memWf_packetStart (s : State) (h : memWf s.mem = true) : memWf (State.packetStart s).mem = true := by
  unfold State.packetStart
  (repeat' split) <;> simp [*]

@[simp] theorem memWf_pllLock (s : State) (band : Nat) (h : memWf s.mem = true) : memWf (s.pllLock band).mem = true := by
  show State.memOk _
  unfold State.pllLock
  extract_lets t x t1 t2
  refine memOk_ite (memWf_deviceReset _ _ h) ?_
  have h1 : t.memOk := memOk_of (mem_setFld _ _ _) (memOk_of (mem_setFld _ _ _) h)
  have h2 : t1.memOk := memOk_of rfl h1
  have h3 : t2.memOk := memOk_of (mem_trainStart _ _) (memOk_of (mem_mpllSelect _) h2)
  exact memOk_ite (memOk_of (mem_bootStart _) (memOk_of (mem_bringUp _) (memOk_of (mem_fastBanks _) h3)))
    (memOk_of (mem_bringUp _) h3)

@[simp] theorem memWf_porReset (s : State) : memWf s.porReset.mem = true := rfl

@[simp] theorem memWf_powerDone (s : State) (d : Nat) (h : memWf s.mem = true) : memWf (s.powerDone d).mem = true := by
  show State.memOk _
  unfold State.powerDone
  split
  · exact h
  · rename_i m _
    extract_lets x t u v t2 t3
    have h1 : t.memOk := memOk_of (mem_setPd _ _ _) (memOk_of rfl h)
    clear_value t
    have hu : u.memOk := memOk_foldl _ (fun _ _ h => memOk_bankLost _ _ h) _ _ h1
    clear_value u
    have hv : v.memOk := memOk_foldl _ (fun _ _ h => memOk_ite h (memOk_of (mem_setFld _ _ _) (memOk_fillBank _ _ h))) _ _ h1
    clear_value v
    have h2 : t2.memOk := memOk_ite (memOk_ite (memWf_dramSleep _ _ hu) hu) (memOk_ite (memOk_of (mem_berthsBack _ _) hv)
      (memOk_ite (memOk_of (mem_berthsBack _ _) h1) h1))
    clear_value t2
    have h3 : t3.memOk := memOk_ite (memOk_of (mem_trainStart _ _) h2) h2
    exact memOk_of (KeepsMem.trans (mem_bringUp _) (mem_release _ _)) h3

@[simp] theorem memWf_powerStart (s : State) (d target : Nat) (h : memWf s.mem = true) : memWf (s.powerStart d target).mem = true := by
  show State.memOk _
  unfold State.powerStart
  extract_lets old t t1 t2
  have h1 : t.memOk := memOk_of (KeepsMem.trans (mem_setPd _ _ _) (mem_clearReady _ _)) h
  have h2 : t1.memOk := memOk_foldl _ (fun _ _ h => memOk_of (mem_disarm _ _) h) _ _ h1
  exact (memOk_ite (memWf_dramSleep _ _ h2) h2 : t2.memOk)

@[simp] theorem memWf_powerTo (s : State) (pid d target : Nat) (h : memWf s.mem = true) :
    memWf (State.powerTo s pid d target).mem = true := by
  unfold State.powerTo
  split <;> simp [*]

@[simp] theorem memWf_quayArrive (s : State) (n : Nat) (old : QuayIn) (words : List W32) (h : memWf s.mem = true) :
    memWf (s.quayArrive n old words).mem = true := by
  show State.memOk _
  unfold State.quayArrive
  extract_lets all x
  have hq : ∀ v, (s.setQuay n v).memOk := fun v => memOk_of (mem_setQuay _ _ _) h
  refine memOk_ite (hq _) ?_
  split
  · exact memOk_ite (memWf_arrive _ _ _ _ _ _ (hq _)) (memOk_ite (memWf_arrive _ _ _ _ _ _ (hq _)) (memOk_of (mem_badHdr _) (hq _)))
  · exact memOk_of (mem_badHdr _) (hq _)

@[simp] theorem memWf_quayEnd (s : State) (n : Nat) (part : Bool) (h : memWf s.mem = true) : memWf (s.quayEnd n part).mem = true := by
  show State.memOk _
  unfold State.quayEnd
  split
  · exact h
  · extract_lets t u
    have hu : u.memOk := memOk_ite (memOk_of (KeepsMem.trans (mem_setQuay _ _ _) (mem_bump _ _)) h) (memOk_of (mem_setQuay _ _ _) h)
    refine memOk_ite hu (memOk_ite (memOk_of (mem_badHdr _) hu) ?_)
    split
    · exact memWf_endPacket _ _ _ _ _ hu
    · exact hu

@[simp] theorem memWf_quayPacket (s : State) (n : Nat) (words : List W32) (part ended : Bool) (h : memWf s.mem = true) :
    memWf (State.quayPacket s n words part ended).mem = true := by
  unfold State.quayPacket
  (repeat' split) <;> simp [*]

@[simp] theorem memWf_rateStop (s : State) (c : RateChange) (h : memWf s.mem = true) : memWf (s.rateStop c).mem = true := by
  show State.memOk _
  unfold State.rateStop
  exact memWf_dramRate _ (memOk_of (mem_sceneRate _) (memOk_of (mem_portsStop s) h))

@[simp] theorem memWf_regWrite (s : State) (a : Nat) (v : W32) (bar0 : Option (Fin 4)) (h : memWf s.mem = true) :
    memWf (State.regWrite s a v bar0).mem = true := by
  unfold State.regWrite
  (repeat' split) <;> simp [*]

@[simp] theorem memWf_resetLow (s : State) (h : memWf s.mem = true) : memWf (State.resetLow s).mem = true := by
  unfold State.resetLow
  (repeat' split) <;> simp [*]

@[simp] theorem memWf_restartEnd (s : State) (copy0 copy1 : List Byte) (h : memWf s.mem = true) :
    memWf (State.restartEnd s copy0 copy1).mem = true := by
  unfold State.restartEnd
  simp only []
  (repeat' split) <;> simp [*]

@[simp] theorem memWf_shutdown (s : State) (g : Bool) (h : memWf s.mem = true) : memWf (s.shutdown g).mem = true := by
  show State.memOk _
  unfold State.shutdown
  exact memOk_ite h (memWf_deviceReset _ _ h)

@[simp] theorem memWf_signRead (s : State) (ws : List W32) (h : memWf s.mem = true) :
    memWf (State.signRead s ws).mem = true := by
  unfold State.signRead
  split <;> simp [*]

@[simp] theorem memWf_stageEdge (s : State) (i : EdgeIn) (h : memWf s.mem = true) : memWf (s.stageEdge i).mem = true := by
  show State.memOk _
  unfold State.stageEdge
  extract_lets e x s1 old t
  have h1 : s1.memOk := memOk_of rfl h
  clear_value s1
  have ho : old.memOk := memOk_of (mem_stageEnds _ _) h1
  have ht : t.memOk := memOk_of (mem_edgeCommon _ _ _) h1
  split
  · exact memOk_ite (memWf_rateStop _ _ ht) (memWf_edgeStages _ _ _ _ ht)
  · exact memWf_edgeStages _ _ _ _ ht

@[simp] theorem memWf_trainNext (s : State) (h : memWf s.mem = true) : memWf (State.trainNext s).mem = true := by
  unfold State.trainNext
  simp only []
  (repeat' split) <;> simp [*]

@[simp] theorem memWf_trainSweep (s : State) (lanes : List (BitVec 256)) (code width : Nat → Fld) (h : memWf s.mem = true) :
    memWf (s.trainSweep lanes code width).mem = true := by
  show State.memOk _
  unfold State.trainSweep
  extract_lets eye
  split
  · exact memOk_of (mem_trainFail _ _ _) h
  · exact memWf_trainNext _ (memOk_foldl _ (fun _ _ h => memOk_of (KeepsMem.trans (mem_setFld _ _ _) (mem_setFld _ _ _)) h) _ _ h)

@[simp] theorem memWf_trainStep (s : State) (r : TrainResult) (h : memWf s.mem = true) :
    memWf (State.trainStep s r).mem = true := by
  unfold State.trainStep
  simp only []
  (repeat' split) <;> simp [*]

theorem memWf_checkedSigned (s : State) (ws : List W32) (n : Nat) (cs : State → List (Bool × Nat)) (act : State → Res)
    (ha : ∀ t : State, t.memOk → (act t).st.memOk) (h : memWf s.mem = true) : (checkedSigned s ws n cs act).st.memOk := by
  unfold checkedSigned
  extract_lets t
  have ht : t.memOk := memOk_ite (memWf_signRead _ _ h) h
  clear_value t
  unfold checked
  split
  · exact ht
  · exact ha _ ht

@[simp] theorem memWf_writeAct (a : Nat) (ws : List W32) (s : State) (h : memWf s.mem = true) :
    memWf (writeAct a ws s).st.mem = true := by
  unfold writeAct
  (repeat' split) <;> simp [*]

theorem memWf_loaderWrite (q : Req) (s : State) (h : memWf s.mem = true) : (loaderWrite q s).st.memOk := by
  unfold loaderWrite
  extract_lets a ws t r
  split
  · exact memOk_of (mem_wroteRange _ _ _) (memWf_setWords _ _ _ h)
  · split
    · have ht : t.memOk := memOk_of (mem_writeReg _ _ _ _) h
      split
      · split
        · exact memWf_loaderGo _ ht
        · exact h
      · exact ht
    · exact h

/-! Results of instructions. -/

theorem memOk_when {s t : State} {b : Bool} (h : s.memOk) (g : t.memOk) : (s.when b t).memOk := by
  unfold State.when; split <;> assumption
/-- A result whose state keeps the form. -/
def resOk (r : Res) : Prop := r.st.memOk
theorem resOk_mk {e : Nat} {l : List W32} {s : State} (h : s.memOk) : resOk ⟨e, l, s⟩ := h
theorem resOk_ite {x y : Res} {b : Prop} [Decidable b] (h : resOk x) (g : resOk y) : resOk (if b then x else y) := by split <;> assumption
theorem memOk_runInsn (op k : Nat) (q : Req) (s : State) (body : Nat → Bool → State → Res) (hs : s.memOk)
    (h : ∀ p ok u, u.memOk → resOk (body p ok u)) : (runInsn op k q s body).memOk := by
  unfold runInsn
  have hr : ∀ (u : State) (r : Rec), u.memOk → (u.record r).memOk := fun u r h => memOk_of (mem_record u r) h
  refine memOk_ite hs ?_
  have he : (s.enter op q).memOk := memOk_of (mem_enter _ _ _) hs
  simp only []
  split
  · exact hs
  · refine memOk_ite (hr _ _ he) (memOk_ite (hr _ _ he) (memOk_ite (hr _ _ (h _ _ _ he)) (h _ _ _ he)))
theorem resOk_checked {s : State} (hs : s.memOk) (cs : List (Bool × Nat)) (act : Unit → Res) (h : resOk (act ())) :
    resOk (checked s cs act) := by
  unfold checked; split
  · exact hs
  · exact h
theorem resOk_writeAct {s : State} (hs : s.memOk) (a : Nat) (ws : List W32) : resOk (writeAct a ws s) := by
  have : memWf (writeAct a ws s).st.mem = true := memWf_writeAct a ws s hs
  exact this

end Sys2Proof.Machine
end

