-- ==== Sys2Proof/Laws/Stack.lean ====
section
/-! SUPPORT. Laws/Stack.lean: operations that leave the packets whose execution has begun as they are, so that the record
of an instruction goes to its own packet (R317, R318). -/

namespace Sys2Proof.Machine

@[simp] theorem stack_setReg (s : State) (a : Nat) (v : W32) : (s.setReg a v).ctl.stack = s.ctl.stack := rfl

theorem stack_foldl {A : Type} (f : State → A → State) (hf : ∀ s a, (f s a).ctl.stack = s.ctl.stack) (l : List A) (s : State) :
    (l.foldl f s).ctl.stack = s.ctl.stack := by
  induction l generalizing s with
  | nil => rfl
  | cons a r ih => rw [List.foldl_cons, ih, hf]

@[simp] theorem stack_post (s : State) (m : Fin 8) (ws : List W32) (b : Bool) : (s.post m ws b).ctl.stack = s.ctl.stack := rfl
@[simp] theorem stack_addWait (s : State) (n : Nat) (w : Wait) : (s.addWait n w).ctl.stack = s.ctl.stack := rfl
@[simp] theorem stack_defer (s : State) (n : Nat) (e : Eff) : (s.defer n e).ctl.stack = s.ctl.stack := rfl

@[simp] theorem stack_reply (s : State) (p : Pkt) : (s.reply p).ctl.stack = s.ctl.stack := by
  unfold State.reply; simp only []; split <;> simp

@[simp] theorem stack_noticeTo (s : State) (m : Fin 8) (c : Nat) (ws : List W32) : (s.noticeTo m c ws).ctl.stack = s.ctl.stack := by
  unfold State.noticeTo; simp only []; repeat' split
  all_goals simp

@[simp] theorem stack_noticeIf (s : State) (c : Nat) (ws : List W32) (p : Fin 8 → Bool) : (s.noticeIf c ws p).ctl.stack = s.ctl.stack :=
  stack_foldl _ (fun t m => stack_noticeTo t m c ws) _ s

@[simp] theorem stack_notice (s : State) (c : Nat) (ws : List W32) : (s.notice c ws).ctl.stack = s.ctl.stack := stack_noticeIf s c ws _

@[simp] theorem stack_setReady (s : State) (fs : List Fld) : (s.setReady fs).ctl.stack = s.ctl.stack := by
  unfold State.setReady
  generalize fs.filter _ = l
  have h := stack_foldl (fun t f => State.setFld t f 1) (fun _ _ => rfl) l s
  simp only []; split
  · exact h
  · rw [stack_notice]; exact h

@[simp] theorem stack_clearReady (s : State) (fs : List Fld) : (s.clearReady fs).ctl.stack = s.ctl.stack :=
  stack_foldl (fun t f => State.setFld t f 0) (fun _ _ => rfl) fs s

@[simp] theorem stack_sendDue (l : List Pkt) (s : State) : (State.sendDue l s).ctl.stack = s.ctl.stack := by
  induction l generalizing s with
  | nil => rfl
  | cons p r ih =>
    unfold State.sendDue
    split
    · exact ih s
    · rw [ih]
      split <;> simp [State.freeUnits]

@[simp] theorem stack_flushDue (s : State) : s.flushDue.ctl.stack = s.ctl.stack := by
  unfold State.flushDue; split
  · rfl
  · exact stack_sendDue _ s

@[simp] theorem stack_release (s : State) (p : Wait → Bool) : (s.release p).ctl.stack = s.ctl.stack := by
  unfold State.release; simp

@[simp] theorem stack_deferEdge (s : State) (n : Nat) (es : List Eff) : (s.deferEdge n es).ctl.stack = s.ctl.stack := by
  unfold State.deferEdge
  rw [stack_addWait]
  exact stack_foldl (fun t e => State.defer t n e) (fun _ _ => rfl) es s

@[simp] theorem stack_setMark (s : State) (a : Nat) (m : Option Mark) : (s.setMark a m).ctl.stack = s.ctl.stack := by
  unfold State.setMark; cases m <;> rfl

@[simp] theorem stack_setByte (s : State) (a : Nat) (b : Byte) : (s.setByte a b).ctl.stack = s.ctl.stack := rfl
@[simp] theorem stack_setWord (s : State) (a : Nat) (b : W32) : (s.setWord a b).ctl.stack = s.ctl.stack := by
  unfold State.setWord; simp
@[simp] theorem stack_setFld (s : State) (f : Fld) (v : Nat) : (s.setFld f v).ctl.stack = s.ctl.stack := rfl
@[simp] theorem stack_bump (s : State) (f : Fld) : (s.bump f).ctl.stack = s.ctl.stack := rfl
@[simp] theorem stack_mark (s : State) (f : Fld) (b : Bool) : (s.mark f b).ctl.stack = s.ctl.stack := by
  unfold State.mark; split <;> rfl

@[simp] theorem stack_flip (s : State) : s.flip.ctl.stack = s.ctl.stack := by
  unfold State.flip; simp only []; repeat' split
  all_goals simp

@[simp] theorem stack_clearMarks (s : State) (a n : Nat) : (s.clearMarks a n).ctl.stack = s.ctl.stack := rfl

theorem stack_ite (s a b : State) (c : Prop) [Decidable c] (ha : a.ctl.stack = s.ctl.stack) (hb : b.ctl.stack = s.ctl.stack) :
    (if c then a else b).ctl.stack = s.ctl.stack := by split <;> assumption
@[simp] theorem stack_ceRecord (s : State) (a : Nat) : (s.ceRecord a).ctl.stack = s.ctl.stack := by
  unfold State.ceRecord; split <;> simp
@[simp] theorem stack_fixSingles (s : State) (a n : Nat) : (s.fixSingles a n).ctl.stack = s.ctl.stack := by
  unfold State.fixSingles; split
  · rfl
  · refine stack_foldl _ (fun s t => ?_) _ _
    simp
@[simp] theorem stack_ueRecord (s : State) (a : Nat) : (s.ueRecord a).ctl.stack = s.ctl.stack := by
  unfold State.ueRecord; simp only []; split <;> rfl
@[simp] theorem stack_validate (s : State) (a n : Nat) : (s.validate a n).ctl.stack = s.ctl.stack := by
  unfold State.validate; repeat' split
  all_goals rfl
@[simp] theorem stack_merge (s : State) (a : Nat) : (s.merge a).ctl.stack = s.ctl.stack := by
  unfold State.merge; split <;> simp
@[simp] theorem stack_wrote (s : State) (a n : Nat) : (s.wrote a n).ctl.stack = s.ctl.stack := by
  unfold State.wrote
  extract_lets t u
  have hu : u.ctl.stack = s.ctl.stack :=
    stack_ite _ _ _ _ ((stack_clearMarks _ _ _).trans (stack_validate _ _ _)) ((stack_merge _ _).trans (stack_validate _ _ _))
  exact stack_ite _ _ _ _ rfl (stack_ite _ _ _ _ ((stack_flip _).trans hu) hu)
@[simp] theorem stack_wroteAll (s : State) (l : List (Nat × Nat)) : (s.wroteAll l).ctl.stack = s.ctl.stack :=
  stack_foldl _ (fun _ _ => stack_ite _ _ _ _ rfl (stack_wrote _ _ _)) _ _
@[simp] theorem stack_eccNotice (s : State) (a b c d e : Nat) : (s.eccNotice a b c d e).ctl.stack = s.ctl.stack := by
  unfold State.eccNotice; simp
@[simp] theorem stack_setXm (s : State) (k : Nat) (e : XmEntry) : (s.setXm k e).ctl.stack = s.ctl.stack := by
  unfold State.setXm; split
  · rfl
  · rw [stack_wrote]; rfl
@[simp] theorem stack_xmEdit (s : State) (k : Nat) (f : XmEntry → XmEntry) : (s.xmEdit k f).ctl.stack = s.ctl.stack := by
  have h : (s.xmTouch k).ctl.stack = s.ctl.stack := by
    unfold State.xmTouch State.xmHeal
    simp only []; split <;> simp
  unfold State.xmEdit
  simp [h]
@[simp] theorem stack_setSection (s : State) (k : Nat) (e : Section) : (s.setSection k e).ctl.stack = s.ctl.stack := by
  unfold State.setSection; split
  · rfl
  · rw [stack_wrote]; rfl
@[simp] theorem stack_pnLose (s : State) (k : Nat) : (s.pnLose k).ctl.stack = s.ctl.stack := by
  unfold State.pnLose; split
  · rfl
  · simp
@[simp] theorem stack_editSection (s : State) (k : Nat) (f : Section → Section) : (s.editSection k f).ctl.stack = s.ctl.stack := by
  unfold State.editSection; simp only []; split <;> simp
@[simp] theorem stack_mapSections (s : State) (f : Nat → Section → Section) : (s.mapSections f).ctl.stack = s.ctl.stack :=
  stack_foldl _ (fun _ _ => stack_editSection _ _ _) _ _
@[simp] theorem stack_flushCheck (s : State) : s.flushCheck.ctl.stack = s.ctl.stack := by
  unfold State.flushCheck; simp
@[simp] theorem stack_setQueue (s : State) (m c : Nat) (q : LandQ) : (s.setQueue m c q).ctl.stack = s.ctl.stack := rfl
@[simp] theorem stack_flushQueues (s : State) (n m : Nat) (w : W32) : (s.flushQueues n m w).ctl.stack = s.ctl.stack := by
  unfold State.flushQueues
  rw [stack_flushCheck]
  exact stack_foldl (fun t c => State.setQueue t m c ((t.queue m c).flushed n)) (fun _ _ => rfl) _ _
@[simp] theorem stack_rateAccept (s : State) (n m : Nat) : (s.rateAccept n m).ctl.stack = s.ctl.stack := by
  unfold State.rateAccept; repeat' split
  all_goals simp
@[simp] theorem stack_loadTimetable (s : State) (n m : Nat) (l : List Phase) : (s.loadTimetable n m l).ctl.stack = s.ctl.stack := by
  unfold State.loadTimetable; simp
@[simp] theorem stack_xmBlock (s : State) (a : Bool) (b c d e : Nat) (gs : List W24) (f : XmEntry → W24 → XmEntry) :
    (s.xmBlock a b c d e gs f).ctl.stack = s.ctl.stack := by
  unfold State.xmBlock
  exact stack_foldl _ (fun _ _ => stack_xmEdit _ _ _) _ _
@[simp] theorem stack_sosStage (s : State) (o : SosOp) : (s.sosStage o).ctl.stack = s.ctl.stack := by
  unfold State.sosStage
  exact stack_editSection _ _ _
@[simp] theorem stack_sosDo (s : State) (q : Req) (g : Bool) (n : Nat) : (s.sosDo q g n).ctl.stack = s.ctl.stack := by
  unfold State.sosDo
  refine stack_ite _ _ _ _ (stack_foldl _ (fun _ _ => stack_sosStage _ _) _ _) ?_
  rw [stack_deferEdge]
  exact stack_foldl _ (fun _ _ => stack_editSection _ _ _) _ _
@[simp] theorem stack_arm (s : State) (g : Nat) (a : Armed) : (s.arm g a).ctl.stack = s.ctl.stack := rfl
@[simp] theorem stack_setCore (s : State) (c : Nat) (k : Core) : (s.setCore c k).ctl.stack = s.ctl.stack := rfl
@[simp] theorem stack_setTask (s : State) (c : Nat) (k : TaskRec) : (s.setTask c k).ctl.stack = s.ctl.stack := rfl
@[simp] theorem stack_modCore (s : State) (c : Nat) (k : Core → Core) : (s.modCore c k).ctl.stack = s.ctl.stack := rfl
@[simp] theorem stack_modTask (s : State) (c : Nat) (k : TaskRec → TaskRec) : (s.modTask c k).ctl.stack = s.ctl.stack := rfl
@[simp] theorem stack_openLoad (s : State) (a b c : Nat) : (s.openLoad a b c).ctl.stack = s.ctl.stack := by
  unfold State.openLoad State.emptyBerth; simp
@[simp] theorem stack_takeWords (s : State) (a : Nat) (l : Load) (ws : List W32) : (s.takeWords a l ws).ctl.stack = s.ctl.stack := by
  unfold State.takeWords; simp
@[simp] theorem stack_armTask (s : State) (a b : Nat) (ws : List W32) (r : List (Nat × Nat)) : (s.armTask a b ws r).ctl.stack = s.ctl.stack := rfl
@[simp] theorem stack_stopAsk (s : State) (a b : Nat) (c : Bool) : (s.stopAsk a b c).ctl.stack = s.ctl.stack := by
  unfold State.stopAsk State.abandonLoad; split <;> simp
@[simp] theorem stack_putPages (s : State) (f : Mems → Mems) (l : List (Nat × Nat)) (c : Nat) :
    (s.putPages f l c).ctl.stack = s.ctl.stack := by
  unfold State.putPages; simp
@[simp] theorem stack_onPages (s : State) (t : Nat) (f : Mems → Mems) (l : List (Nat × Nat)) : (s.onPages t f l).ctl.stack = s.ctl.stack :=
  stack_foldl _ (fun _ _ => stack_putPages _ _ _ _) _ _
@[simp] theorem stack_pageStage (s : State) (t g w : Nat) (l : List W32) : (s.pageStage t g w l).ctl.stack = s.ctl.stack := by
  unfold State.pageStage; simp
@[simp] theorem stack_assignShadow (s : State) (t : Nat) : (s.assignShadow t).ctl.stack = s.ctl.stack := by
  unfold State.assignShadow; simp only []; repeat' split
  all_goals simp
@[simp] theorem stack_loseSpare (s : State) (b k : Nat) : (s.loseSpare b k).ctl.stack = s.ctl.stack := by
  unfold State.loseSpare
  refine stack_foldl _ (fun s t => ?_) _ _
  simp only []; split <;> simp
@[simp] theorem stack_startMove (s : State) (t : Nat) (k : MoveKind) (d n : Nat) (b : Bool) : (s.startMove t k d n b).ctl.stack = s.ctl.stack := by
  unfold State.startMove; simp only [stack_loseSpare, stack_setTask]; split <;> simp
@[simp] theorem stack_updOpen (s : State) (t b n : Nat) : (s.updOpen t b n).ctl.stack = s.ctl.stack := by
  unfold State.updOpen; simp
@[simp] theorem stack_updCommit (s : State) (t b : Nat) (l : List W32) : (s.updCommit t b l).ctl.stack = s.ctl.stack := by
  unfold State.updCommit; simp
@[simp] theorem stack_startReturn (s : State) (t : Nat) : (s.startReturn t).ctl.stack = s.ctl.stack := by
  unfold State.startReturn; split <;> simp
@[simp] theorem stack_revert (s : State) (t : Nat) : (s.revert t).ctl.stack = s.ctl.stack := by
  unfold State.revert; simp
@[simp] theorem stack_setCtx (s : State) (n : Nat) (c : Ctx) : (s.setCtx n c).ctl.stack = s.ctl.stack := rfl
@[simp] theorem stack_sent (s : State) (b : Bool) (f : TxFrame) : (s.sent b f).ctl.stack = s.ctl.stack := by
  unfold State.sent; repeat' split
  all_goals simp
@[simp] theorem stack_setWaiting (s : State) (b : Bool) (l : List TxFrame) : (s.setWaiting b l).ctl.stack = s.ctl.stack := by
  unfold State.setWaiting; split <;> rfl
@[simp] theorem stack_sentLast (s : State) (b : Bool) (f : TxFrame) : (s.sentLast b f).ctl.stack = s.ctl.stack := by
  unfold State.sentLast; split <;> simp
@[simp] theorem stack_sentOwn (s : State) (b : Bool) (m : OwnMsg) : (s.sentOwn b m).ctl.stack = s.ctl.stack := by
  unfold State.sentOwn; simp
@[simp] theorem stack_igmpOn (s : State) (c : Ctx) (b l : Bool) : (s.igmpOn c b l).ctl.stack = s.ctl.stack := by
  unfold State.igmpOn; split <;> simp
@[simp] theorem stack_igmp (s : State) (c : Ctx) : (s.igmp c).ctl.stack = s.ctl.stack := by
  unfold State.igmp; simp
@[simp] theorem stack_startCtx (s : State) (n k : Nat) : (s.startCtx n k).ctl.stack = s.ctl.stack := by
  unfold State.startCtx
  split
  · rfl
  · exact stack_ite _ _ _ _ rfl (stack_igmp _ _)
@[simp] theorem stack_startAsk (s : State) (n k : Nat) : (s.startAsk n k).ctl.stack = s.ctl.stack := by
  unfold State.startAsk; repeat' split
  all_goals simp
@[simp] theorem stack_defineCtx (s : State) (n : Nat) (r : List W32) : (s.defineCtx n r).ctl.stack = s.ctl.stack := by
  unfold State.defineCtx; repeat' split
  all_goals rfl
@[simp] theorem stack_deleteCtx (s : State) (n : Nat) : (s.deleteCtx n).ctl.stack = s.ctl.stack := by
  unfold State.deleteCtx; repeat' split
  all_goals rfl
@[simp] theorem stack_stopCtx (s : State) (n : Nat) (b : Bool) : (s.stopCtx n b).ctl.stack = s.ctl.stack := by
  unfold State.stopCtx; split <;> simp
@[simp] theorem stack_sctlClear (s : State) (n : Nat) : (s.sctlClear n).ctl.stack = s.ctl.stack := by
  unfold State.sctlClear; split <;> simp
@[simp] theorem stack_zoneBindTo (s : State) (a : Nat) (b : Bool) (c d : Nat) : (s.zoneBindTo a b c d).ctl.stack = s.ctl.stack := rfl
@[simp] theorem stack_alarmAsk (s : State) (a : Nat) (e : PendAlarm) : (s.alarmAsk a e).ctl.stack = s.ctl.stack := by
  unfold State.alarmAsk; split <;> simp
@[simp] theorem stack_stepTime (s : State) (a b c : Nat) : (s.stepTime a b c).ctl.stack = s.ctl.stack := by
  rfl
@[simp] theorem stack_setFreq (s : State) (a : Int) : (s.setFreq a).ctl.stack = s.ctl.stack := by
  unfold State.setFreq; simp
@[simp] theorem stack_addRealign (s : State) (a : Realign) : (s.addRealign a).ctl.stack = s.ctl.stack := rfl
@[simp] theorem stack_setGrp (s : State) (a : Nat) (x : TdmGrp) : (s.setGrp a x).ctl.stack = s.ctl.stack := rfl
@[simp] theorem stack_setRx (s : State) (a : Nat) (x : AesRx) : (s.setRx a x).ctl.stack = s.ctl.stack := rfl
@[simp] theorem stack_limWrite (s : State) (a : Nat) (x : W32) : (s.limWrite a x).ctl.stack = s.ctl.stack := rfl
@[simp] theorem stack_limSet (s : State) (n a : Nat) (x : W32) : (s.limSet n a x).ctl.stack = s.ctl.stack := by
  unfold State.limSet; simp only []; split <;> simp
@[simp] theorem stack_chanSet (s : State) (n : Nat) (x : ChanWait) : (s.chanSet n x).ctl.stack = s.ctl.stack := by
  unfold State.chanSet; simp
@[simp] theorem stack_txSet (s : State) (n m : Nat) (l : List Nat) (x : List W32) : (s.txSet n m l x).ctl.stack = s.ctl.stack := by
  unfold State.txSet; simp
@[simp] theorem stack_meterPut (s : State) (m : Fin 8) (n : Nat) (b : Bool) (k : Nat) : (s.meterPut m n b k).ctl.stack = s.ctl.stack := by
  unfold State.meterPut; exact stack_ite _ _ _ _ rfl rfl
@[simp] theorem stack_clearPeaks (s : State) (m : Fin 8) (n : Nat)  (k : Nat) : (s.clearPeaks m n k).ctl.stack = s.ctl.stack := rfl
@[simp] theorem stack_disarm (s : State) (n : Nat) : (s.disarm n).ctl.stack = s.ctl.stack := by
  unfold State.disarm; split <;> rfl
@[simp] theorem stack_marchStart (s : State) (n : Nat) (b : Bool) : (s.marchStart n b).ctl.stack = s.ctl.stack := by
  unfold State.marchStart; simp only []; split <;> simp
@[simp] theorem stack_lcStart (s : State) (n m : Nat) : (s.lcStart n m).ctl.stack = s.ctl.stack := rfl
@[simp] theorem stack_keySet (s : State) (n : Nat) (m : Fin 8) (k : Option (List Byte)) : (s.keySet n m k).ctl.stack = s.ctl.stack := by
  have h := stack_wroteAll s [(keyAddr m.val, 32), (validAddr, 4)]
  unfold State.keySet State.restartSeq; simp only []; split <;> exact h
@[simp] theorem stack_mpllSelect (s : State) : s.mpllSelect.ctl.stack = s.ctl.stack := by
  unfold State.mpllSelect; simp only []; split <;> simp [State.mpllUnlock]
@[simp] theorem stack_bandSet (s : State) (k : Nat) (w : W32) : (s.bandSet k w).ctl.stack = s.ctl.stack := by
  unfold State.bandSet; simp only []; split <;> simp
@[simp] theorem stack_mclkSet (s : State) (k : Nat) (b : Nat) (c : Bool) (n : Nat) : (s.mclkSet k b c n).ctl.stack = s.ctl.stack := by
  unfold State.mclkSet; exact stack_ite _ _ _ _ rfl rfl
@[simp] theorem stack_gateSet (s : State) (k n : Nat) (m v : W32) : (s.gateSet k n m v).ctl.stack = s.ctl.stack := by
  unfold State.gateSet
  refine stack_foldl _ (fun s t => ?_) _ _
  simp only []; repeat' split
  all_goals simp

@[simp] theorem stack_ptpNotice (s : State) (a b c : Nat) : (s.ptpNotice a b c).ctl.stack = s.ctl.stack := by
  unfold State.ptpNotice; simp
@[simp] theorem stack_setRef (s : State) (a b : Nat) : (s.setRef a b).ctl.stack = s.ctl.stack := rfl
@[simp] theorem stack_selMove (s : State) (a b c : Nat) : (s.selMove a b c).ctl.stack = s.ctl.stack := by
  unfold State.selMove; simp
@[simp] theorem stack_selHoldover (s : State) (a : Nat) : (s.selHoldover a).ctl.stack = s.ctl.stack := by
  unfold State.selHoldover; simp
@[simp] theorem stack_selIdle (s : State) (a : Nat) : (s.selIdle a).ctl.stack = s.ctl.stack := by
  unfold State.selIdle
  refine stack_ite _ _ _ _ (stack_selHoldover _ _) ?_
  exact (stack_foldl _ (fun w i => stack_ite w _ _ _ (stack_setRef _ _ _) rfl) _ _).trans (stack_selMove _ _ _ _)
@[simp] theorem stack_selNone (s : State) (a : Nat) : (s.selNone a).ctl.stack = s.ctl.stack := by
  unfold State.selNone; simp only []; repeat' split
  all_goals simp
@[simp] theorem stack_refJudge (s : State) (i : Nat) : (s.refJudge i).ctl.stack = s.ctl.stack := by
  unfold State.refJudge; simp only []; repeat' split
  all_goals simp
@[simp] theorem stack_refApply (s : State) (m : SMap W32) : (s.refApply m).ctl.stack = s.ctl.stack := by
  unfold State.refApply
  refine stack_foldl _ (fun s t => ?_) _ _
  refine stack_ite _ _ _ _ (by rw [stack_setFld, stack_setFld]) ?_
  extract_lets i was u
  have hu : u.ctl.stack = s.ctl.stack := stack_setReg _ _ _
  clear_value u
  exact stack_ite _ _ _ _ (stack_ite _ _ _ _ ((stack_refJudge _ _).trans hu) hu) ((stack_setRef _ _ _).trans hu)
@[simp] theorem stack_refWaited (s : State) : s.refWaited.ctl.stack = s.ctl.stack := by
  unfold State.refWaited; split
  · rfl
  · exact stack_refApply _ _
@[simp] theorem stack_endSwitch (s : State) (a : Nat) : (s.endSwitch a).ctl.stack = s.ctl.stack := by
  unfold State.endSwitch; simp only []; split <;> simp
@[simp] theorem stack_selDecide (s : State) (w : Option Nat) : (s.selDecide w).ctl.stack = s.ctl.stack := by
  unfold State.selDecide; simp only []; repeat' split
  all_goals simp
@[simp] theorem stack_refCommand (s : State) (m : SMap W32) : (s.refCommand m).ctl.stack = s.ctl.stack := by
  unfold State.refCommand; split <;> simp
@[simp] theorem stack_setServo (s : State) (n : Nat) : (s.setServo n).ctl.stack = s.ctl.stack := by
  unfold State.setServo; simp only []; repeat' split
  all_goals simp
@[simp] theorem stack_ptpFollow (s : State) : s.ptpFollow.ctl.stack = s.ctl.stack := by
  unfold State.ptpFollow State.selAsk; simp only []; repeat' split
  all_goals simp
@[simp] theorem stack_setPort (s : State) (b : Bool) (n : Nat) : (s.setPort b n).ctl.stack = s.ctl.stack := by
  unfold State.setPort; simp only []; split <;> simp
@[simp] theorem stack_ptpPortSet (s : State) (b : Bool) : (s.ptpPortSet b).ctl.stack = s.ctl.stack := by
  unfold State.ptpPortSet; simp only []; split <;> simp
@[simp] theorem stack_masterChange (s : State) (g : Option W64) : (s.masterChange g).ctl.stack = s.ctl.stack := by
  unfold State.masterChange
  extract_lets old x t t1 t2 st
  exact stack_ite _ _ _ _ (stack_setServo _ _) (stack_ite _ _ _ _ (stack_setServo _ _) rfl)
@[simp] theorem stack_ptpSet (s : State) (q : Req) : (s.ptpSet q).ctl.stack = s.ctl.stack := by
  unfold State.ptpSet
  extract_lets t x u v w
  have hw : w.ctl.stack = s.ctl.stack := by
    rw [stack_ptpPortSet, stack_ptpPortSet, stack_setServo, stack_setFld]; rfl
  rw [stack_ptpFollow]
  exact stack_ite _ _ _ _ ((stack_masterChange _ _).trans hw) hw
@[simp] theorem stack_dramSleep (s : State) (b : Bool) : (s.dramSleep b).ctl.stack = s.ctl.stack := by
  unfold State.dramSleep; simp only []; split <;> simp
@[simp] theorem stack_setPd (s : State) (a b : Nat) : (s.setPd a b).ctl.stack = s.ctl.stack := rfl
@[simp] theorem stack_powerStart (s : State) (d t : Nat) : (s.powerStart d t).ctl.stack = s.ctl.stack := by
  unfold State.powerStart; simp only []
  have h (u : State) : ((pdBanks d).foldl State.disarm u).ctl.stack = u.ctl.stack := stack_foldl _ (fun _ _ => stack_disarm _ _) _ _
  repeat' split
  all_goals simp [h]
@[simp] theorem stack_powerTo (s : State) (p d t : Nat) : (s.powerTo p d t).ctl.stack = s.ctl.stack := by
  unfold State.powerTo; split <;> simp
@[simp] theorem stack_ferryNotice (s : State) (a b c d e f g : Nat) : (s.ferryNotice a b c d e f g).ctl.stack = s.ctl.stack := by
  unfold State.ferryNotice; simp
@[simp] theorem stack_wroteRange (s : State) (a n : Nat) : (s.wroteRange a n).ctl.stack = s.ctl.stack := by
  unfold State.wroteRange; simp only []; repeat' split
  all_goals simp
@[simp] theorem stack_setWords (s : State) (a : Nat) (ws : List W32) : (s.setWords a ws).ctl.stack = s.ctl.stack := by
  induction ws generalizing s a with
  | nil => rfl
  | cons w r ih => unfold State.setWords; rw [ih]; simp
@[simp] theorem stack_writeDram (s : State) (a : Nat) (ws : List W32) : (s.writeDram a ws).ctl.stack = s.ctl.stack := by
  unfold State.writeDram; simp
@[simp] theorem stack_dramUe (s : State) (a n : Nat) : (s.dramUe a n).ctl.stack = s.ctl.stack := by
  unfold State.dramUe State.alertBit; simp
@[simp] theorem stack_dramScan (s : State) (a n k : Nat) : (s.dramScan a n k).ctl.stack = s.ctl.stack := by
  unfold State.dramScan; split
  · rfl
  · refine stack_foldl _ (fun s t => ?_) _ _
    split <;> simp
@[simp] theorem stack_latch (s : State) (a : Nat) : (s.latch a).ctl.stack = s.ctl.stack := by
  unfold State.latch; repeat' split
  all_goals simp
@[simp] theorem stack_clearRc (s : State) (a : Nat) : (s.clearRc a).ctl.stack = s.ctl.stack := by
  unfold State.clearRc; simp only []; repeat' split
  all_goals simp
@[simp] theorem stack_readReg (s : State) (a : Nat) : (s.readReg a).2.ctl.stack = s.ctl.stack := by
  unfold State.readReg; simp only []; repeat' split
  all_goals simp [State.draw]

/-- A read that delivers a word leaves the packets. -/
def Delivers (s : State) (x : Option W32 × State) : Prop := x.1.isSome = true → x.2.ctl.stack = s.ctl.stack

theorem delivers_ite (s : State) (a b : Option W32 × State) (c : Prop) [Decidable c] (ha : Delivers s a) (hb : Delivers s b) :
    Delivers s (if c then a else b) := by split <;> assumption

theorem delivers_none (s t : State) : Delivers s (none, t) := fun h => by simp at h

theorem delivers_readReg (s : State) (k : Nat) : Delivers s (some (s.readReg k).1, (s.readReg k).2) :=
  fun _ => stack_readReg s k

theorem stack_readWord (s : State) (a : Nat) : Delivers s (s.readWord a) := by
  unfold State.readWord
  simp only []
  generalize s.remapped a = b
  generalize s.region b = r
  cases r
  case periph => exact delivers_readReg s _
  case dram => exact delivers_ite _ _ _ _ (delivers_none _ _) (fun _ => stack_dramScan s _ _ _)
  all_goals
    simp only []
    generalize bankOf b = k
    cases k
    · intro _; rfl
    · exact delivers_ite _ _ _ _ (delivers_none _ _)
        (delivers_ite _ _ _ _ (delivers_none _ _) (fun _ => stack_fixSingles s _ _))

theorem stack_readWords (n : Nat) (s : State) (a : Nat) (h : (State.readWords n a s).2.1 = true) :
    (State.readWords n a s).2.2.ctl.stack = s.ctl.stack := by
  induction n generalizing s a with
  | zero => rfl
  | succ n ih =>
    unfold State.readWords at h ⊢
    simp only [] at h ⊢
    split
    · next g => rw [g] at h; simp at h
    · next w g =>
      rw [g] at h
      rw [ih _ _ h]
      exact stack_readWord s a (by rw [g]; rfl)


/-- The packets of the stack are the same ones, whatever their records. -/
def SamePackets (s t : State) : Prop := t.ctl.stack.map (fun p => (p.id, p.m)) = s.ctl.stack.map (fun p => (p.id, p.m))

theorem SamePackets.refl (s : State) : SamePackets s s := rfl
theorem SamePackets.of_eq {s t : State} (h : t.ctl.stack = s.ctl.stack) : SamePackets s t := by unfold SamePackets; rw [h]
theorem SamePackets.trans {s t u : State} (h : SamePackets s t) (g : SamePackets t u) : SamePackets s u := Eq.trans g h

theorem SamePackets.foldl {A : Type} {f : State → A → State} (hf : ∀ s a, SamePackets s (f s a)) (l : List A) (s : State) :
    SamePackets s (l.foldl f s) := by
  induction l generalizing s with
  | nil => exact SamePackets.refl s
  | cons a r ih => exact (hf s a).trans (ih _)

theorem SamePackets.head {s t : State} (h : SamePackets s t) :
    t.ctl.stack.head?.map (·.id) = s.ctl.stack.head?.map (·.id) := by
  unfold SamePackets at h
  cases hs : s.ctl.stack <;> cases ht : t.ctl.stack <;> simp_all

theorem samePackets_fillPayload (s : State) (t n : Nat) : SamePackets s (s.fillPayload t n) := by
  unfold SamePackets State.fillPayload
  simp [List.map_map, Function.comp_def]

theorem samePackets_moveReply (s : State) (t n : Nat) : SamePackets s (s.moveReply t n) :=
  (samePackets_fillPayload s t n).trans (SamePackets.of_eq (stack_release _ _))

theorem samePackets_cancelReply (s : State) (t : Nat) : SamePackets s (s.cancelReply t) :=
  (show SamePackets s (s.fillFree t) from samePackets_fillPayload s t _).trans (SamePackets.of_eq (stack_release _ _))

@[simp] theorem stack_emptyBerth (s : State) (c : Nat) (b : Berth) : (s.emptyBerth c b).ctl.stack = s.ctl.stack := by
  unfold State.emptyBerth; simp
@[simp] theorem stack_clearBerth (s : State) (c : Nat) : (s.clearBerth c).ctl.stack = s.ctl.stack := by
  unfold State.clearBerth; simp
@[simp] theorem stack_assignAll (s : State) : s.assignAll.ctl.stack = s.ctl.stack := by
  unfold State.assignAll
  exact stack_foldl _ (fun t k => stack_ite _ _ _ _ (stack_assignShadow _ _) rfl) _ _
@[simp] theorem stack_toTesting (s : State) (c : Nat) : (s.toTesting c).ctl.stack = s.ctl.stack := by
  unfold State.toTesting; simp

theorem samePackets_cancelMove (s : State) (t n : Nat) : SamePackets s (s.cancelMove t n) := by
  unfold State.cancelMove
  extract_lets r
  split
  · exact SamePackets.refl s
  · extract_lets keeps s1 s2 s3
    have h1 : s1.ctl.stack = s.ctl.stack := rfl
    have h2 : s2.ctl.stack = s1.ctl.stack := stack_ite _ _ _ _ rfl rfl
    have h3 : s3.ctl.stack = s2.ctl.stack :=
      stack_ite _ _ _ _ rfl (stack_clearBerth _ _)
    refine SamePackets.trans ?_ (SamePackets.of_eq (stack_assignAll _))
    exact (SamePackets.of_eq ((stack_ferryNotice _ _ _ _ _ _ _ _).trans (h3.trans (h2.trans h1)))).trans
      (samePackets_cancelReply _ _)

theorem samePackets_cancelUpdate (s : State) (t n : Nat) : SamePackets s (s.cancelUpdate t n) := by
  unfold State.cancelUpdate
  simp only []
  split
  · exact SamePackets.of_eq (by simp)
  · split
    · exact samePackets_cancelMove s t n
    · exact SamePackets.refl s

@[simp] theorem stack_modScene (s : State) (g : Nat) (f : Scene → Scene) : (s.modScene g f).ctl.stack = s.ctl.stack := rfl
@[simp] theorem stack_turnDone (s : State) (a b c d e f g h : Nat) : (s.turnDone a b c d e f g h).ctl.stack = s.ctl.stack := by
  unfold State.turnDone; simp
@[simp] theorem stack_cancelTurn (s : State) (g n : Nat) : (s.cancelTurn g n).ctl.stack = s.ctl.stack := by
  unfold State.cancelTurn State.armedDone; split <;> simp
@[simp] theorem stack_dropPending (s : State) (p : Nat → Bool) : (s.dropPending p).ctl.stack = s.ctl.stack := by
  have hb : ∀ (l : List Nat) (u : State), (l.foldl State.dropBerth u).ctl.stack = u.ctl.stack :=
    stack_foldl _ (fun _ _ => stack_putPages _ _ _ _)
  have hx : (s.xmDrop p).ctl.stack = s.ctl.stack := stack_foldl _ (fun _ _ => stack_xmEdit _ _ _) _ _
  have hp : ((s.xmDrop p).pnDrop p).ctl.stack = (s.xmDrop p).ctl.stack := stack_mapSections _ _
  unfold State.dropPending
  simp only [hb]
  rw [stack_foldl _ (fun _ _ => hb _ _), hp, hx]
@[simp] theorem stack_resetTurns (s : State) (g : Nat) : (s.resetTurns g).ctl.stack = s.ctl.stack := by
  unfold State.resetTurns State.armedDone
  rw [stack_foldl _ (fun _ _ => stack_turnDone _ _ _ _ _ _ _ _ _), stack_modScene]
@[simp] theorem stack_sceneMooring (s : State) (p : Nat → Bool) : (s.sceneMooring p).ctl.stack = s.ctl.stack := by
  unfold State.sceneMooring
  rw [stack_foldl _ (fun t g => stack_ite _ _ _ _ (stack_resetTurns t g) rfl)]
  simp

/-- A mooring reset takes the mooring's packets out of the stack and leaves the others in place. -/
theorem samePackets_mooringReset (s : State) (m : Fin 8) :
    (s.mooringReset m).ctl.stack.map (fun p => (p.id, p.m))
      = (s.ctl.stack.filter (fun p => p.m != m)).map (fun p => (p.id, p.m)) := by
  unfold State.mooringReset
  extract_lets t0 t1 mo x t2 t3 t4 t5 t6 t7
  have h1 : t1.ctl.stack = s.ctl.stack.filter (fun p => p.m != m) := stack_foldl _ (fun t c => stack_setQueue t _ _ _) _ t0
  have h4 : t4.ctl.stack = t1.ctl.stack := rfl
  have h5 : t5.ctl.stack = t4.ctl.stack := stack_sceneMooring _ _
  rw [stack_flushCheck]
  have h7 : SamePackets t6 t7 := SamePackets.foldl (fun t k => samePackets_cancelUpdate t k 3) _ _
  have h6 : t6.ctl.stack = t5.ctl.stack := rfl
  exact Eq.trans h7 (congrArg (List.map _) (h6.trans (h5.trans (h4.trans h1))))

/-- A mooring reset of another mooring leaves the packet at the front of the stack. -/
theorem head_mooringReset (s : State) (m : Fin 8) (p : Pkt) (r : List Pkt) (h : s.ctl.stack = p :: r) (hm : p.m ≠ m) :
    (s.mooringReset m).ctl.stack.head?.map (·.id) = some p.id := by
  have k := samePackets_mooringReset s m
  rw [h, List.filter_cons_of_pos (by simpa using hm)] at k
  cases ht : (s.mooringReset m).ctl.stack <;> simp_all

theorem head_engineAsk (s : State) (n : Nat) (p : Pkt) (r : List Pkt) (h : s.ctl.stack = p :: r) :
    (s.engineAsk n).ctl.stack.head?.map (·.id) = some p.id := by
  unfold State.engineAsk State.lastInsn
  rw [h]
  simp

/-- The packet at the front of the stack, where it is a packet of mooring 0, stays there. -/
def SameFront (s t : State) : Prop :=
  ∀ n, s.ctl.stack.head?.map (fun p => (p.id, p.m)) = some (n, 0) → t.ctl.stack.head?.map (fun p => (p.id, p.m)) = some (n, 0)

theorem SameFront.refl (s : State) : SameFront s s := fun _ h => h
theorem SameFront.trans {s t u : State} (h : SameFront s t) (g : SameFront t u) : SameFront s u := fun n k => g n (h n k)
theorem SameFront.of_eq {s t : State} (h : t.ctl.stack = s.ctl.stack) : SameFront s t := fun n k => by rw [h]; exact k
theorem SameFront.of_same {s t : State} (h : SamePackets s t) : SameFront s t := by
  intro n k
  unfold SamePackets at h
  cases hs : s.ctl.stack <;> cases ht : t.ctl.stack <;> simp_all
theorem SameFront.ite {s t u : State} {c : Prop} [Decidable c] (h : SameFront s t) (g : SameFront s u) :
    SameFront s (if c then t else u) := by split <;> assumption

theorem sameFront_foldl {A : Type} {f : State → A → State} (hf : ∀ s a, SameFront s (f s a)) (l : List A) (s : State) :
    SameFront s (l.foldl f s) := by
  induction l generalizing s with
  | nil => exact SameFront.refl s
  | cons a r ih => exact (hf s a).trans (ih _)

theorem sameFront_mooringReset (s : State) (m : Fin 8) (hm : m ≠ 0) : SameFront s (s.mooringReset m) := by
  intro n h
  have k := samePackets_mooringReset s m
  cases hs : s.ctl.stack with
  | nil => simp [hs] at h
  | cons p r =>
    simp only [hs, List.head?_cons, Option.map_some, Option.some.injEq, Prod.mk.injEq] at h
    have hp : p.m ≠ m := by rw [h.2]; exact hm.symm
    rw [hs, List.filter_cons_of_pos (by simpa using hp)] at k
    cases ht : (s.mooringReset m).ctl.stack <;> simp_all

@[simp] theorem stack_writeOwn (s : State) (a : Nat) (v : W32) : (s.writeOwn a v).ctl.stack = s.ctl.stack := rfl
@[simp] theorem stack_bringUp (s : State) : s.bringUp.ctl.stack = s.ctl.stack := by
  unfold State.bringUp State.engineDone; repeat' split
  all_goals simp
@[simp] theorem stack_kick (s : State) (v : W32) : (s.kick v).ctl.stack = s.ctl.stack := by
  unfold State.kick; split <;> rfl
@[simp] theorem stack_eccTestWrite (s : State) (v : W32) : (s.eccTestWrite v).ctl.stack = s.ctl.stack := by
  unfold State.eccTestWrite; simp only []; repeat' split
  all_goals simp
@[simp] theorem stack_queueWrite (s : State) (m c : Nat) (v : W32) : (s.queueWrite m c v).ctl.stack = s.ctl.stack := by
  unfold State.queueWrite; simp only []; split <;> simp

theorem sameFront_bindWrite (s : State) (m : Fin 8) (v : W32) : SameFront s (s.bindWrite m v) := by
  unfold State.bindWrite
  simp only []
  split
  · exact SameFront.refl s
  · rename_i h
    refine SameFront.ite (SameFront.ite (SameFront.refl s) ?_) (SameFront.ite (SameFront.of_eq rfl) (SameFront.ite (SameFront.of_eq rfl) (SameFront.of_eq rfl)))
    exact (sameFront_mooringReset s m (fun e => h (Or.inl e))).trans (SameFront.of_eq rfl)

theorem sameFront_writeReg (s : State) (a : Nat) (v : W32) (b : Bool) : SameFront s (s.writeReg a v b) := by
  unfold State.writeReg
  refine SameFront.ite (SameFront.of_eq rfl) (SameFront.ite (SameFront.refl s) ?_)
  split
  · exact SameFront.refl s
  · simp only []
    refine SameFront.ite ?_ ?_
    · split
      · exact sameFront_bindWrite s _ v
      · exact SameFront.refl s
    refine SameFront.ite (SameFront.of_eq (stack_queueWrite _ _ _ _)) ?_
    refine SameFront.ite (SameFront.of_eq rfl) ?_
    refine SameFront.ite (SameFront.of_eq (stack_eccTestWrite _ _)) ?_
    refine SameFront.ite (SameFront.ite (SameFront.refl s) (SameFront.of_eq rfl)) ?_
    refine SameFront.ite (SameFront.ite (SameFront.of_eq rfl) (SameFront.refl s)) ?_
    refine SameFront.ite (SameFront.of_eq (by rw [stack_kick, stack_setReg])) ?_
    refine SameFront.ite (SameFront.ite (SameFront.of_eq rfl) (SameFront.of_eq rfl)) ?_
    refine SameFront.ite (SameFront.of_eq rfl) ?_
    refine SameFront.ite (SameFront.of_eq rfl) ?_
    refine SameFront.ite (SameFront.ite (SameFront.of_eq (by rw [stack_bringUp, stack_setReg])) (SameFront.of_eq (by rw [stack_clearReady, stack_setReg]))) ?_
    refine SameFront.ite (SameFront.of_eq ?_) (SameFront.of_eq rfl)
    rw [stack_foldl _ (fun t e => ?_)]
    · rfl
    · rw [stack_foldl _ (fun t k => stack_editSection _ _ _)]

theorem sameFront_writeRegs (ws : List W32) (s : State) (a : Nat) : SameFront s (s.writeRegs a ws) := by
  induction ws generalizing s a with
  | nil => exact SameFront.refl s
  | cons w r ih =>
    unfold State.writeRegs
    exact (sameFront_writeReg s a w false).trans (ih _ _)

end Sys2Proof.Machine
end

