-- ==== Sys2Proof/Tests/Slice0.lean ====
section
/-! SUPPORT. Tests/Slice0.lean: tests of the model on small states, and for every statement with hypotheses a theorem
witness_<Statement> that gives a state and operands that meet them. Expected values are those of the spec's tables and rules;
the comment before a test names the rule. -/

open Sys2Proof Sys2Proof.Machine

set_option Elab.async false

namespace Sys2Proof.Tests

/-! ## States -/

/-- The state of an outcome that is a next state. -/
def next (o : Out) (s : State) : State := match o with | .next t => t | _ => s

/-- Commands one after the other. -/
def go (s : State) (l : List Instr) : State := l.foldl (fun t c => next (exec c t) t) s

/-- The block out of DEVICE reset, before its clocks lock. -/
def cold : State := go .reset [.vddAoRise, .pwrgoodRise, .deviceResetRelease 0]

/-- The engine running: firmware, clocks locked, gates open, every unit ready. -/
def live : State :=
  [(F.SYS_READY, 0xFFFFFFFF), (F.CKG_ENn 0, 0xFFFFFFFF), (F.CKG_ENn 1, 0xFFFFFFFF), (F.CKG_ENn 2, 0xFFFFFFFF),
    (F.CKG_ENn 3, 0xFFFFFFFF)].foldl (fun t e => t.setReg e.1 e.2)
    ((({ State.reset with
      pwr := { State.reset.pwr with por := false, good := true, held := false },
      ctl := { State.reset.ctl with run := .firmware } } : State).setFld F.CKM_STAT_XOSTABLE 1).setFld F.PLL0_STAT_LOCK 1)

/-- A request of a mooring in a class. -/
def rq (m : Fin 8) (c : Fin 4) (mod : Nat) (ops : List W32) : Req := ⟨m, c, false, BitVec.ofNat 16 mod, ops⟩

/-- The matrix in console mode with 16 of each; slot 5 IN, slot 6 OUT, slot 7 WORK. -/
def decked : State :=
  (((live.setReg F.XM_CFG (0x80000000 ||| at32 16 20 ||| at32 16 11 ||| at32 16 1)).setKind 5 .inp).setKind 6 .out).setKind 7 .work

/-- Task 0 on berth 0, in a berth state. -/
def berth0 (b : Berth) : State := live.modCore 0 (fun k => { k with state := b, image := { k.image with ferryok := true, pglen := 32 } })

/-- The first n words of a header of 64 bytes, as a load that has received them. -/
def loaded (n : Nat) : Core → Core := fun k => { k with state := .loading, load := some ⟨64,
  ((([0x5A595331, 0x10002, 1, 0, 0x200000] ++ List.replicate 11 0 : List W32)).take n).reverse⟩ }

/-- Task 0 active, berth 1 a spare at rest. -/
def spared : State := ((berth0 .active).setReg F.SC_SPARE 2).modCore 1 (fun k => { k with state := .standby })

/-- Task 0 with an update open on berth 1. -/
def updating (n : Nat) : State :=
  (spared.modCore 1 (fun k => { loaded n k with task := 0 })).modTask 0 (fun r => { r with upd := 1, updBerth := 1 })

/-- Task 0 away on berth 1. -/
def away : State :=
  ((berth0 .idle).modCore 1 (fun k => { k with state := .active, task := 0 })).modTask 0 (fun r => { r with berth := 1 })

/-- Task 0 paired with berth 1. -/
def paired : State :=
  ((berth0 .active).modCore 1 (fun k => { k with state := .active, task := 0 })).modTask 0 (fun r => { r with partner := some 1 })

/-- A move of task 0 from berth 0 to berth 1. -/
def aMove : Move :=
  { kind := .drill, src := 0, dst := 1, mirrored := false, ctx := none, notBefore := 0, handed := none, firstWrite := none,
    wrote := [], rejoin := false }

/-- A receive context of 1 channel; one that transmits. -/
def rxCtx : Ctx := newCtx [0x20000000, 0x00300000, 0xEF000001, 0, at32 5004 16, 0, 0, 0]

/-- 1 MiB of DRAM in use. -/
def drammed : State := live.setFld F.DRC_CAP_USE 1

/-- The boot loader runs. -/
def loader : State := { live with ctl := { live.ctl with run := .loader } }

/-! ## Witnesses of the statements about instructions -/

/-- State.room as a test. -/
def roomB (s : State) (op : Nat) (q : Req) (n : Nat) : Bool :=
  match s.packet op q with
  | some p => decide (replyLen s p n ≤ s.replyMax q.m)
  | none => true

theorem room_of {s : State} {op : Nat} {q : Req} {n : Nat} (h : roomB s op q n = true) : s.room op q n := by
  intro p hp
  simpa [roomB, hp] using h

theorem takes_of {s : State} {op k : Nat} {q : Req}
    (h : (s.serves op q && s.executes op && modSel op q.mod == some k) = true) : s.takes op k q := by
  simp only [Bool.and_eq_true, beq_iff_eq] at h
  exact ⟨h.1.1, h.1.2, h.2⟩

/-- State.clear as a test. -/
def clearB (s : State) (op k : Nat) (q : Req) (errs : State → List (Bool × Nat)) : Bool :=
  (s.serves op q && s.executes op && modSel op q.mod == some k) && roomB s op q 0 && firstErr (errs (s.enter op q)) == none

theorem clear_of {s : State} {op k : Nat} {q : Req} {errs : State → List (Bool × Nat)} (h : clearB s op k q errs = true) :
    s.clear op k q errs := by
  simp only [clearB, Bool.and_eq_true, beq_iff_eq] at h
  exact ⟨takes_of (by simp [h.1.1]), room_of h.1.2, h.2⟩

theorem witness_BasicInstructions :
    (∃ (q : Req) (s : State), s.clear 0x00 0 q (fun _ => errsNop q true)) ∧
    (∃ (q : Req) (s : State), s.clear 0x01 0 q (fun _ => errsEcho q true) ∧ s.room 0x01 q q.ops.length) ∧
    (∃ (q : Req) (s : State), let u := s.enter 0x02 q; s.clear 0x02 0 q (fun _ => errsQueryDevice q true) ∧ s.room
      0x02 q (u.deviceWords q.m).length) ∧
    (∃ (q : Req) (s : State), let u := s.enter 0x02 q; s.clear 0x02 1 q (fun _ => errsQueryFrame q true) ∧ s.room 0x02
      q u.frameNow.length) ∧
    (∃ (q : Req) (s : State), let u := s.enter 0x02 q; s.clear 0x02 2 q (fun _ => errsQuerySelf q true) ∧ s.room 0x02
      q (u.selfWords q.m).length) ∧
    (∃ (q : Req) (s : State), s.clear 0x10 0 q (errsRate q true)) ∧
    (∃ (q : Req) (s : State), s.clear 0x7E 0 q (fun _ => errsSubscribe q true)) ∧
    (∃ (q : Req) (s : State), s.clear 0x7F 0 q (fun _ => errsFlush q true)) :=
  ⟨⟨rq 0 2 0 [], live, clear_of (by decide +kernel)⟩,
   ⟨rq 3 2 0 [7, 8], live, clear_of (by decide +kernel), room_of (by decide +kernel)⟩,
   ⟨rq 3 2 0 [], live, clear_of (by decide +kernel), room_of (by decide +kernel)⟩,
   ⟨rq 3 2 1 [], live, clear_of (by decide +kernel), room_of (by decide +kernel)⟩,
   ⟨rq 3 2 2 [], live, clear_of (by decide +kernel), room_of (by decide +kernel)⟩,
   ⟨rq 0 2 0 [2], live, clear_of (by decide +kernel)⟩,
   ⟨rq 3 2 0 [6], live, clear_of (by decide +kernel)⟩,
   ⟨rq 0 2 0 [0x202], live, clear_of (by decide +kernel)⟩⟩

theorem witness_SlotTimetableAndSceneInstructions :
    (∃ (q : Req) (s : State), s.clear 0x11 0 q (errsSlotmapKind q true)) ∧
    (∃ (q : Req) (s : State), s.clear 0x11 1 q (errsBind q false true)) ∧
    (∃ (q : Req) (s : State), s.clear 0x11 2 q (errsBind q true true)) ∧
    (∃ (q : Req) (s : State), s.clear 0x11 3 q (errsSlotmapUnbind q true)) ∧
    (∃ (q : Req) (s : State), s.clear 0x12 0 q (errsTimetable q true)) ∧
    (∃ (q : Req) (s : State), s.clear 0x29 0 q (errsTurn q (shape true q 3) ((opw q 2).toNat + (opw q 3).toNat * 2 ^
      32)) ∧ s.room 0x29 q (indexWords ((opw q 2).toNat + (opw q 3).toNat * 2 ^ 32)).length) ∧
    (∃ (q : Req) (s : State), let u := s.enter 0x29 q; s.clear 0x29 1 q (fun v => errsTurn q (shape true q 1) (16 *
      (v.tt.frame + 2)) v) ∧ s.room 0x29 q (indexWords (16 * (u.tt.frame + 2))).length) ∧
    (∃ (q : Req) (s : State), let u := s.enter 0x2A q; s.clear 0x2A 0 q (errsDrop q true) ∧ s.room 0x2A q [flag
      (u.settled.scene (opf q 1 3 0)).armed.isSome 0].length) :=
  ⟨⟨rq 0 2 0 [5, 0x10003], live, clear_of (by decide +kernel)⟩,
   ⟨rq 0 2 1 [0x50007], decked, clear_of (by decide +kernel)⟩,
   ⟨rq 0 2 2 [0x60007], decked, clear_of (by decide +kernel)⟩,
   ⟨rq 0 2 3 [7], live, clear_of (by decide +kernel)⟩,
   ⟨rq 0 2 0 [0, 0, 0], live, clear_of (by decide +kernel)⟩,
   ⟨rq 0 2 0 [3, 160, 0], live, clear_of (by decide +kernel), room_of (by decide +kernel)⟩,
   ⟨rq 0 2 1 [3], live, clear_of (by decide +kernel), room_of (by decide +kernel)⟩,
   ⟨rq 0 2 0 [3], live, clear_of (by decide +kernel), room_of (by decide +kernel)⟩⟩

theorem witness_MatrixInstructions :
    (∃ (q : Req) (s : State), let u := s.enter 0x18 q; s.clear 0x18 0 q (errsXptSet q true) ∧ u.marks = []) ∧
    (∃ (q : Req) (s : State), let u := s.enter 0x18 q; s.clear 0x18 1 q (errsXptRead q true) ∧ (u.marks = [] ∧ u.marching 3 = false) ∧ s.room
      0x18 q (q.ops.flatMap (fun w => xmWords (u.xmEntry (xpOf w).key))).length) ∧
    (∃ (q : Req) (s : State), let u := s.enter 0x19 q; s.clear 0x19 0 q (errsXblk q true) ∧ u.marks = []) ∧
    (∃ (q : Req) (s : State), s.clear 0x1A 0 q (errsXmodeMode q true)) ∧
    (∃ (q : Req) (s : State), s.clear 0x1A 1 q (errsXmodeInslot q true)) ∧
    (∃ (q : Req) (s : State), s.clear 0x1A 2 q (errsXmodeBusslot q true)) ∧
    (∃ (q : Req) (s : State), s.clear 0x1A 3 q (errsXmodeOutslot q true)) :=
  ⟨⟨rq 0 2 0 [0x00020003, 0x00400000], decked, clear_of (by decide +kernel), by decide +kernel⟩,
   ⟨rq 0 2 1 [0x00020003], decked, clear_of (by decide +kernel), by decide +kernel, room_of (by decide +kernel)⟩,
   ⟨rq 0 2 0 [0x00020003, 0x00010000, 0x00000000, 0x00400000, 0x00400000], decked, clear_of (by decide +kernel), by
     decide +kernel⟩,
   ⟨rq 0 2 0 [0], live, clear_of (by decide +kernel)⟩,
   ⟨rq 0 2 1 [3, 0x80000005], decked, clear_of (by decide +kernel)⟩,
   ⟨rq 0 2 2 [3, 0], live, clear_of (by decide +kernel)⟩,
   ⟨rq 0 2 3 [3, 0x80000006], decked, clear_of (by decide +kernel)⟩⟩

theorem witness_PontoonInstructions :
    (∃ (q : Req) (s : State), let u := s.enter 0x20 q; s.clear 0x20 0 q (errsSos q false true) ∧ firstUnstable (sosOps
      q.ops) = none ∧ firstErr (errsSosState q u) = none ∧ u.marks = []) ∧
    (∃ (q : Req) (s : State), let u := s.enter 0x20 q; s.clear 0x20 1 q (errsSos q true true) ∧ firstUnstable (sosOps
      q.ops) = none ∧ firstErr (errsSosState q u) = none ∧ u.marks = []) ∧
    (∃ (q : Req) (s : State), s.clear 0x21 0 q (errsSpanDefine q true)) ∧
    (∃ (q : Req) (s : State), s.clear 0x21 1 q (errsSpanDelete q true)) ∧
    (∃ (q : Req) (s : State), let u := s.enter 0x22 q; s.clear 0x22 0 q (errsSosrd q true) ∧ (u.marks = [] ∧ u.marching 4 = false) ∧ s.room
      0x22 q ((rangeFrom (opf q 1 14 0) (opf q 1 18 16 + 1)).flatMap (fun i => sosWords q.mod.toNat (u.section_
      i))).length) :=
  ⟨⟨rq 0 2 0 [3, 0, 0, 0, 0, 0, 0], live, clear_of (by decide +kernel), by decide +kernel, by decide +kernel, by
     decide +kernel⟩,
   ⟨rq 0 2 1 [3, 0, 0, 0, 0, 0, 0], live, clear_of (by decide +kernel), by decide +kernel, by decide +kernel, by
     decide +kernel⟩,
   ⟨rq 0 2 0 [3, 0x80010000, 0x00060005], decked, clear_of (by decide +kernel)⟩,
   ⟨rq 0 2 1 [3], live, clear_of (by decide +kernel)⟩,
   ⟨rq 0 2 0 [3], live, clear_of (by decide +kernel), by decide +kernel, room_of (by decide +kernel)⟩⟩

theorem witness_TaskInstructions :
    (∃ (q : Req) (s : State), s.clear 0x30 0 q (errsTaskOpen q true)) ∧
    (∃ (q : Req) (s : State) (l : Load), let u := s.enter 0x30 q; s.clear 0x30 1 q (errsTaskData q true) ∧ (u.loadOf
      (opTask q) (opTask q) = some l ∧ (16 ≤ l.words.length ∨ (l.got ++ q.ops.drop 2).length < 16 ∨ headerOk (l.got ++
      q.ops.drop 2) l.length = true))) ∧
    (∃ (q : Req) (s : State), let u := s.enter 0x30 q
      s.clear 0x30 2 q (fun w => (errsTaskStart q true w).take 4) ∧
      firstErr (errsTaskStart q true (u.signRead ((((u.loadOf (opTask q) (opTask q)).filter Load.full).map Load.got).getD []))) = none ∧
      s.room 0x30 q (frameWords ((u.startFrame (opw q 2) (opw q 3)).getD 0)).length) ∧
    (∃ (q : Req) (s : State), let u := s.enter 0x30 q; s.clear 0x30 3 q (errsTaskInfo q true) ∧ s.room 0x30 q ([u.view
      (F.SCc_STAT (u.taskBerth (opTask q))), u.view (F.SCc_FAULT (u.taskBerth (opTask q))), u.view (F.SCc_CYCMAX
      (u.taskBerth (opTask q))), u.view (F.SCc_IMG (u.taskBerth (opTask q)))]).length) ∧
    (∃ (q : Req) (s : State), s.clear 0x31 0 q (errsTstop q true)) ∧
    (∃ (q : Req) (s : State), s.clear 0x31 1 q (errsTstop q true)) ∧
    (∃ (q : Req) (s : State), s.clear 0x32 0 q (errsTparamWrite q true)) ∧
    (∃ (q : Req) (s : State), let u := s.enter 0x32 q; s.clear 0x32 1 q (errsTparamRead q true) ∧ (u.marks = [] ∧
      u.marching (8 + u.taskBerth (opTask q)) = false) ∧
      s.room 0x32 q ((rangeFrom (opPage q) (opf q 2 9 0 + 1)).map (lookD (u.core (u.taskBerth (opTask q))).mems.active
      0)).length) ∧
    (∃ (q : Req) (s : State), let u := s.enter 0x32 q; s.clear 0x32 2 q (errsTparamRead q true) ∧ (u.marks = [] ∧
      u.marching (8 + u.taskBerth (opTask q)) = false) ∧
      s.room 0x32 q ((rangeFrom (opPage q) (opf q 2 9 0 + 1)).map (lookD (u.core (u.taskBerth (opTask
      q))).mems.inactive 0)).length) :=
  ⟨⟨rq 0 2 0 [0, 64], live, clear_of (by decide +kernel)⟩,
   ⟨rq 0 2 1 [0, 0, 1], ((berth0 .idle).modCore 0 (loaded 0)), ⟨64, []⟩, clear_of (by decide +kernel), by
     decide +kernel, by decide +kernel⟩,
   ⟨rq 0 2 2 [0, 0, 0], ((berth0 .idle).modCore 0 (loaded 16)), clear_of (by decide +kernel), by decide +kernel, room_of
     (by decide +kernel)⟩,
   ⟨rq 0 2 3 [0], live, clear_of (by decide +kernel), room_of (by decide +kernel)⟩,
   ⟨rq 0 2 0 [0], (berth0 .active), clear_of (by decide +kernel)⟩,
   ⟨rq 0 2 1 [0], (berth0 .active), clear_of (by decide +kernel)⟩,
   ⟨rq 0 2 0 [0x00020000, 9], (berth0 .active), clear_of (by decide +kernel)⟩,
   ⟨rq 0 2 1 [0x00020000, 1], (berth0 .active), clear_of (by decide +kernel), by decide +kernel, room_of
     (by decide +kernel)⟩,
   ⟨rq 0 2 2 [0x00020000, 1], (berth0 .active), clear_of (by decide +kernel), by decide +kernel, room_of
     (by decide +kernel)⟩⟩

theorem witness_FerryTandemAndSpareInstructions :
    (∃ (q : Req) (s : State), s.clear 0x33 0 q (errsFerryUopen q true)) ∧
    (∃ (q : Req) (s : State) (l : Load), let u := s.enter 0x33 q; s.clear 0x33 1 q (errsFerryUdata q true) ∧
      (u.updLoad (opTask q) = some l ∧ (16 ≤ l.words.length ∨ (l.got ++ q.ops.drop 2).length < 16 ∨ headerOk (l.got ++
      q.ops.drop 2) l.length = true))) ∧
    (∃ (q : Req) (s : State), let u := s.enter 0x33 q
      s.clear 0x33 2 q (fun w => (errsFerryUcommit q true w).take 4) ∧
      firstErr (errsFerryUcommit q true (u.signRead ((((u.updLoad (opTask q)).filter Load.full).map Load.got).getD []))) = none ∧
      s.room 0x33 q (payloadOpen (opTask q)).length) ∧
    (∃ (q : Req) (s : State), s.clear 0x33 3 q (errsFerryCancel q true)) ∧
    (∃ (q : Req) (s : State), s.clear 0x33 4 q (errsFerryRevert q true)) ∧
    (∃ (q : Req) (s : State), s.clear 0x33 5 q (errsFerryDrill q true)) ∧
    (∃ (q : Req) (s : State), let u := s.enter 0x33 q; s.clear 0x33 6 q (errsFerryInfo q true) ∧ s.room 0x33 q [u.view
      (F.SC_TFt (opTask q)), u.view (F.SC_TFt_HOLD (opTask q)), u.view F.SC_FSTAT].length) ∧
    (∃ (q : Req) (s : State), s.clear 0x34 0 q (errsTandemOn q true) ∧ s.room 0x34 q (payloadOpen (opTask q)).length) ∧
    (∃ (q : Req) (s : State), s.clear 0x34 1 q (errsTandemOff q true)) ∧
    (∃ (q : Req) (s : State) (f : Nat), let u := s.enter 0x34 q; s.clear 0x34 2 q (errsTandemInfo q true) ∧ (u.task
      (opTask q)).partner = some f ∧ s.room 0x34 q [u.view (F.SC_TFt (opTask q)), u.view (F.SCc_STAT (u.taskBerth
      (opTask q))), u.view (F.SCc_STAT f)].length) ∧
    (∃ (q : Req) (s : State), let u := s.enter 0x34 q; s.clear 0x34 2 q (errsTandemInfo q true) ∧ (u.task (opTask
      q)).partner = none ∧ s.room 0x34 q [u.view (F.SC_TFt (opTask q)), u.view (F.SCc_STAT (u.taskBerth (opTask q))),
      Config.freeWord u.free].length) ∧
    (∃ (q : Req) (s : State), s.clear 0x35 0 q (errsSpareSet q true)) ∧
    (∃ (q : Req) (s : State), s.clear 0x35 1 q (fun _ => errsSpareHold q true)) ∧
    (∃ (q : Req) (s : State), let u := s.enter 0x35 q; s.clear 0x35 2 q (fun _ => errsSpareInfo q true) ∧ s.room 0x35
      q [u.view F.SC_SPARE, u.view F.SC_FERRY_HOLD, u.view F.SC_FSTAT].length) :=
  ⟨⟨rq 0 2 0 [0x0100, 64], spared, clear_of (by decide +kernel)⟩,
   ⟨rq 0 2 1 [0, 0, 1], (updating 0), ⟨64, []⟩, clear_of (by decide +kernel), by decide +kernel, by decide +kernel⟩,
   ⟨rq 0 2 2 [0, 0, 0], (updating 16), clear_of (by decide +kernel), by decide +kernel, room_of (by decide +kernel)⟩,
   ⟨rq 0 2 3 [0], (updating 0), clear_of (by decide +kernel)⟩,
   ⟨rq 0 2 4 [0], away, clear_of (by decide +kernel)⟩,
   ⟨rq 0 2 5 [0], (spared.modTask 0 (fun r => { r with sh := .ready, shBerth := 1 })), clear_of (by decide +kernel)⟩,
   ⟨rq 0 2 6 [0], live, clear_of (by decide +kernel), room_of (by decide +kernel)⟩,
   ⟨rq 0 2 0 [0x0100, 0, 0], (berth0 .active), clear_of (by decide +kernel), room_of (by decide +kernel)⟩,
   ⟨rq 0 2 1 [0], paired, clear_of (by decide +kernel)⟩,
   ⟨rq 0 2 2 [0], paired, 1, clear_of (by decide +kernel), by decide +kernel, room_of (by decide +kernel)⟩,
   ⟨rq 0 2 2 [0], live, clear_of (by decide +kernel), by decide +kernel, room_of (by decide +kernel)⟩,
   ⟨rq 0 2 0 [0xC0000002], live, clear_of (by decide +kernel)⟩,
   ⟨rq 0 2 1 [5], live, clear_of (by decide +kernel)⟩,
   ⟨rq 0 2 2 [], live, clear_of (by decide +kernel), room_of (by decide +kernel)⟩⟩

theorem witness_StreamZoneAndAlarmInstructions :
    (∃ (q : Req) (s : State), s.clear 0x40 0 q (errsStreamDefine q true)) ∧
    (∃ (q : Req) (s : State), s.clear 0x40 1 q (errsStreamDelete q true)) ∧
    (∃ (q : Req) (s : State) (c : Ctx), let u := s.enter 0x40 q; s.clear 0x40 2 q (errsStreamRead q true) ∧ (u.ctx
      (opf q 1 8 0)).bind Ctx.settled = some c ∧ s.room 0x40 q c.record.length) ∧
    (∃ (q : Req) (s : State), let u := s.enter 0x40 q; s.clear 0x40 2 q (errsStreamRead q true) ∧ (u.ctx (opf q 1 8
      0)).bind Ctx.settled = none ∧ s.room 0x40 q ((rangeFrom u.free 8).map Config.freeWord).length) ∧
    (∃ (q : Req) (s : State), let u := s.enter 0x41 q; s.clear 0x41 0 q (errsSctlStart q true) ∧ s.room 0x41 q
      (frameWords ((u.startFrame (opw q 2) (opw q 3)).getD 0)).length) ∧
    (∃ (q : Req) (s : State), s.clear 0x41 1 q (errsSctlStop q true)) ∧
    (∃ (q : Req) (s : State), let u := s.enter 0x41 q; s.clear 0x41 2 q (errsSctlStatus q true) ∧ s.room 0x41 q
      ((rangeFrom (opf q 1 8 0) (opf q 1 24 16 + 1)).map u.sctlWord).length) ∧
    (∃ (q : Req) (s : State), s.clear 0x42 0 q (errsZoneBind q true)) ∧
    (∃ (q : Req) (s : State), s.clear 0x42 1 q (errsZoneClaim q true)) ∧
    (∃ (q : Req) (s : State), s.clear 0x42 2 q (errsZoneRelease q true)) ∧
    (∃ (q : Req) (s : State), let u := s.enter 0x42 q; s.clear 0x42 3 q (errsZoneRead q true) ∧ s.room 0x42 q
      ((rangeFrom (opf q 1 12 0) (opf q 2 7 0 + 1)).map (fun i => (u.zone i).word)).length) ∧
    (∃ (q : Req) (s : State), s.clear 0x59 0 q (errsAlarm q true)) ∧
    (∃ (q : Req) (s : State), s.clear 0x59 1 q (errsAlarm q true)) ∧
    (∃ (q : Req) (s : State), let u := s.enter 0x59 q; s.clear 0x59 2 q (fun _ => errsAlarmStatus q true) ∧ s.room
      0x59 q (u.alarmWords (opf q 1 12 0) (opf q 2 7 0 + 1)).length) :=
  ⟨⟨rq 0 2 0 [3, 0x20000000, 0x00300000, 0xEF000001, 0, 0x138C0000, 0, 0, 0], live, clear_of (by decide +kernel)⟩,
   ⟨rq 0 2 1 [3], live, clear_of (by decide +kernel)⟩,
   ⟨rq 0 2 2 [3], (live.setCtx 3 rxCtx), rxCtx, clear_of (by decide +kernel), by decide +kernel, room_of
     (by decide +kernel)⟩,
   ⟨rq 0 2 2 [3], live, clear_of (by decide +kernel), by decide +kernel, room_of (by decide +kernel)⟩,
   ⟨rq 0 2 0 [3, 0, 0], (live.setCtx 3 rxCtx), clear_of (by decide +kernel), room_of (by decide +kernel)⟩,
   ⟨rq 0 2 1 [3], (live.setCtx 3 { rxCtx with run := true }), clear_of (by decide +kernel)⟩,
   ⟨rq 0 2 2 [3], live, clear_of (by decide +kernel), room_of (by decide +kernel)⟩,
   ⟨rq 0 2 0 [3, 0x80002007], live, clear_of (by decide +kernel)⟩,
   ⟨rq 0 2 1 [3, 3, 5], live, clear_of (by decide +kernel)⟩,
   ⟨rq 0 2 2 [3, 3], live, clear_of (by decide +kernel)⟩,
   ⟨rq 0 2 3 [3, 1], live, clear_of (by decide +kernel), room_of (by decide +kernel)⟩,
   ⟨rq 0 0 0 [3, 4], live, clear_of (by decide +kernel)⟩,
   ⟨rq 0 0 1 [3, 4], live, clear_of (by decide +kernel)⟩,
   ⟨rq 3 2 2 [3, 1], live, clear_of (by decide +kernel), room_of (by decide +kernel)⟩⟩

theorem witness_TimeAndReferenceInstructions :
    (∃ (q : Req) (s : State), s.clear 0x44 0 q (errsNtapSend q true)) ∧
    (∃ (q : Req) (s : State), let u := s.enter 0x44 q; s.clear 0x44 1 q (fun _ => errsNtapRecv q true) ∧ s.room 0x44 q
      u.net.tapWords.length) ∧
    (∃ (q : Req) (s : State), s.clear 0x44 2 q (fun _ => errsNtapFilter q true)) ∧
    (∃ (q : Req) (s : State), let u := s.enter 0x48 q; s.clear 0x48 0 q (errsTimeGet q true) ∧ s.room 0x48 q
      u.timeWords.length) ∧
    (∃ (q : Req) (s : State), s.clear 0x48 1 q (errsTimeStep q true)) ∧
    (∃ (q : Req) (s : State), s.clear 0x48 2 q (errsTimeFreq q true)) ∧
    (∃ (q : Req) (s : State), s.clear 0x49 0 q (errsPtpcfg q true)) ∧
    (∃ (q : Req) (s : State), s.clear 0x4A 0 q (errsRefselInput q true)) ∧
    (∃ (q : Req) (s : State), s.clear 0x4A 1 q (errsRefselMode q true)) ∧
    (∃ (q : Req) (s : State), let u := s.enter 0x4A q; s.clear 0x4A 2 q (errsRefselStatus q true) ∧ s.room 0x4A q
      (u.view F.RSEL_STAT :: (List.range 12).map (fun i => u.view (F.RSEL_INn_STAT i))).length) ∧
    (∃ (q : Req) (s : State), s.clear 0x4B 0 q (errsRealign q true)) :=
  ⟨⟨rq 0 2 0 ([0x003C0000] ++ List.replicate 15 0), live, clear_of (by decide +kernel)⟩,
   ⟨rq 0 2 1 [], live, clear_of (by decide +kernel), room_of (by decide +kernel)⟩,
   ⟨rq 0 2 2 [3, 0x80000800], live, clear_of (by decide +kernel)⟩,
   ⟨rq 3 2 0 [], live, clear_of (by decide +kernel), room_of (by decide +kernel)⟩,
   ⟨rq 0 2 1 [5, 0, 0, 0], (live.setFld F.TIME_CFG_PROFILE 4), clear_of (by decide +kernel)⟩,
   ⟨rq 0 2 2 [5], (live.setFld F.TIME_CFG_PROFILE 4), clear_of (by decide +kernel)⟩,
   ⟨rq 0 2 0 [0, 0, 0x03000000], live, clear_of (by decide +kernel)⟩,
   ⟨rq 0 2 0 [0, 0, 0, 0], live, clear_of (by decide +kernel)⟩,
   ⟨rq 0 2 1 [0], live, clear_of (by decide +kernel)⟩,
   ⟨rq 3 2 2 [], live, clear_of (by decide +kernel), room_of (by decide +kernel)⟩,
   ⟨rq 0 2 0 [0, 0, 0], live, clear_of (by decide +kernel)⟩⟩

theorem witness_PortGangwayAndMeterInstructions :
    (∃ (q : Req) (s : State), s.clear 0x50 0 q (errsPortTdmgrp q true)) ∧
    (∃ (q : Req) (s : State), s.clear 0x50 1 q (errsPortTdmlane q true)) ∧
    (∃ (q : Req) (s : State), s.clear 0x50 2 q (errsPortAesrx q true)) ∧
    (∃ (q : Req) (s : State), s.clear 0x50 3 q (errsPortAestx q true)) ∧
    (∃ (q : Req) (s : State), s.clear 0x50 4 q (errsPortLim q true)) ∧
    (∃ (q : Req) (s : State), s.clear 0x50 5 q (errsPortChan q true)) ∧
    (∃ (q : Req) (s : State), s.clear 0x51 0 q (errsAsrcAssign q true)) ∧
    (∃ (q : Req) (s : State), s.clear 0x51 1 q (errsAsrcRelease q true)) ∧
    (∃ (q : Req) (s : State), let u := s.enter 0x51 q; s.clear 0x51 2 q (errsAsrcStatus q true) ∧ s.room 0x51 q
      [u.view (F.ASRCn_STAT (opf q 1 4 0))].length) ∧
    (∃ (q : Req) (s : State), s.clear 0x52 0 q (errsCstatTxset q true)) ∧
    (∃ (q : Req) (s : State), let u := s.enter 0x52 q; s.clear 0x52 1 q (errsCstatRxread q true) ∧ s.room 0x52 q
      ((u.rx (opf q 1 2 0)).blocks.getD (opf q 1 8 8) []).length) ∧
    (∃ (q : Req) (s : State), s.clear 0x58 0 q (errsGangwayInsrc q true)) ∧
    (∃ (q : Req) (s : State), s.clear 0x58 1 q (errsGangwayInopen q true)) ∧
    (∃ (q : Req) (s : State), s.clear 0x58 2 q (errsGangwayGain q true)) ∧
    (∃ (q : Req) (s : State), s.clear 0x58 3 q (errsGangwayOut q true)) ∧
    (∃ (q : Req) (s : State), s.clear 0x60 0 q (errsMeterSet q true)) ∧
    (∃ (q : Req) (s : State), let u := s.enter 0x60 q; s.clear 0x60 1 q (errsMeterRead q true) ∧ s.room 0x60 q
      (u.peaks q.m (opf q 1 10 0) (opf q 2 7 0 + 1)).length) ∧
    (∃ (q : Req) (s : State), s.clear 0x60 2 q (errsMeterNotify q true)) :=
  ⟨⟨rq 0 2 0 [1, 0x00800000], live, clear_of (by decide +kernel)⟩,
   ⟨rq 0 2 1 [1, 0], live, clear_of (by decide +kernel)⟩,
   ⟨rq 0 2 2 [1, 0], live, clear_of (by decide +kernel)⟩,
   ⟨rq 0 2 3 [1, 0], live, clear_of (by decide +kernel)⟩,
   ⟨rq 0 2 4 [1, 0x00040000], live, clear_of (by decide +kernel)⟩,
   ⟨rq 0 2 5 [0x00030001], live, clear_of (by decide +kernel)⟩,
   ⟨rq 0 2 0 [1, 0], live, clear_of (by decide +kernel)⟩,
   ⟨rq 0 2 1 [1], live, clear_of (by decide +kernel)⟩,
   ⟨rq 0 2 2 [1], live, clear_of (by decide +kernel), room_of (by decide +kernel)⟩,
   ⟨rq 0 2 0 [0x101, 0, 0, 0, 0, 0, 0], live, clear_of (by decide +kernel)⟩,
   ⟨rq 0 2 1 [1], live, clear_of (by decide +kernel), room_of (by decide +kernel)⟩,
   ⟨rq 0 2 0 [0x20001], live, clear_of (by decide +kernel)⟩,
   ⟨rq 0 2 1 [2, 0x00040000], live, clear_of (by decide +kernel)⟩,
   ⟨rq 0 2 2 [2, 0x00010000], live, clear_of (by decide +kernel)⟩,
   ⟨rq 0 2 3 [2, 1], live, clear_of (by decide +kernel)⟩,
   ⟨rq 0 2 0 [2, 0x80000001], live, clear_of (by decide +kernel)⟩,
   ⟨rq 0 2 1 [2, 1], live, clear_of (by decide +kernel), room_of (by decide +kernel)⟩,
   ⟨rq 0 2 2 [2, 1, 3], live, clear_of (by decide +kernel)⟩⟩

theorem witness_SystemInstructions :
    (∃ (q : Req) (s : State), s.clear 0x68 0 q (errsMemtestMarch q true)) ∧
    (∃ (q : Req) (s : State), let u := s.enter 0x68 q; s.clear 0x68 1 q (errsMemtestStatus q true) ∧ s.room 0x68 q
      [u.view (F.MARCH_RESb (opf q 1 7 0))].length) ∧
    (∃ (q : Req) (s : State), s.clear 0x69 0 q (errsScrubEnable q true)) ∧
    (∃ (q : Req) (s : State), let u := s.enter 0x69 q; s.clear 0x69 1 q (errsScrubStatus q true) ∧ s.room 0x69 q
      [u.view F.SCRB_LAP, u.view F.SCRB_CNT].length) ∧
    (∃ (q : Req) (s : State), s.clear 0x70 0 q (errsPower q true)) ∧
    (∃ (q : Req) (s : State), s.clear 0x71 0 q (errsClockGate q true)) ∧
    (∃ (q : Req) (s : State), s.clear 0x71 1 q (errsClockMclk q true)) ∧
    (∃ (q : Req) (s : State), s.clear 0x71 2 q (errsClockBand q true)) ∧
    (∃ (q : Req) (s : State), s.clear 0x72 0 q (fun _ => errsResetMooring q true) ∧ moorOf (opf q 1 2 0) ≠ q.m) ∧
    (∃ (q : Req) (s : State), let u := s.enter 0x72 q; let p := s.packetId 0x72 q; s.clear 0x72 0 q (fun _ =>
      errsResetMooring q true) ∧ moorOf (opf q 1 2 0) = q.m ∧ (∀ x ∈ u.ctl.stack, x.m ≠ q.m → x.id ≠ p)) ∧
    (∃ (q : Req) (s : State), s.clear 0x72 1 q (fun _ => errsResetEngine q true)) ∧
    (∃ (q : Req) (s : State), s.clear 0x78 0 q (fun _ => errsKeyLoad q true)) ∧
    (∃ (q : Req) (s : State), s.clear 0x78 1 q (fun _ => errsKeyErase q true)) ∧
    (∃ (q : Req) (s : State), s.clear 0x78 2 q (errsKeySignkey q true)) ∧
    (∃ (q : Req) (s : State), s.clear 0x79 0 q (errsLifecycle q true)) :=
  ⟨⟨rq 0 2 0 [8], live, clear_of (by decide +kernel)⟩,
   ⟨rq 0 2 1 [0], live, clear_of (by decide +kernel), room_of (by decide +kernel)⟩,
   ⟨rq 0 2 0 [0xFFFFFFFB, 0xFF], live, clear_of (by decide +kernel)⟩,
   ⟨rq 0 2 1 [], live, clear_of (by decide +kernel), room_of (by decide +kernel)⟩,
   ⟨rq 0 2 0 [0x006], live, clear_of (by decide +kernel)⟩,
   ⟨rq 0 2 0 [1, 0, 0], live, clear_of (by decide +kernel)⟩,
   ⟨rq 0 2 1 [1, 0x101], live, clear_of (by decide +kernel)⟩,
   ⟨rq 0 2 2 [1, 0], live, clear_of (by decide +kernel)⟩,
   ⟨rq 0 2 0 [3], live, clear_of (by decide +kernel), by decide +kernel⟩,
   ⟨rq 0 2 0 [0], live, clear_of (by decide +kernel), by decide +kernel, by decide +kernel⟩,
   ⟨rq 0 2 1 [0], live, clear_of (by decide +kernel)⟩,
   ⟨rq 0 2 0 ([3] ++ List.replicate 8 1), live, clear_of (by decide +kernel)⟩,
   ⟨rq 0 2 1 [3], live, clear_of (by decide +kernel)⟩,
   ⟨rq 0 2 2 ([1] ++ List.replicate 8 1), live, clear_of (by decide +kernel)⟩,
   ⟨{ rq 0 2 0 [1, 0x4C435901] with auth := true }, live, clear_of (by decide +kernel)⟩⟩

theorem witness_MemoryInstructions :
    (∃ (q : Req) (s : State), let u := s.enter 0x08 q; s.clear 0x08 0 q (errsMread q true) ∧ (State.readWords (opf q 2
      29 16 + 1) (opAddr q) u).2.1 = true ∧ s.room 0x08 q (State.readWords (opf q 2 29 16 + 1) (opAddr q) u).1.length) ∧
    (∃ (q : Req) (s : State), let u := s.enter 0x08 q; s.clear 0x08 0 q (errsMread q true) ∧ (State.readWords (opf q 2
      29 16 + 1) (opAddr q) u).2.1 = false ∧ bankOf (u.remapped (opAddr q)) ≠ some 0 ∧ s.room 0x08 q (opf q 2 29 16 +
      1)) ∧
    (∃ (q : Req) (s : State), let u := s.enter 0x09 q; s.clear 0x09 0 q (errsMwrite q true) ∧ u.ctl.run = .firmware ∧
      u.region (opAddr q) ≠ .periph ∧ u.badMerge (opAddr q) (q.ops.drop 2).length = none) ∧
    (∃ (q : Req) (s : State), let u := s.enter 0x09 q; s.clear 0x09 0 q (errsMwrite q true) ∧ u.ctl.run = .firmware ∧
      u.region (opAddr q) = .periph ∧ q.m = 0) ∧
    (∃ (q : Req) (s : State), let u := s.enter 0x09 q; s.clear 0x09 0 q (errsMwrite q true) ∧ u.ctl.run = .loader ∧
      u.region (opAddr q) = .ctlSram ∧ u.region (opAddr q + 4 * ((q.ops.drop 2).length - 1)) = .ctlSram) ∧
    (∃ (q : Req) (s : State), let u := s.enter 0x09 q; s.clear 0x09 0 q (errsMwrite q true) ∧ u.ctl.run = .loader ∧
      opAddr q = periphBase + F.SYS_BOOT ∧ q.ops.length = 3 ∧ bit (opw q 3) 31 = false) ∧
    (∃ (q : Req) (s : State), let u := s.enter 0x0A q; s.clear 0x0A 0 q (errsMfill q true) ∧ u.region (opAddr q) =
      .periph ∧ q.m = 0) ∧
    (∃ (q : Req) (s : State), let u := s.enter 0x0A q; s.clear 0x0A 0 q (errsMfill q true) ∧ u.region (opAddr q) ≠
      .periph ∧ u.badMerge (opAddr q) (List.replicate (opf q 3 23 0 + 1) (opw q 4)).length = none) :=
  ⟨⟨rq 0 2 0 [0x90000000, 0x00010000], live, clear_of (by decide +kernel), by decide +kernel, room_of
     (by decide +kernel)⟩,
   ⟨rq 0 2 0 [0x90000000, 0x00010000], (live.setMark 0x90000000 (some .bad)), clear_of (by decide +kernel), by
     decide +kernel, by decide +kernel, room_of (by decide +kernel)⟩,
   ⟨rq 0 2 0 [0x00000004, 1, 5, 6], drammed, clear_of (by decide +kernel), by decide +kernel, by decide +kernel, by
     decide +kernel⟩,
   ⟨rq 0 2 0 [0xA0000004, 0, 5], live, clear_of (by decide +kernel), by decide +kernel, by decide +kernel, by
     decide +kernel⟩,
   ⟨rq 0 2 0 [0x20000010, 0, 5, 6], loader, clear_of (by decide +kernel), by decide +kernel, by decide +kernel, by
     decide +kernel⟩,
   ⟨rq 0 2 0 [BitVec.ofNat 32 (periphBase + F.SYS_BOOT), 0, 5], loader, clear_of (by decide +kernel), by
     decide +kernel, by decide +kernel, by decide +kernel, by decide +kernel⟩,
   ⟨rq 0 2 0 [0xA0000004, 0, 1, 5], live, clear_of (by decide +kernel), by decide +kernel, by decide +kernel⟩,
   ⟨rq 0 2 0 [0x00000004, 1, 1, 5], drammed, clear_of (by decide +kernel), by decide +kernel, by decide +kernel⟩⟩

/-! ## Witnesses of the other statements -/

/-- A state that waits for a NOP of mooring 0. -/
def queued : State := { live with pending := [.nop (rq 0 2 0 [])] }

theorem witness_StepRunsTheFrontCommand : ∃ (c : Instr) (r : List Instr) (s : State), s.pending = c :: r :=
  ⟨_, _, queued, rfl⟩

theorem witness_StepIdlesOnAnEmptyQueue : ∃ s : State, s.pending = [] := ⟨live, by decide +kernel⟩

theorem witness_StepKeepsTheMemoryForm : ∃ s t : State, s.memOk ∧ step s = .next t := ⟨queued, _, by unfold State.memOk; decide +kernel, rfl⟩

theorem witness_FusesAreWrittenOnce :
    (∃ s t : State, step s = .next t) ∧
    (∃ s : State, s.pending.head? = some .lifecycleFuseDone ∧ s.sec.fusing = [(7, 1)]) :=
  ⟨⟨queued, _, rfl⟩, ⟨{ live with pending := [.lifecycleFuseDone], sec := { live.sec with fusing := [(7, 1)] } }, by decide +kernel⟩⟩

theorem witness_FailedInstructionsChangeNothing :
    (∃ (c : Instr) (r : Row) (e : Nat) (s : State), rowOf c = some r ∧ s.takes r.op r.k r.q ∧ r.k = 2 ∧ r.op = 0x30 ∧
      s.marks = [] ∧ firstErr (r.errs true (s.enter r.op r.q)) = some e) ∧
    (∃ (c : Instr) (r : Row) (e : Nat) (s : State), rowOf c = some r ∧ s.takes r.op r.k r.q ∧ r.k = 2 ∧ r.op = 0x33 ∧
      s.marks ≠ [] ∧ (firstErr ((r.errs true (s.enter r.op r.q)).take 4)).isSome = true ∧
      firstErr (r.errs true (s.enter r.op r.q)) = some e) ∧
    (∃ (q : Req) (e : Nat) (s : State), let u := s.enter 0x30 q
      s.takes 0x30 2 q ∧ s.room 0x30 q 2 ∧ firstErr ((errsTaskStart q true u).take 4) = none ∧
      firstErr (errsTaskStart q true (u.signRead ((((u.loadOf (opTask q) (opTask q)).filter Load.full).map Load.got).getD []))) =
        some e) ∧
    (∃ (q : Req) (e : Nat) (s : State), let u := s.enter 0x33 q
      s.takes 0x33 2 q ∧ s.room 0x33 q 2 ∧ firstErr ((errsFerryUcommit q true u).take 4) = none ∧
      firstErr (errsFerryUcommit q true (u.signRead ((((u.updLoad (opTask q)).filter Load.full).map Load.got).getD []))) = some e) :=
  ⟨⟨.taskStart (rq 0 2 2 [0, 0, 0]), _, estate, live, rfl, takes_of (by decide +kernel), rfl, rfl, by decide +kernel⟩,
   ⟨.ferryUcommit (rq 0 2 2 [32, 0, 0]), _, erange, live.setMark 0x20000000 (some .bad), rfl, takes_of (by decide +kernel), rfl, rfl,
    by decide +kernel⟩,
   ⟨rq 0 2 2 [0, 0, 0], estate, (berth0 .idle).modCore 0 (loaded 3), takes_of (by decide +kernel), room_of (by decide +kernel),
    by decide +kernel⟩,
   ⟨rq 0 2 2 [0, 0, 0], estate, updating 3, takes_of (by decide +kernel), room_of (by decide +kernel), by decide +kernel⟩⟩

theorem witness_ReservedModifiersFail :
    (∃ (c : Instr) (r : Row) (s : State), rowOf c = some r ∧ r.k ≠ 0 ∧ s.serves r.op r.q = true ∧ s.executes r.op = true ∧
      modSel r.op r.q.mod = none ∧ r.q.cls.val ∈ classesOf c ∧ r.barred (s.enter r.op r.q) = false) ∧
    (∃ (c : Instr) (r : Row) (s : State), rowOf c = some r ∧ s.serves r.op r.q = true ∧ s.executes r.op = true ∧
      modSel r.op r.q.mod = none ∧ r.q.cls.val ∉ classesOf c ∧ r.op = 0x58 ∧ s.owns r.q.m ownGangway 0 = true) ∧
    (∃ (c : Instr) (r : Row) (s : State), rowOf c = some r ∧ s.serves r.op r.q = true ∧ s.executes r.op = true ∧
      modSel r.op r.q.mod = none ∧ r.q.cls.val ∈ classesOf c ∧ r.barred (s.enter r.op r.q) = true) :=
  ⟨⟨.slotmapUnbind (rq 0 2 4 [7]), _, live, rfl, by decide, by decide +kernel⟩,
   ⟨.gangwayInsrc (rq 0 3 9 [0x20001]), _, live, rfl, by decide +kernel, by decide +kernel, by decide +kernel, by decide +kernel, rfl,
    by decide +kernel⟩,
   ⟨.rate (rq 3 2 1 [2]), _, live, rfl, by decide +kernel⟩⟩

theorem witness_ClassesAreChecked :
    (∃ (c : Instr) (r : Row) (s : State), rowOf c = some r ∧ s.takes r.op r.k r.q ∧ r.q.cls.val ∉ classesOf c ∧
      (r.op = 0x58 → s.owns r.q.m ownGangway 0 = true)) ∧
    (∃ (q : Req) (s : State), s.takes 0x58 0 q ∧ q.cls.val ∉ classesOf (.gangwayInsrc q) ∧ s.owns q.m ownGangway 0 = true) :=
  ⟨⟨.rate (rq 0 3 0 [2]), _, live, rfl, takes_of (by decide +kernel), by decide +kernel, by decide⟩,
   ⟨rq 0 3 0 [0x20001], live, takes_of (by decide +kernel), by decide +kernel, by decide +kernel⟩⟩

theorem witness_OnlyM0IsAdmitted :
    ∃ (c : Instr) (r : Row) (s : State), rowOf c = some r ∧ s.takes r.op r.k r.q ∧ onlyM0 c = true ∧
      r.q.cls.val ∈ classesOf c ∧ r.q.m ≠ 0 :=
  ⟨.rate (rq 3 2 0 [2]), _, live, rfl, takes_of (by decide +kernel), by decide +kernel, by decide +kernel, by decide +kernel⟩

/-- A running packet of class 2 with one instruction left. -/
def packet (i : Insn) : Pkt := ⟨0, 0, 2, false, 1, 9, false, 1, 0, [i], [], stOk⟩

/-- The packet runs. -/
def running (i : Insn) : State := { live with ctl := { live.ctl with stack := [packet i] } }

/-- A packet of class 2 runs while one of class 1 that FLUSH has marked has landed. -/
def lowerReady : State := (running ⟨0x00, 0, []⟩).setQueue 0 1 { live.queue 0 1 with landed := [⟨0, 4, 1, [3]⟩] }

theorem witness_InstructionsNeedTheirControllers :
    (∃ (c : Instr) (r : Row) (s : State), rowOf c = some r ∧ s.ctl.run = .loader ∧ s.serves r.op r.q = true ∧
      (modSel r.op r.q.mod = some r.k ∨ (modSel r.op r.q.mod = none ∧ r.k = 0)) ∧ r.op ∉ [0x00, 0x01, 0x02, 0x09]) ∧
    (∃ (c : Instr) (r : Row) (s : State), rowOf c = some r ∧ s.commands = false ∧ s.serves r.op r.q = false) ∧
    (∃ (c : Instr) (r : Row) (s : State), rowOf c = some r ∧ s.commands = true ∧ s.isNext r.op r.q = true ∧
      s.nextPacket.isSome = true) :=
  ⟨⟨.rate (rq 0 2 0 [2]), _, loader, rfl, by decide +kernel, by decide +kernel, by decide +kernel, by decide +kernel⟩,
   ⟨.rate (rq 0 2 0 [2]), _, cold, rfl, by decide +kernel, by decide +kernel⟩,
   ⟨.nop (rq 0 2 0 []), _, lowerReady, rfl, by decide +kernel, by decide +kernel, by decide +kernel⟩⟩

/-- The header, the instruction and the CRC of a packet of class 2, as its words. -/
def packetWords (i : W32) : List W32 :=
  let l : List W32 := [0x00100000, 0x00060000, 0, 0, i]
  l ++ [crc32c (bytesLE l)]

/-- A packet whose one instruction is a word has landed whole for mooring 0, class 2. -/
def arrived (i : W32) : State :=
  let t := (live.setFld (F.MOOR_BINDm_LINK 0) 4).setQueue 0 2 { live.queue 0 2 with landed := [⟨0, 1, 1, []⟩] }
  ((6 : W32) :: packetWords i).zipIdx.foldl (fun u e => u.setWord (u.landAddr 0 2 0 e.2) e.1) t

/-- A packet of class 2 stands before an instruction that the table does not list while two packets of class 1 that FLUSH has
marked have landed. -/
def twoLower : State :=
  let t := (running ⟨0x03, 0, []⟩).setQueue 0 1 { live.queue 0 1 with landed := [⟨0, 4, 1, [3]⟩] }
  t.setQueue 1 1 { live.queue 1 1 with landed := [⟨0, 4, 2, [3]⟩] }

/-- QUERY FRAME, where nothing stops it, answers the frame. -/
theorem queryFrame_answers (q : Req) (s : State) (h : s.clear 0x02 1 q (fun _ => errsQueryFrame q true))
    (hr : s.room 0x02 q (s.enter 0x02 q).frameNow.length) :
    exec (.queryFrame q) s = s.answer 0x02 stOk (s.enter 0x02 q).frameNow (s.enter 0x02 q) := by
  show done s _ = done s _
  congr 1
  exact runInsn_acts h.1 (by simp only [checked, h.2.2]; rfl) (.inl rfl) hr (enter_head s 0x02 q)

theorem witness_ReservedOpcodesFail :
    (∃ (m : Fin 8) (c : Fin 4) (l : Landed) (p : Pkt) (i : Insn) (rest : List Pkt) (more : List Insn) (s : State),
      let u := s.takePacket m c l
      s.awake = true ∧ s.commands = true ∧ s.nextPacket = some (m, c, l) ∧ u.ctl.stack = p :: rest ∧ p.insns = i :: more ∧
        opListed i.op = false ∧ u.nextPacket = none) ∧
    (∃ (m : Fin 8) (c : Fin 4) (l : Landed) (p : Pkt) (i : Insn) (rest : List Pkt) (more : List Insn) (s : State),
      let u := s.takePacket m c l
      s.awake = true ∧ s.commands = true ∧ s.nextPacket = some (m, c, l) ∧ u.ctl.stack = p :: rest ∧ p.insns = i :: more ∧
        opListed i.op = false ∧ u.nextPacket.isSome = true) ∧
    (∃ (c : Instr) (op st : Nat) (pl : List W32) (p : Pkt) (i j : Insn) (rest : List Pkt) (more : List Insn) (s t : State),
      exec c s = s.answer op st pl t ∧ (st = stOk ∨ st = stPending) ∧ t.ctl.stack = p :: rest ∧ p.insns = i :: j :: more ∧
        opListed j.op = false ∧ t.nextPacket = none) ∧
    (∃ (q : Req) (p : Pkt) (j : Insn) (rest : List Pkt) (more : List Insn) (s : State),
      s.clear 0x00 0 q (fun _ => errsNop q true) ∧ s.isNext 0x00 q = true ∧ s.ctl.stack = p :: rest ∧
        p.insns.tail = j :: more ∧ opListed j.op = false) ∧
    (∃ (s : State) (p : Pkt) (i : Insn) (rest : List Pkt) (more : List Insn),
      s.ctl.stack = p :: rest ∧ p.insns = i :: more ∧ opListed i.op = false) :=
  let two := fun (i : Insn) => ({ packet i with insns := [i, ⟨0x03, 0, []⟩] } : Pkt)
  let at2 := fun (i : Insn) => ({ live with ctl := { live.ctl with stack := [two i] } } : State)
  ⟨⟨0, 2, ⟨0, 1, 1, []⟩, ((arrived 0x03000000).takePacket 0 2 ⟨0, 1, 1, []⟩).ctl.stack.headD (packet ⟨0, 0, []⟩), ⟨0x03, 0, []⟩, [], [],
    arrived 0x03000000, by decide +kernel⟩,
   ⟨1, 1, ⟨0, 4, 2, [3]⟩, packet ⟨0x03, 0, []⟩, ⟨0x03, 0, []⟩, [], [], twoLower, by decide +kernel⟩,
   ⟨.queryFrame (rq 0 2 1 []), 0x02, stOk, _, two ⟨0x02, 1, []⟩, ⟨0x02, 1, []⟩, ⟨0x03, 0, []⟩, [], [], at2 ⟨0x02, 1, []⟩, _,
    queryFrame_answers _ _ (clear_of (by decide +kernel)) (room_of (by decide +kernel)), .inl rfl, by decide +kernel⟩,
   ⟨rq 0 2 0 [], two ⟨0x00, 0, []⟩, ⟨0x03, 0, []⟩, [], [], at2 ⟨0x00, 0, []⟩, clear_of (by decide +kernel), by decide +kernel⟩,
   ⟨running ⟨0x03, 0, []⟩, packet ⟨0x03, 0, []⟩, ⟨0x03, 0, []⟩, [], [], by decide +kernel⟩⟩

theorem witness_NopAndEcho :
    (∃ (q : Req) (s : State), s.takes 0x00 0 q ∧ q.ops.length ≤ 16386 ∧ s.room 0x00 q 0) ∧
    (∃ (q : Req) (s : State), s.takes 0x01 0 q ∧ q.ops.length ≤ 1024 ∧ s.room 0x01 q q.ops.length) ∧
    (∃ (q : Req) (s : State), s.takes 0x01 0 q ∧ 1024 < q.ops.length) ∧
    (∃ (q : Req) (s : State), s.serves 0x00 q = true ∧ s.serves 0x01 q = true ∧ q.mod ≠ 0) ∧
    (∃ (q : Req) (s t : State), exec (.nop q) s = .next t ∨ exec (.echo q) s = .next t) :=
  ⟨⟨rq 0 2 0 [5], live, takes_of (by decide +kernel), by decide +kernel, room_of (by decide +kernel)⟩,
   ⟨rq 0 2 0 [7, 8], live, takes_of (by decide +kernel), by decide +kernel, room_of (by decide +kernel)⟩,
   ⟨rq 0 2 0 (List.replicate 1025 1), live, takes_of (by decide +kernel), by decide +kernel⟩,
   ⟨rq 0 2 1 [], live, by decide +kernel⟩,
   ⟨rq 0 2 0 [], live, _, Or.inl rfl⟩⟩

theorem witness_DramReadsAndWrites :
    (∃ (q : Req) (s : State), let u := s.enter 0x09 q
      s.clear 0x09 0 q (errsMwrite q true) ∧ u.ctl.run = .firmware ∧ u.region (opAddr q) = .dram ∧
        u.badMerge (opAddr q) (q.ops.drop 2).length = none ∧ 1 < (q.ops.drop 2).length) ∧
    (∃ (q : Req) (s : State), let u := s.enter 0x0A q
      s.clear 0x0A 0 q (errsMfill q true) ∧ u.region (opAddr q) = .dram ∧ u.badMerge (opAddr q) (opf q 3 23 0 + 1) = none) ∧
    (∃ (q : Req) (s : State), let u := s.enter 0x08 q
      s.clear 0x08 0 q (errsMread q true) ∧ u.region (opAddr q) = .dram ∧ u.marks = [] ∧ s.room 0x08 q (opf q 2 29 16 + 1)) :=
  ⟨⟨rq 0 2 0 [0x000FFFF8, 1, 5, 6], drammed, clear_of (by decide +kernel), by decide +kernel⟩,
   ⟨rq 0 2 0 [0x00000004, 1, 1, 5], drammed, clear_of (by decide +kernel), by decide +kernel⟩,
   ⟨rq 0 2 0 [0x00000004, 0x10001], drammed, clear_of (by decide +kernel), by decide +kernel, by decide +kernel,
    room_of (by decide +kernel)⟩⟩

theorem witness_OtherCommandsKeepMemory : ∃ (c : Instr) (s t : State), storesBytes c = false ∧ exec c s = .next t :=
  ⟨.nop (rq 0 2 0 []), live, _, rfl, rfl⟩

theorem witness_InstructionsKeepTheUnits : ∃ (q : Req) (c : Instr) (s t : State),
    c ∈ [Instr.nop q, .slotmapKind q, .lifecycle q] ∧ exec c s = .next t :=
  ⟨rq 0 2 0 [5, 0x10003], .slotmapKind (rq 0 2 0 [5, 0x10003]), live, _, by simp, rfl⟩

theorem witness_PortAndNetworkInstructionsKeepTheRest :
    (∃ (q : Req) (s t : State), exec (.portTdmgrp q) s = .next t) ∧ (∃ (q : Req) (s t : State), exec (.sctlStart q) s = .next t) ∧
    (∃ (q : Req) (s t : State), exec (.alarmRaise q) s = .next t) :=
  ⟨⟨rq 0 2 0 [1, 0x00800000], live, _, rfl⟩, ⟨rq 0 2 0 [3, 0, 0], live.setCtx 3 rxCtx, _, rfl⟩,
   ⟨rq 0 0 0 [3, 4], live, _, rfl⟩⟩

theorem witness_RegisterWriteByAccessCode :
    (∃ (a i j : Nat) (r : RegRow) (s : State), s.awake = true ∧ a % 4 = 0 ∧ inOwn a = false ∧ barOnly a = false ∧
      s.regOpen a = true ∧ findRow a = some (r, i, j) ∧
      r.base ∉ [F.MOOR_BINDm 0, F.LQ_CFGm_c 0 0, F.LIM_CFGn 0, F.QPn_CTRL 0, F.PN_SATn 0] ∧
      a ∉ [F.ECC_TEST_CTRL, F.NETA_MDIO, F.SYS_BOOT, F.RST_GWDT, F.GW_CTRL, F.FAB_CTRL, F.MOOR_CTRL]) ∧
    (∃ (a i j : Nat) (r : RegRow) (v : W32) (s : State), s.awake = true ∧ a % 4 = 0 ∧ inOwn a = false ∧ barOnly a = false ∧
      s.regOpen a = true ∧ findRow a = some (r, i, j) ∧ reservedIn r.base a v ≠ [] ∧
      r.base ∉ [F.MOOR_BINDm 0, F.LQ_CFGm_c 0 0, F.LIM_CFGn 0, F.QPn_CTRL 0, F.PN_SATn 0] ∧
      a ∉ [F.ECC_TEST_CTRL, F.NETA_MDIO, F.SYS_BOOT, F.RST_GWDT, F.GW_CTRL, F.FAB_CTRL, F.MOOR_CTRL]) ∧
    (∃ (i j : Nat) (r : RegRow) (s : State), s.awake = true ∧ s.regOpen F.NETA_MDIO = true ∧ findRow F.NETA_MDIO = some (r, i, j) ∧
      s.on F.NETA_MDIO_GO = false) ∧
    (∃ (i j : Nat) (r : RegRow) (s : State), s.awake = true ∧ s.regOpen F.RST_GWDT = true ∧ findRow F.RST_GWDT = some (r, i, j)) ∧
    (∃ (i j : Nat) (r : RegRow) (s : State), s.awake = true ∧ s.regOpen F.SYS_BOOT = true ∧ findRow F.SYS_BOOT = some (r, i, j) ∧
      s.ctl.run = .loader) ∧
    (∃ (n i j : Nat) (r : RegRow) (s : State), n < 1552 ∧ s.awake = true ∧ s.regOpen (F.LIM_CFGn n) = true ∧
      findRow (F.LIM_CFGn n) = some (r, i, j)) ∧
    (∃ s : State, s.awake = true ∧ s.on F.NETA_MDIO_GO = true) ∧ (∃ s : State, s.awake = true ∧ s.ctl.run ≠ .loader) ∧
    (∃ s : State, s.awake = true ∧ s.regOpen F.GW_CTRL = true ∧ s.regOpen F.MOOR_CTRL = true) ∧
    (∃ (m c : Nat) (s : State), m < 8 ∧ c < 4 ∧ s.awake = true ∧ s.regOpen (F.LQ_CFGm_c m c) = true ∧
      s.on (F.MOOR_BINDm_EN m) = true) ∧
    (∃ (m c : Nat) (s : State), m < 8 ∧ c < 4 ∧ s.awake = true ∧ s.regOpen (F.LQ_CFGm_c m c) = true ∧
      s.on (F.MOOR_BINDm_EN m) = false ∧ s.on F.MOOR_CTRL_LOCK = false) ∧
    (∃ (n : Nat) (s : State), n < 2 ∧ s.awake = true ∧ s.regOpen (F.QPn_CTRL n) = true ∧ s.on F.PLL0_STAT_LOCK = true ∧
      s.clk.mute = false ∧ s.readyBarred F.SYS_READY_QP1 = false) ∧
    (∃ (n : Nat) (s : State), n < 128 ∧ s.awake = true ∧ s.regOpen (F.PN_SATn n) = true ∧ s.marks = [] ∧
      s.on F.ECC_FLIP_CTL_ARM = false ∧ s.rawBank 4 = false ∧ s.marching 4 = false) :=
  let f := fun a => (findRow a).getD ({ base := 0 }, 0, 0)
  ⟨⟨0x10104, 1, 0, { base := 0x10100, n1 := 8, s1 := 4, rwl := 0x7FF, reset := 0x7FF }, live, by decide +kernel⟩,
   ⟨F.TDM_ZC, 0, 0, (f F.TDM_ZC).1, 0, live, by decide +kernel⟩,
   ⟨0, 0, (f F.NETA_MDIO).1, live, by decide +kernel⟩, ⟨0, 0, (f F.RST_GWDT).1, live, by decide +kernel⟩,
   ⟨0, 0, (f F.SYS_BOOT).1, loader, by decide +kernel⟩, ⟨1551, 1551, 0, (f (F.LIM_CFGn 1551)).1, live, by decide +kernel⟩,
   ⟨live.setFld F.NETA_MDIO_GO 1, by decide +kernel⟩, ⟨live, by decide +kernel⟩, ⟨live, by decide +kernel⟩,
   ⟨0, 3, live, by decide +kernel⟩, ⟨7, 3, live.setFld (F.MOOR_BINDm_EN 7) 0, by decide +kernel⟩, ⟨1, live, by decide +kernel⟩,
   ⟨127, live, by decide +kernel⟩⟩

theorem witness_RegisterReadsAndClosedUnits :
    (∃ (a i j : Nat) (r : RegRow) (s : State), s.awake = true ∧ a % 4 = 0 ∧ inOwn a = false ∧ s.regOpen a = true ∧
      findRow a = some (r, i, j) ∧ r.rc ≠ 0 ∧ s.freeRead a = none ∧ a ≠ F.TT_FRAME_LO ∧ a ≠ F.TIME_SECLO ∧
      r.base ≠ F.TT_SCNg_TLO 0) ∧
    (∃ s : State, s.awake = true ∧ s.regOpen F.TT_FRAME_LO = true) ∧
    (∃ (a : Nat) (s : State), s.awake = true ∧ a % 4 = 0 ∧ inOwn a = false ∧ s.regOpen a = false) :=
  ⟨⟨0x10004, 0, 0, { base := 0x10004, rc := 0xFFFFFF00 }, live, by decide +kernel⟩, ⟨live, by decide +kernel⟩,
   ⟨F.XM_CFG, live.setReg (F.CKG_ENn 1) 0, by decide +kernel⟩⟩

theorem witness_SpecialRegisterWrites :
    (∃ s : State, s.awake = true) ∧
    (∃ (v : W32) (s : State), s.awake = true ∧ bf v 5 0 < 40 ∧ bit v 31 = true ∧ s.expendable (bf v 5 0) = true) ∧
    (∃ (v : W32) (s : State), s.awake = true ∧ bf v 5 0 < 40 ∧ bit v 31 = true ∧ s.expendable (bf v 5 0) = false) ∧
    (∃ (v : W32) (s : State), s.awake = true ∧ bf v 7 0 = 0xA5 ∧ bf v 23 16 = 10) ∧
    (∃ s : State, s.awake = true ∧ s.on F.RST_GWDT_RUN = true ∧ s.pwr.guard = 0) :=
  ⟨⟨live, by decide +kernel⟩, ⟨0x80000025, live, by decide +kernel⟩, ⟨0x80000000, live, by decide +kernel⟩,
   ⟨0x000A00A5, live, by decide +kernel⟩, ⟨live.setFld F.RST_GWDT_RUN 1, by decide +kernel⟩⟩

/-- The engine held in POR with its supplies not good. -/
def held : State := go .reset [.vddAoRise, .pwrgoodRise]

theorem witness_SupplyResetAndTemperatureEvents :
    (∃ s : State, s.pwr.por = true) ∧ (∃ s : State, s.pwr.good = false) ∧
    (∃ s : State, s.pwr.good = true ∧ s.pwr.por = false ∧ s.pwr.held = true ∧ s.fld F.RST_STAT_LAST = 1) ∧
    (∃ s : State, s.pwr.good = true ∧ s.pwr.por = false ∧ s.pwr.held = false) ∧
    (∃ s : State, s.pwr.good = false ∧ s.pwr.por = false) ∧
    (∃ (sel : BitVec 3) (s : State), s.pwr.por = false ∧ s.pwr.held = true ∧ s.pwr.good = true ∧ s.pwr.srcBad = false ∧
      s.pwr.tsd = false ∧ 5 ≤ sel.toNat) ∧
    (∃ s : State, s.pwr.por = false ∧ s.pwr.tsd = false) ∧
    (∀ g : Bool, ∃ s : State, s.pwr.por = false ∧ s.pwr.tsd = false ∧
      (if g then s.pwr.grad = 3 else s.pwr.hot.contains 3 = true)) ∧
    (∃ s : State, s.ts0Cool = true ∧ s.pwr.tsd = true ∧ s.tsdBlocked = false) :=
  ⟨⟨.reset, by decide +kernel⟩, ⟨.reset, by decide +kernel⟩, ⟨go live [.resetNLow], by decide +kernel⟩,
   ⟨live, by decide +kernel⟩, ⟨go .reset [.vddAoRise], by decide +kernel⟩, ⟨5, held, by decide +kernel⟩,
   ⟨live, by decide +kernel⟩,
   fun g => ⟨{ live with pwr := { live.pwr with grad := 3, hot := [0, 3, 0, 0, 0, 0, 0, 0] } }, by cases g <;> decide +kernel⟩,
   ⟨{ live with pwr := { live.pwr with tsd := true, cool := 1000 } }, by decide +kernel⟩⟩

theorem witness_SecureBankIsWiped :
    (∃ (c : Instr) (n : Nat) (s : State), (c, n) ∈ [(Instr.tamperN, 1), (Instr.voltageGlitch, 2), (Instr.clockGlitch, 4)] ∧
      s.pwr.por = false ∧ s.sec.wipe = none) ∧
    (∃ (k f : Nat) (s : State), s.pwr.por = false ∧ s.sec.wipe = some (k, f)) ∧
    (∃ (pid target : Nat) (rest : List (Nat × Nat)) (s : State), s.sec.fusing = (pid, target) :: rest ∧ s.ctl.keyOps = []) :=
  ⟨⟨.clockGlitch, 4, live, by decide +kernel⟩, ⟨1, 0, { live with sec := { live.sec with wipe := some (1, 0) } }, by decide +kernel⟩,
   ⟨7, 1, [], { live with sec := { live.sec with fusing := [(7, 1)] } }, by decide +kernel⟩⟩

theorem witness_ClockAndMediaPllEvents :
    (∃ s : State, s.awake = true ∧ s.fld F.CKM_XO_GOOD = 256 ∧ s.on F.CKM_STAT_XOSTABLE = false) ∧
    (∃ s : State, s.awake = true ∧ s.on F.CKM_STAT_XOSTABLE = true ∧ s.on F.PLL0_STAT_LOCK = false ∧
      s.on F.PLL0_STAT_COAST = false) ∧
    (∃ s : State, s.awake = true ∧ s.on F.CKM_STAT_XOSTABLE = true ∧ s.on F.PLL0_STAT_LOCK = false ∧
      s.on F.PLL0_STAT_COAST = true) ∧
    (∃ (d : Fin 8) (s : State), s.clk.toSrc.contains d.val = true ∧ s.muxBusy d.val = true) ∧
    (∃ (d : Fin 8) (s : State), s.clk.toSrc.contains d.val = false ∧ s.clk.moves.head? = some d.val) ∧
    (∃ s : State, s.pwr.por = false) ∧
    (∃ (n : Fin 4) (b : Fin 32) (s : State), s.mayClose n.val b.val = true) ∧
    (∃ s : State, s.mpllSeeks = true) ∧ (∃ s : State, s.on F.MPLL_STAT_LOCK = true) ∧
    (∃ s : State, s.mpllSeeks = true ∧ s.clk.mout = true) ∧
    (∃ s : State, s.on F.MPLL_STAT_COAST = true) :=
  ⟨⟨cold.setFld F.CKM_XO_GOOD 256, by decide +kernel⟩, ⟨live.setFld F.PLL0_STAT_LOCK 0, by decide +kernel⟩,
   ⟨(live.setFld F.PLL0_STAT_LOCK 0).setFld F.PLL0_STAT_COAST 1, by decide +kernel⟩,
   ⟨3, { live with clk := { live.clk with toSrc := [3] } }, by decide +kernel⟩,
   ⟨3, { live with clk := { live.clk with moves := [3] } }, by decide +kernel⟩, ⟨live, by decide +kernel⟩,
   ⟨1, 2, { live with clk := { live.clk with closing := [(1, 2)] } }, by decide +kernel⟩,
   ⟨{ live with clk := { live.clk with band := some 0 } }, by decide +kernel⟩, ⟨live.setFld F.MPLL_STAT_LOCK 1, by decide +kernel⟩,
   ⟨{ live with clk := { live.clk with band := some 0, mout := true } }, by decide +kernel⟩,
   ⟨live.setFld F.MPLL_STAT_COAST 1, by decide +kernel⟩⟩

theorem witness_ReferenceEvents :
    (∃ (i : Fin 12) (s : State), s.refEn i.val = true) ∧
    (∃ (i : Fin 12) (s : State), s.refEn i.val = true ∧ s.refState i.val ≠ refAbs ∧
      ((i.val = 0 ∨ (2 ≤ i.val ∧ i.val < 10)) → s.refPresent i.val 0 = false)) ∧
    (∃ (i : Fin 12) (s : State), s.refState i.val = refWait ∧ s.rsel.left.getD i.val 0 = 0) ∧
    (∃ (i : Fin 12) (s : State), s.refState i.val = refDrift ∧ s.rsel.left.getD i.val 0 = 0) ∧
    (∃ s : State, s.firmware = true ∧ s.selState = selSwitch) :=
  ⟨⟨3, live.setFld (F.RSEL_INn_CFG_EN 3) 1, by decide +kernel⟩,
   ⟨10, (live.setFld (F.RSEL_INn_CFG_EN 10) 1).setFld (F.RSEL_INn_STAT_STATE 10) refQual, by decide +kernel⟩,
   ⟨3, live.setFld (F.RSEL_INn_STAT_STATE 3) refWait, by decide +kernel⟩,
   ⟨3, live.setFld (F.RSEL_INn_STAT_STATE 3) refDrift, by decide +kernel⟩,
   ⟨live.setFld F.RSEL_STAT_STATE selSwitch, by decide +kernel⟩⟩

/-- A compute stage runs in which phase 0 began at cycle 10: a phase of a unit with an argument. -/
def staging (u : PhUnit) (arg : W32) : State :=
  { live with
    tt := { live.tt with
      active := [⟨u, 0, arg, 100⟩], staged := true, openAt := [(0, 0)], startAt := [(0, 10)], durs := [50], edge := some 0 } }

/-- A channel that waits for its zero crossing. -/
def chanWait : ChanWait := ⟨true, 7, true, false, some 0, 100000⟩

theorem witness_FrameEvents :
    (∃ (p : SampleIn) (s : State), s.counting = true ∧ s.edgeDue = false ∧ s.zcDue = false ∧
      s.restartDue = false ∧ s.periodBegins p.d4 = true) ∧
    (∃ s : State, s.counting = true ∧ s.edgeDue = true) ∧
    (∃ (k : RateChange) (s : State), s.rateChange = some k ∧ k.step = .stopped ∧ s.msi % 16 = 0 ∧
      k.at_ + 2000000 * 2 ^ 48 ≤ s.time.t48) ∧
    (∃ (o : Bool) (ch f : Nat) (w : ChanWait) (s : State),
      s.ports.waits.find? (fun w => w.out == o && w.chan == ch) = some w ∧ w.from_ = some f ∧ w.now = false ∧
      s.rateStopped = false ∧ s.zcWords ≤ w.tested) ∧
    (∃ (m : Nat) (s : State), s.dram.pass = some m) ∧
    (∃ (i : Fin 16) (cy st : Nat) (p : Phase) (us : List PnUpset) (s : State),
      s.phaseEnds (· == .pn) i.val cy (!us.isEmpty) = some (p, st)) ∧
    (∃ (i : Fin 16) (cy st : Nat) (p : Phase) (j : XmJob) (s : State),
      s.phaseEnds PhUnit.isXm i.val cy false = some (p, st) ∧ s.xm.job = some j ∧ j.phase = i.val) ∧
    (∃ (i : Fin 16) (cy o : Nat) (p : Phase) (s : State), s.tt.active[i.val]? = some p ∧ look s.tt.openAt p.barrier = some o ∧
      p.unit = .sc ∧ s.phaseComplete p i.val = false ∧ o + p.allow = cy ∧ s.inStage cy = true) :=
  ⟨⟨⟨8334, [], [], [], []⟩, live, by decide +kernel⟩, ⟨{ live with msi := 2 }, by decide +kernel⟩,
   ⟨⟨2, .stopped, 1, 0, 0, none⟩,
    { live with
      rateChange := some ⟨2, .stopped, 1, 0, 0, none⟩, time := { live.time with t48 := 2000000 * 2 ^ 48 } }, by decide +kernel⟩,
   ⟨true, 7, 0, chanWait, { live with ports := { live.ports with waits := [chanWait] } }, by decide +kernel⟩,
   ⟨5, { live with dram := { live.dram with pass := some 5 } }, by decide +kernel⟩,
   ⟨0, 60, 10, ⟨.pn, 0, 0, 100⟩, [], staging .pn 0, by decide +kernel⟩,
   ⟨0, 60, 10, ⟨.xm1, 0, 0, 100⟩, ⟨0, false, []⟩, { staging .xm1 0 with xm := { live.xm with job := some ⟨0, false, []⟩ } },
     by decide +kernel⟩,
   ⟨0, 100, 0, ⟨.sc, 0, 1, 100⟩, staging .sc 1, by decide +kernel⟩⟩

/-- Core 0 active at a program of one word in a compute stage. -/
def issuing (w : W64) : State :=
  (staging .sc 1).modCore 0 (fun k => { k with
    state := .active, image := { k.image with plen := 2, wdlim := 0xFFFFF }, mems := { k.mems with prog := [(0, w)] } })

/-- A control word of an operation. -/
def ctlWord (op : Nat) : W64 := BitVec.ofNat 64 (0x3F * 2 ^ 58 + op * 2 ^ 52)

theorem witness_CoreIssue :
    (∃ (c : Fin 32) (cy : Nat) (s : State) (up : CoreUpset), s.members c.val = [c.val] ∧ s.mayIssue c.val cy = true ∧
      asBundle (s.fetch c.val) = true ∧ s.bundleRoom cy c.val = true ∧ s.upsetOk c.val up = true) ∧
    (∃ (c : Fin 32) (cy : Nat) (s : State), s.members c.val = [c.val] ∧ s.mayIssue c.val cy = true ∧
      s.ctlAt c.val 0 = true ∧ s.ctlHeld cy c.val = false ∧ s.flowUpsetOk flowBra c.val .none = true) ∧
    (∃ (c : Fin 32) (cy : Nat) (s : State), s.members c.val = [c.val] ∧ s.mayIssue c.val cy = true ∧
      s.ctlAt c.val 4 = true ∧ s.outgoing c.val = false) ∧
    (∃ (c : Fin 32) (cy : Nat) (s : State), s.members c.val = [c.val] ∧ s.mayIssue c.val cy = true ∧
      s.ctlAt c.val 4 = true ∧ s.outgoing c.val = true ∧ s.ctlFault false c.val = none) ∧
    (∃ (c : Fin 32) (cy : Nat) (s : State), s.members c.val = [c.val] ∧ s.mayIssue c.val cy = true ∧
      s.ctlAt c.val 5 = true) ∧
    (∃ (c : Fin 32) (cy : Nat) (s : State), s.members c.val = [c.val] ∧ s.mayIssue c.val cy = true ∧
      s.ctlAt c.val 6 = true ∧ s.progBad c.val = false ∧
      ctlBad (s.core c.val).regs (s.core c.val).image.plen (s.fetch c.val) = false) :=
  ⟨⟨0, 20, issuing 0, .none, by decide +kernel⟩, ⟨0, 20, issuing (ctlWord 0), by decide +kernel⟩,
   ⟨0, 20, issuing (ctlWord 4), by decide +kernel⟩,
   ⟨0, 20, (issuing (ctlWord 4)).modTask 0 (fun r => { r with move := some { aMove with handed := some 1 } }), by decide +kernel⟩,
   ⟨0, 20, issuing (ctlWord 5), by decide +kernel⟩, ⟨0, 20, issuing (ctlWord 6), by decide +kernel⟩⟩

/-- The pair of berths 0 and 1 at a program of one word. -/
def pairIssuing (w : W64) : State :=
  ((issuing w).modCore 1 (fun k => { k with
    state := .active, task := 0, image := { k.image with plen := 2, wdlim := 0xFFFFF }, mems := { k.mems with prog := [(0, w)] } })).modTask 0
    (fun r => { r with partner := some 1 })

theorem witness_PairsQueuesAndWatchdog :
    (∃ (c : Fin 32) (cy : Nat) (s : State), s.members c.val = [0, 1] ∧ s.allMay (s.members c.val) cy = true ∧
      asBundle (s.fetch ((s.members c.val).headD c.val)) = true ∧ 
      (s.members c.val).all (fun x => s.bundleRoom (memberCycle (s.members c.val) x cy) x) = true ∧
      s.upsetOk c.val .none = true) ∧
    (∃ (c : Fin 32) (cy : Nat) (s : State), s.members c.val = [0, 1] ∧ s.allMay (s.members c.val) cy = true ∧
      s.ctlAt ((s.members c.val).headD c.val) 0 = true ∧ 
      (s.members c.val).any (fun x => s.ctlHeld (memberCycle (s.members c.val) x cy) x) = false ∧
      s.flowUpsetOk flowBra c.val .none = true) ∧
    (∃ (c : Fin 32) (cy : Nat) (s : State), s.members c.val = [0, 1] ∧ s.allMay (s.members c.val) cy = true ∧
      s.ctlAt ((s.members c.val).headD c.val) 4 = true ∧ s.outgoing ((s.members c.val).headD c.val) = false) ∧
    (∃ (c : Fin 32) (cy : Nat) (s : State), s.members c.val = [0, 1] ∧ s.allMay (s.members c.val) cy = true ∧
      s.ctlAt ((s.members c.val).headD c.val) 5 = true) ∧
    (∃ (c : Fin 32) (cy : Nat) (s : State), s.members c.val = [0, 1] ∧ s.allMay (s.members c.val) cy = true ∧
      s.ctlAt ((s.members c.val).headD c.val) 6 = true) ∧
    (∃ (c : Fin 32) (r : DeckRd) (l : List DeckRd) (s : State), s.members c.val = [c.val] ∧
      (s.core c.val).reads = r :: l ∧ r.after = 0) ∧
    (∃ (c : Fin 32) (cy : Nat) (s : State), s.inStage cy = true ∧ (s.core c.val).state = .active ∧
      (s.core c.val).wait ≠ some .frame ∧ wdLimit s.rate (s.core c.val).image.wdlim ≤ (s.core c.val).ran + cy) :=
  ⟨⟨0, 20, pairIssuing 0, by decide +kernel⟩, ⟨1, 20, pairIssuing (ctlWord 0), by decide +kernel⟩,
   ⟨0, 20, pairIssuing (ctlWord 4), by decide +kernel⟩, ⟨0, 20, pairIssuing (ctlWord 5), by decide +kernel⟩,
   ⟨0, 20, pairIssuing (ctlWord 6), by decide +kernel⟩,
   ⟨0, ⟨3, 0, 0, 0, none⟩, [], live.modCore 0 (fun k => { k with reads := [⟨3, 0, 0, 0, none⟩] }), by decide +kernel⟩,
   ⟨0, 100, (issuing 0).modCore 0 (fun k => { k with ran := 0xFFFFF }), by decide +kernel⟩⟩

theorem witness_ControlFlowAndConditions :
    (∃ (r : CoreRegs) (plen : Nat) (w : W64), ctlBad r plen w = false ∧ ctlCond r w = false) ∧
    (∃ (r : CoreRegs) (plen : Nat) (w : W64), ctlBad r plen w = false ∧ ctlCond r w = true ∧ bf w 47 47 = 0 ∧ r.rets = []) ∧
    (∃ (r : CoreRegs) (plen : Nat) (w : W64), ctlBad r plen w = false ∧ ctlCond r w = true ∧ bf w 47 47 = 1 ∧ r.loops = []) ∧
    (∃ (r : CoreRegs) (plen : Nat) (w : W64) (e : LoopRec), ctlBad r plen w = false ∧ ctlCond r w = true ∧ bf w 47 47 = 1 ∧
      r.loops = [e]) ∧
    (∃ (r : CoreRegs) (plen : Nat) (w : W64), ctlBad r plen w = false ∧ ctlCond r w = true ∧ r.rets.length = 8) ∧
    (∃ (r : CoreRegs) (plen : Nat) (w : W64) (a : Nat), ctlBad r plen w = false ∧ ctlCond r w = true ∧ r.rets = [a]) :=
  ⟨⟨clearRegs, 2, ctlWord 0 ||| 0x0001000000000000, by decide +kernel⟩, ⟨clearRegs, 2, ctlWord 0, by decide +kernel⟩,
   ⟨clearRegs, 2, ctlWord 0 ||| 0x0000800000000000, by decide +kernel⟩,
   ⟨{ clearRegs with loops := [⟨1, 5, 2, 0⟩] }, 2, ctlWord 0 ||| 0x0000800000000000, ⟨1, 5, 2, 0⟩, by decide +kernel⟩,
   ⟨{ clearRegs with rets := List.replicate 8 1 }, 2, ctlWord 1, by decide +kernel⟩,
   ⟨{ clearRegs with rets := [1] }, 2, ctlWord 2, 1, by decide +kernel⟩⟩

theorem witness_AluArithmetic :
    ∀ op ∈ [0x08, 0x09, 0x0A, 0x0B, 0x0F, 0x15, 0x16], ∃ w : W64, cop w = op := by
  intro op h
  simp only [List.mem_cons, List.not_mem_nil, or_false] at h
  rcases h with rfl | rfl | rfl | rfl | rfl | rfl | rfl
  · exact ⟨0x2000000000000000, by decide⟩
  · exact ⟨0x2400000000000000, by decide⟩
  · exact ⟨0x2800000000000000, by decide⟩
  · exact ⟨0x2C00000000000000, by decide⟩
  · exact ⟨0x3C00000000000000, by decide⟩
  · exact ⟨0x5400000000000000, by decide⟩
  · exact ⟨0x5800000000000000, by decide⟩

theorem witness_MultiplyAccumulate : ∃ w : W64, cop w = 0x01 ∧ bf w 39 39 = 0 ∧ bf w 38 38 = 1 :=
  ⟨0x0400004000000000, by decide⟩

/-- A stop fade, or a fault repeat, of task 0. -/
def patch (fade : Bool) : Patch := ⟨0, 0, 1, fade, [6]⟩

/-- A ferry of task 0 away from berth 1, before its copy. -/
def aFerry : FerryJob := ⟨0, 1, 1, [], true, false, false, false⟩

theorem witness_FerryEvents :
    (∃ (k : Fin 32) (cy : Nat) (p : Patch) (s : State), s.inStage cy = true ∧ s.patchOf k.val false = some p) ∧
    (∃ (k : Fin 32) (cy : Nat) (p : Patch) (s : State), s.inStage cy = true ∧ s.patchOf k.val true = some p) ∧
    (∃ (cy : Nat) (j : FerryJob) (s : State), s.ferry.cur = some j ∧ j.copied = false ∧ (s.task j.task).applying = [] ∧
      s.inStage cy = true) ∧
    (∃ (k : Fin 32) (s : State), (s.task k.val).sh = .filling ∧ (s.task k.val).fillOn = true ∧ (s.task k.val).filled = false) ∧
    (∃ (k : Fin 32) (s : State), (s.task k.val).applying ≠ []) ∧
    (∃ (b : Fin 32) (s : State), s.ferry.fills.contains b.val = true) ∧
    (∃ (b : Fin 32) (s : State), (s.core b.val).state = .testing ∧ s.copyOwed b.val = false) ∧
    (∃ (k : Fin 32) (m : Move) (s : State), (s.task k.val).move = some m ∧ m.mirrored = false ∧ m.handed = none) ∧
    (∃ (k : Fin 32) (m : Move) (s : State), (s.task k.val).move = some m ∧ m.handed.isSome = true ∧ m.firstWrite.isSome = true) ∧
    (∃ (k : Fin 32) (s : State), (s.task k.val).rvwait = true ∧ (s.task k.val).holdLeft = 0) ∧
    (∃ (k : Fin 32) (b : Nat) (s : State), (s.task k.val).rejoin = some b ∧ (s.task k.val).solo = true ∧
      (s.task k.val).holdLeft = 0 ∧ (s.task k.val).move = none ∧ (s.core b).state = .idle ∧
      s.ferry.fills.contains b = false) :=
  let st := staging .sc 1
  let fy := fun (f : Ferry → Ferry) => { st with ferry := f st.ferry }
  ⟨⟨0, 20, patch false, fy (fun f => { f with patches := [patch false] }), by decide +kernel⟩,
   ⟨0, 20, patch true, fy (fun f => { f with patches := [patch true] }), by decide +kernel⟩,
   ⟨20, aFerry, fy (fun f => { f with cur := some aFerry }), by decide +kernel⟩,
   ⟨0, live.modTask 0 (fun r => { r with sh := .filling, fillOn := true }), by decide +kernel⟩,
   ⟨0, live.modTask 0 (fun r => { r with applying := [⟨false, 0, 5⟩] }), by decide +kernel⟩,
   ⟨3, fy (fun f => { f with fills := [3] }), by decide +kernel⟩,
   ⟨3, live.modCore 3 (fun k => { k with state := .testing }), by decide +kernel⟩,
   ⟨0, aMove, live.modTask 0 (fun r => { r with move := some aMove }), by decide +kernel⟩,
   ⟨0, { aMove with handed := some 1, firstWrite := some 9 },
     live.modTask 0 (fun r => { r with move := some { aMove with handed := some 1, firstWrite := some 9 } }), by decide +kernel⟩,
   ⟨0, live.modTask 0 (fun r => { r with rvwait := true, holdLeft := 0 }), by decide +kernel⟩,
   ⟨0, 1, live.modTask 0 (fun r => { r with rejoin := some 1, solo := true, holdLeft := 0 }), by decide +kernel⟩⟩

/-- The PCIe link is up. -/
def linked : State := live.setFld F.PCIE_STAT_SPEED 3

theorem witness_PcieEvents :
    (∃ s : State, s.awake = true ∧ s.pcieOpen = true) ∧
    (∃ (v : BitVec 3) (s : State), s.awake = true ∧ v ≠ 0 ∧ s.on F.PLL0_STAT_LOCK = true) ∧
    (∃ (a : Nat) (s : State), s.awake = true ∧ a % 4 = 0) ∧
    (∃ (m : Fin 8) (s : State), s.pcie.spacing.contains m.val = true) :=
  ⟨⟨linked, by decide +kernel⟩, ⟨3, live, by decide +kernel⟩,
   ⟨0x1000, linked, by decide +kernel⟩, ⟨2, { live with pcie := { live.pcie with spacing := [2] } }, by decide +kernel⟩⟩

/-- Mooring 2 on QuayPort 0 with a reply that waits. -/
def quayed (l : List OutPkt) : State :=
  let t := (live.setFld (F.QPn_CTRL_EN 0) 1).setFld (F.MOOR_BINDm_LINK 2) 4
  { t with moors := t.moors.set 2 { t.moors[2] with out := l } }

theorem witness_QuayEvents :
    (∃ (n : Fin 2) (s : State), s.awake = true ∧ s.quayOpen n.val = true ∧ s.ctl.run = .restarting) ∧
    (∃ (n : Fin 2) (s : State) (m : Fin 8) (p : OutPkt), s.awake = true ∧ s.quayOpen n.val = true ∧ s.ctl.run ≠ .restarting ∧
      s.quayStore n.val = [(m, p)]) ∧
    (∃ (n : Fin 2) (m : Fin 8) (s : State), s.awake = true ∧ s.quayOpen n.val = true ∧ s.fld (F.MOOR_BINDm_LINK m.val) = 4 + n.val) ∧
    (∃ op : Byte, op ∉ ([0x5C, 0x3A, 0x96, 0x6E] : List Byte)) :=
  ⟨⟨0, { quayed [] with ctl := { live.ctl with run := .restarting } }, by decide +kernel⟩,
   ⟨0, quayed [⟨[7], false, 1⟩], 2, ⟨[7], false, 1⟩, by decide +kernel⟩,
   ⟨0, 2, quayed [], by decide +kernel⟩, ⟨0x00, by decide⟩⟩

/-- A packet of 4 units has landed whole for mooring 0, class 2. -/
def landed (flush : List Nat) : State := live.setQueue 0 2 { live.queue 0 2 with landed := [⟨0, 4, 1, flush⟩] }

theorem witness_PacketsStart :
    (∃ s : State, s.awake = true) ∧
    (∃ (m : Fin 8) (c : Fin 4) (p : Landed) (s : State), s.awake = true ∧ s.commands = true ∧ s.nextPacket = some (m, c, p) ∧
      p.flush ≠ []) ∧
    (∃ (m : Fin 8) (c : Fin 4) (p : Landed) (s : State), s.awake = true ∧ s.commands = true ∧ s.nextPacket = some (m, c, p) ∧
      p.flush = []) ∧
    (∃ (s : State) (p : Pkt) (rest : List Pkt), s.awake = true ∧ s.commands = true ∧ s.nextPacket = none ∧
      s.ctl.stack = p :: rest ∧ ∀ i ∈ p.insns.head?, opListed i.op = true) ∧
    (∃ s : State, s.awake = true ∧ s.commands = true ∧ s.nextPacket = none ∧ s.ctl.stack = []) :=
  ⟨⟨live, by decide +kernel⟩, ⟨0, 2, ⟨0, 4, 1, [3]⟩, landed [3], by decide +kernel⟩,
   ⟨0, 2, ⟨0, 1, 1, []⟩, arrived 0, by decide +kernel⟩,
   ⟨running ⟨0x10, 0, [2]⟩, packet ⟨0x10, 0, [2]⟩, [], by decide +kernel⟩, ⟨live, by decide +kernel⟩⟩

theorem witness_MgmtTransfers : ∃ s : State, s.pwr.por = false := ⟨live, by decide +kernel⟩

theorem witness_TapAndDebugAccess :
    (∃ s : State, s.pwr.por = false) ∧
    (∃ (a : Nat) (s : State), let u : State := { s with side := { s.side with debug := true } }
      s.awake = true ∧ a % 4 = 0 ∧ s.gateOpen 1 22 = true ∧ u.debugError (u.remapped a) true = none ∧
        u.debugError (u.remapped a) false = none) ∧
    (∃ (a : Nat) (s : State), s.awake = true ∧ a % 4 = 0 ∧ s.gateOpen 1 22 = false) :=
  ⟨⟨live, by decide +kernel⟩, ⟨0x20000010, live, by decide +kernel⟩, ⟨0, live.setReg (F.CKG_ENn 1) 0, by decide +kernel⟩⟩

theorem witness_ControllersBootAndRestart :
    (∃ s : State, s.ctl.run = .booting ∧ s.romBad = none) ∧ (∃ s : State, s.ctlRuns = true ∧ s.pwr.held = false) ∧
    (∃ s : State, s.ctl.run = .restarting) ∧ (∃ s : State, s.ctl.run = .loader) :=
  ⟨⟨{ live with ctl := { live.ctl with run := .booting } }, by decide +kernel⟩, ⟨live, by decide +kernel⟩,
   ⟨{ live with ctl := { live.ctl with run := .restarting } }, by decide +kernel⟩, ⟨loader, by decide +kernel⟩⟩

theorem witness_BankEvents :
    (∃ (a : Nat) (s : State), s.markAt a = some .single) ∧ (∃ (a : Nat) (s : State), s.markAt a ≠ some .single) ∧
    (∃ s : State, s.memtRuns 20 = true) ∧ (∃ s : State, s.on F.MARCH_STAT_RUN = true) ∧
    (∃ (b : Nat) (s : State), b < 40 ∧ s.bankOn b = true ∧ s.pwr.held = false ∧ s.on F.PLL0_STAT_LOCK = true) ∧
    (∃ (d : Fin 8) (s : State), (look s.pwr.moving d.val).isSome = true) :=
  ⟨⟨0x20000010, live.setMark 0x20000010 (some .single), by decide +kernel⟩, ⟨0x20000010, live, by decide +kernel⟩,
   ⟨live, by decide +kernel⟩, ⟨live.setFld F.MARCH_STAT_RUN 1, by decide +kernel⟩, ⟨39, live, by decide +kernel⟩,
   ⟨6, next (exec (.power (rq 0 2 0 [0x206])) live) live, by decide +kernel⟩⟩

theorem witness_DramEvents :
    (∃ s : State, s.dramClock = true ∧ s.training = true) ∧
    (∃ s : State, s.dramClock = true ∧ s.fld F.DRC_STAT_STATE = 4 ∧ s.on F.DRC_CTRL_PATROL = true ∧ 64 ≤ s.dramBytes) ∧
    (∃ (k : Fin 32) (r : RecLine) (s : State), s.dram.recs.find? (fun r => r.c == k.val) = some r) :=
  ⟨⟨live.setFld F.DRC_STAT_STATE 1, by decide +kernel⟩,
   ⟨(drammed.setFld F.DRC_STAT_STATE 4).setFld F.DRC_CTRL_PATROL 1, by decide +kernel⟩,
   ⟨3, ⟨3, 0, [1], 0, 16⟩, { live with dram := { live.dram with recs := [⟨3, 0, [1], 0, 16⟩] } }, by decide +kernel⟩⟩

/-- Network A up, with an address. -/
def netUp : State := ((live.setFld (F.NETx_STAT_LINK 0) 1).setFld (F.NETx_CTRL_EN 0) 1).setReg (F.NETx_IP 0) 0x0A000001

/-- A running transmit context at a sample. -/
def sending (msi : Nat) : State :=
  { netUp.setCtx 3 { newCtx [0xA0000000, 0, 0xEF000001, 0, at32 5004 16, 0, 0, 0] with run := true } with msi := msi }

/-- A frame of network A without samples. -/
def rtpIn : RtpIn := ⟨false, .good, ⟨0x0A000002, 0xEF000001, 5004, 0, false⟩, List.replicate 98 0, true, 98, 0, 0, []⟩

theorem witness_NetworkEvents :
    (∃ (v : BitVec 3) (s : State), s.awake = true ∧ s.pd 5 = 0 ∧ v.toNat = 5) ∧
    (∃ (f : RtpIn) (s : State), s.hears f.netB = true) ∧
    (∃ (b : Bool) (ip : W32) (l : List Byte) (s : State), s.hears b = true ∧ s.firmware = true ∧ s.reg (F.NETx_IP (netIx b)) = ip ∧
      ip ≠ 0 ∧ l.length ≤ 1472) ∧
    (∃ l : List Byte, 1472 < l.length) ∧
    (∃ (n : Fin 512) (k : Ctx) (s : State), s.awake = true ∧ s.firmware = true ∧ s.ctx n.val = some k ∧ k.run = true ∧
      k.tx = false ∧ k.reports = 1) ∧
    (∃ (n : Fin 512) (k : Ctx) (a b : Bool) (s : State), s.packetises = true ∧ s.ctx n.val = some k ∧
      s.packetReady k false = true ∧ k.unsent.filter (fun x => (if x then b else a) && s.netUp x) ≠ []) ∧
    (∃ (n : Fin 512) (k : Ctx) (s : State), s.packetises = true ∧ s.ctx n.val = some k ∧ s.packetReady k true = true) ∧
    (∃ s : State, s.awake = true ∧ s.on F.NETA_MDIO_GO = true ∧ s.mdioReads = true) :=
  ⟨⟨5, live, by decide +kernel⟩, ⟨rtpIn, netUp, by decide +kernel⟩,
   ⟨false, 0x0A000001, [], netUp, by decide +kernel⟩, ⟨List.replicate 1473 0, by decide +kernel⟩,
   ⟨3, { rxCtx with run := true, reports := 1 }, live.setCtx 3 { rxCtx with run := true, reports := 1 }, by decide +kernel⟩,
   ⟨3, ((sending 6).ctx 3).getD rxCtx, true, false, sending 6, by decide +kernel⟩,
   ⟨3, ((sending 12).ctx 3).getD rxCtx, sending 12, by decide +kernel⟩,
   ⟨(live.setFld F.NETA_MDIO_GO 1).setFld F.NETA_MDIO_OP 2, by decide +kernel⟩⟩

theorem witness_PtpEvents :
    (∃ (b : Bool) (s : State), s.hears b = true ∧ s.ptpRuns = true ∧ s.ptpPorts b = true ∧ s.ptpSlave b = true) ∧
    (∃ (b : Bool) (q : W16) (t2 c0 : Int) (s : State), s.hears b = true ∧ s.ptpRuns = true ∧ s.ptpPorts b = true ∧
      s.ptpSlave b = true ∧ (s.ptpPort b).open_ = some (q, t2, c0)) ∧
    (∃ (b : Bool) (s : State), s.hears b = true ∧ s.ptpRuns = true ∧ s.ptpPorts b = true ∧ s.peerDelay = true) ∧
    (∃ (b : Bool) (s : State), s.hears b = true ∧ s.ptpRuns = true ∧ s.ptpPorts b = true ∧ s.peerDelay = false ∧
      4 ≤ s.fld (portFld b) ∧ s.fld (portFld b) ≠ 6) :=
  let p := netUp.setFld (portFld false) 8
  ⟨⟨false, p, by decide +kernel⟩,
   ⟨false, 5, 7, 0, p.modPtp false (fun x => { x with open_ := some (5, 7, 0) }), by decide +kernel⟩,
   ⟨false, netUp.setFld F.TIME_CFG_PROFILE 3, by decide +kernel⟩, ⟨false, netUp.setFld (portFld false) 4, by decide +kernel⟩⟩

theorem witness_PortEvents :
    (∃ (g : Fin 4) (f : TdmIn) (s : State), s.slaveRuns g.val = true ∧ s.tapHolds = false ∧ s.inPeriodAt f.d4 = true) ∧
    (∃ (n : Fin 8) (f : AesIn) (s : State), s.rxRuns n.val = true ∧ s.tapHolds = false ∧ s.inPeriodAt f.d4 = true) ∧
    (∃ (n : Fin 8) (s : State), s.rxRuns n.val = true ∧ s.on (F.AESRXn_STAT_LOCK n.val) = true) ∧
    (∃ (n : Fin 24) (s : State), s.asrcRuns = true ∧ s.asrcReady n.val = true) :=
  ⟨⟨1, ⟨256, 8333, []⟩, (live.setFld (F.TDMg_GCFG_EN 1) 1).setFld (F.TDMg_GCFG_MASTER 1) 0, by decide +kernel⟩,
   ⟨1, ⟨false, true, ⟨0, false, false, true, true⟩, ⟨0, false, false, true, true⟩, 8333⟩, live.setFld (F.AESRXn_CFG_EN 1) 1,
    by decide +kernel⟩,
   ⟨1, (live.setFld (F.AESRXn_CFG_EN 1) 1).setFld (F.AESRXn_STAT_LOCK 1) 1, by decide +kernel⟩,
   ⟨3, let t := live.setFld (F.ASRCn_STAT_STATE 3) 2
       { t with ports := { t.ports with dplls := [(3, { idleDpll with frames := 2048, hist := List.replicate 1025 0x1000000 })] } },
     by decide +kernel⟩⟩

/-- Bank 7 in raw mode. -/
def deckRaw : State := (live.setFld F.ECC_TEST_CTRL_RAW 1).setFld F.ECC_TEST_CTRL_BANK 7

/-- Input channel 0, of a TDM group of the engine's clock, runs and is bound to slot 7, of kind WORK. -/
def portToWork : State :=
  let t := (((decked.setFld (F.TDMl_ICFG_EN 0) 1).setFld (F.TDMg_GCFG_EN 0) 1).setFld (F.TDMg_GCFG_MASTER 0) 1).setFld (runFld false 0) 1
  { t with deck := { t.deck with inBind := [(0, 7)] } }

theorem witness_DeckReadsAndWrites :
    (∃ (slot f w : Nat) (s : State), look s.deck.words (deckKey slot f w) = none) ∧
    (∃ s : State, s.bankShut 7 = false) ∧ (∃ s : State, s.bankShut 7 = true) ∧
    (∃ slot f w slot' f' w' : Nat, deckKey slot' f' w' ≠ deckKey slot f w) ∧
    (∃ (k slot f w : Nat) (s : State), w < 16 ∧ (s.kind slot = .work ∨ s.kind slot = .out) ∧ f % 2 = k % 2) ∧
    (∃ (slot f w : Nat) (s : State), w < 16 ∧ s.msi % 16 = 2 ∧ s.kind slot = .inp ∧ f % 2 = s.msi / 16 % 2) ∧
    (∃ (first n slot w : Nat) (k : SlotKind) (s : State), w < 16 ∧ first ≤ slot ∧ slot < first + n ∧ s.kind slot ≠ k) ∧
    (∃ (slot f : Nat) (lag : Bool) (s : State),
      (s.kind slot = .inp ∨ s.kind slot = .free ∨ lag = true ∨ f ≠ s.tt.frame) ∧ s.bankShut 7 = false) ∧
    (∃ (ch n slot : Nat) (v : W24) (s : State), look s.deck.inBind ch = some slot ∧ s.kind slot ≠ .inp ∧ s.stopping ch n = none ∧
      (s.raw ch n).1 = .data v ∧ s.ports.waits = [] ∧ s.running false ch = true) ∧
    (∃ (a : Nat) (s : State), 0x90000000 ≤ a ∧ a < 0x90200000 ∧ s.rawBank 7 = false) ∧
    (∃ (q : Req) (s : State), s.takes 0x09 0 q ∧ s.ctl.run = .firmware ∧ q.cls.val ∈ [1, 2] ∧ 3 ≤ q.ops.length ∧
      0x90000000 ≤ opAddr q ∧ opAddr q < 0x90200000) :=
  ⟨⟨16383, 1, 15, live, by decide +kernel⟩, ⟨live, by decide +kernel⟩, ⟨deckRaw, by decide +kernel⟩, ⟨5, 0, 15, 5, 1, 0, by decide⟩,
   ⟨4, 7, 2, 15, decked, by decide +kernel⟩, ⟨5, 0, 15, { decked with msi := 2 }, by decide +kernel⟩,
   ⟨5, 3, 7, 15, .out, decked, by decide +kernel⟩, ⟨7, 0, true, decked, by decide +kernel⟩,
   ⟨0, 0, 7, 0, portToWork, by decide +kernel⟩, ⟨0x901FFFFC, live, by decide +kernel⟩,
   ⟨rq 0 2 0 [0x901FFFFC, 0, 5], live, takes_of (by decide +kernel), by decide +kernel⟩⟩

theorem witness_DeviceResetKeeps : ∃ cause : Nat, cause < 8 := ⟨6, by decide⟩

/-! ## Well-formed commands: each check refuses a term -/

theorem test_wf_operands : (Instr.nop (rq 0 2 0 (List.replicate 16387 0))).wf = false := by decide +kernel
theorem test_wf_temps : (Instr.tempSample []).wf = false := by decide
theorem test_wf_counts : (Instr.clockMonitorWindow ⟨[1, 2, 3], 0, 0, true⟩).wf = false := by decide
theorem test_wf_period : (Instr.samplePeriod ⟨0, [], [], [], []⟩).wf = false := by decide
theorem test_wf_inputs : (Instr.samplePeriod ⟨1, [(12288, 0)], [], [], []⟩).wf = false := by decide
theorem test_wf_channel : (Instr.zcTimeout true 12288).wf = false := by decide
theorem test_wf_bank : (Instr.bankReady 40 []).wf = false ∧ (Instr.bankReady 3 [⟨256, 0, 0, false⟩]).wf = false ∧
    (Instr.marchDone [⟨256, 0, 0, false⟩] 0).wf = false := by decide
theorem test_wf_refresh : (Instr.dramRefresh true ⟨0, []⟩).wf = false := by decide
theorem test_wf_training : (Instr.dramTrainingStep (.sweep [0])).wf = false := by decide
theorem test_wf_register : (Instr.registerWrite 2 0 none).wf = false := by decide
theorem test_wf_register_end : (Instr.rcRead 0x250000 none).wf = false ∧ (Instr.latchRead 6).wf = false := by decide
theorem test_wf_mgmt : (Instr.mgmtRead 0).wf = false := by decide
theorem test_wf_good : (Instr.echo (rq 3 2 0 [7, 8])).wf = true ∧ (Instr.rcRead 0x10004 none).wf = true := by decide

/-! ## Instructions: the record that stands in the packet -/

/-- The status and the payload of an instruction that is the next but one of its packet. -/
def answerOf (s : State) (c : Instr) : Option (Nat × List W32) :=
  (rowOf c).bind (fun r =>
    let p : Pkt := { packet ⟨r.op, r.q.mod, r.q.ops⟩ with
      m := r.q.m, cls := r.q.cls, insns := [⟨r.op, r.q.mod, r.q.ops⟩, ⟨0x00, 0, []⟩] }
    ((next (exec c { s with ctl := { s.ctl with stack := [p] } }) s).ctl.stack.head?).bind
      (fun p => p.recs.head?.map (fun x => (x.status, x.payload))))

/-- The status of a one-instruction packet that has failed: R282 and R317. -/
def failOf (s : State) (c : Instr) : Option Nat :=
  (rowOf c).map (fun r => (firstErr (r.errs true (s.enter r.op r.q))).getD 0)

-- R328: ECHO returns its operands.
theorem test_echo : answerOf live (.echo (rq 3 2 0 [7, 8])) = some (0x00, [7, 8]) := by decide +kernel
-- R329: MSI and frame at the start.
theorem test_query_frame : answerOf live (.queryFrame (rq 3 2 1 [])) = some (0x00, [0, 0, 0, 0]) := by decide +kernel
-- R314, R330: class 3 is EPROTO, another mooring EPERM, code 6 ERANGE.
theorem test_rate_refused : failOf live (.rate (rq 0 3 0 [2])) = some 0x27 ∧ failOf live (.rate (rq 3 2 0 [2])) = some 0x24 ∧
    failOf live (.rate (rq 0 2 0 [6])) = some 0x21 := by decide +kernel
-- R330: a RATE is accepted, and acts at the edge.
theorem test_rate : (next (exec (.rate (rq 0 2 0 [3])) live) live).rateChange.map (·.target) = some 3 := by decide +kernel
-- R326, R325: a word written to DRAM is read back.
theorem test_dram : answerOf (next (exec (.mwrite (rq 0 2 0 [0x00000010, 1, 5, 6])) drammed) drammed)
    (.mread (rq 0 2 0 [0x00000010, 0x00010001])) = some (0x00, [5, 6]) := by decide +kernel
-- R327: an access outside the regions is ERANGE.
theorem test_hole : failOf live (.mread (rq 0 2 0 [0x98000000, 0])) = some 0x21 := by decide +kernel
-- R236: HOLD takes 1 to 600 seconds.
theorem test_spare_hold : (next (exec (.spareHold (rq 0 2 1 [600])) live) live).fld F.SC_FERRY_HOLD_HOLD = 600 ∧
    failOf live (.spareHold (rq 0 2 1 [0])) = some 0x21 ∧ failOf live (.spareHold (rq 0 2 1 [601])) = some 0x21 := by decide +kernel
-- R149: TURN NEXT takes T = 16 (F + 2).
theorem test_turn_next : answerOf live (.turnNext (rq 0 2 1 [3])) = some (0x00, [32, 0]) := by decide +kernel
-- R149: T is a multiple of 16, and not before frame F + 2.
theorem test_turn_time : failOf live (.turnAt (rq 0 2 0 [3, 33, 0])) = some 0x26 ∧
    failOf live (.turnAt (rq 0 2 0 [3, 16, 0])) = some 0x26 := by decide +kernel
-- R355: LIFECYCLE needs authentication, and its key word.
theorem test_lifecycle_refused : failOf live (.lifecycle (rq 0 2 0 [1, 0x4C435901])) = some 0x12 ∧
    failOf live (.lifecycle { rq 0 2 0 [1, 0x4C435902] with auth := true }) = some 0x21 := by decide +kernel
-- R314: a task of another owner is EPERM.
theorem test_task_owner : failOf live (.taskOpen (rq 3 2 0 [0, 64])) = some 0x24 := by decide +kernel
-- R67: GANGWAY checks its owner before its class.
theorem test_gangway_order : failOf live (.gangwayInsrc (rq 3 3 0 [0x20001])) = some 0x24 ∧
    failOf live (.gangwayInsrc (rq 0 3 0 [0x20001])) = some 0x27 := by decide +kernel
-- R74, R76: at the next edge, XPT SET with r = 0 gives its gain to the entry of source 2 and destination 3.
theorem test_xpt : (go { decked with msi := 2 } [.xptSet (rq 0 2 0 [0x00020003, 0x00400000]), .stageEdge ⟨0, [], [], 0⟩]).xm.entries.map
    (fun e => (e.1, e.2.target)) = [(3 * 1024 + 2, 0x400000)] := by decide +kernel
-- R27, R31: KIND takes effect at the next edge.
theorem test_kind : ((go { live with msi := 2 } [.slotmapKind (rq 0 2 0 [5, 0x20003]), .stageEdge ⟨0, [], [], 0⟩]).kind 8,
    (go live [.slotmapKind (rq 0 2 0 [5, 0x20003])]).kind 8) = (SlotKind.work, .free) := by decide +kernel
-- R314, R562: the boot loader refuses RATE with ENOTREADY.
theorem test_loader : (next (exec (.rate (rq 0 2 0 [2])) (running ⟨0x10, 0, [2]⟩)) live).ctl.stack = [] ∧
    loader.executes 0x10 = false ∧ loader.executes 0x09 = true := by decide +kernel

/-! ## Events -/

-- R504, R505: TAMPER_N erases the keys and every byte of the secure bank.
theorem test_tamper : let s := { live.setByte 0x30000100 7 with sec := { live.sec with keys := [(3, [1])] } }
    ((go s [.tamperN]).byte 0x30000100, (go s [.tamperN]).sec.keys, (go s [.tamperN, .tamperWipeDone]).side.alert) =
      (0, [], 8) := by decide +kernel
-- R565: the IDCODE of stepping 0.
theorem test_idcode : (go live [.idcode]).side.data = [0x114806B9] := by decide +kernel
-- R305: a read advances the index; index 0x06 holds the device code.
theorem test_mgmt : let t := go live [.mgmtWrite 6, .mgmtRead 8]
    t.side.data = [0x14800000, 0] ∧ t.side.mgmtIndex = 8 := by decide +kernel
-- R557: a kick restarts the count of LIM times 100 ms, in ticks of 1 ms.
theorem test_kick : (go live [.gwdtKick 0x000A00A5]).pwr.guard = 1000 := by decide +kernel
-- R18: LIM below 10 is a reserved value, and keeps the field.
theorem test_kick_reserved : (go live [.gwdtKick 0x000900A5]).fld F.RST_GWDT_LIM = live.fld F.RST_GWDT_LIM := by decide +kernel
-- R542: BOOTSEL 5 to 7 are reserved, and set BADSEL.
theorem test_bootsel : ((go held [.deviceResetRelease 7]).on F.SYS_BOOT_BADSEL, cold.on F.SYS_BOOT_BADSEL) = (true, false) := by
  decide +kernel
-- R561: a lockstep mismatch restarts the controllers, with cause 1.
theorem test_lockstep : let t := go live [.ctlLockstepMismatch]
    (t.ctl.run, t.fld F.RST_CNT_CTLCAUSE, t.on F.SYS_READY_CTL) = (CtlRun.restarting, 1, false) := by decide +kernel
-- R23, R51: the first period after sample 0 at 48 kHz begins with the 8,334th D4 cycle.
theorem test_period : (live.periodBegins 8334, live.periodBegins 8333) = (true, false) := by decide +kernel
-- R15: a write of 1 clears a W1C bit, and one of 0 leaves it.
theorem test_w1c : ((go (live.setReg 0xC0000 0x40000000) [.registerWrite 0xC0000 0x40000000 none]).reg 0xC0000 &&& 0x40000000,
    (go (live.setReg 0xC0000 0x40000000) [.registerWrite 0xC0000 0 none]).reg 0xC0000 &&& 0x40000000) = (0, 0x40000000) := by
  decide +kernel
-- R301: a REPLY of an empty store brings out one word 0.
theorem test_qp_empty : (go (quayed []) [.qpReply 0 true]).side.data = [0] := by decide +kernel

/-! ## Sizes and arithmetic, from the tables of the spec -/

-- R87: GRID stage 1, CONSOLE stages 1 and 2 at 48 kHz.
theorem test_xm_dur : (xmDur 1024 512, xmDur 1024 256, xmDur 256 512) = (266752, 133632, 70144) := by decide
-- R87: D1 cycles of a frame at 48, 96 and 192 kHz.
theorem test_stage : (stageCycles 1 0, stageCycles 3 0, stageCycles 5 0) = (400000, 200000, 100000) := by decide
-- R124: a phase without spans; two spans on two lanes.
theorem test_pn_dur : pnDur [] [(0, 0), (1, 0)] 0 9 = 32 ∧
    pnDur [(1, ⟨0, 10, false, 0, 0⟩), (2, ⟨10, 4, false, 0, 0⟩)] [(0, 0), (1, 0)] 0 9 = 216 := by decide +kernel
-- R111: the biquad b0 = 1.0 needs tap exponent 1.
theorem test_lattice : lattice ⟨0x10000000, 0, 0, 0, 0⟩ = (⟨0, 0, 0x20000000, 0, 0⟩, 1) := by decide +kernel
-- R32: limiter instances of output channels.
theorem test_lim : (limOf 5, limOf 0x1003, limOf 0x2007) = (5, 1539, 519) := by decide
-- CRC-32C of the digits 1 to 9, and SHA-256 of abc, as their standards give them (R284, R508).
theorem test_crc : crc32c [0x31, 0x32, 0x33, 0x34, 0x35, 0x36, 0x37, 0x38, 0x39] = 0xE3069283 := by decide +kernel
theorem test_sha : (sha256 [0x61, 0x62, 0x63]).take 4 = [0xBA, 0x78, 0x16, 0xBF] := by decide +kernel

/-- A register-form word (R219). -/
def rword (op d s1 s2 : Nat) : W64 := BitVec.ofNat 64 (op * 2 ^ 58 + d * 2 ^ 54 + s1 * 2 ^ 50 + s2 * 2 ^ 46)

/-- D1 and D2 set. -/
def regs12 (a b : W32) : CoreRegs := { clearRegs with d := (clearRegs.d.set 1 a).set 2 b }

-- R223: ADD wraps, ADDS and ABS saturate, CMP writes no register, ASR by more than the width gives sign bits.
theorem test_add : let t := cmpExec (regs12 0x7FFFFFFF 1) (rword 0x08 3 1 2)
    (t.dr 3, t.n, t.z, t.v, t.c) = (0x80000000, true, false, true, false) := by decide +kernel
theorem test_adds : let t := cmpExec (regs12 0x7FFFFFFF 1) (rword 0x0A 3 1 2)
    (t.dr 3, t.n, t.v, t.sv) = (0x7FFFFFFF, false, true, true) := by decide +kernel
theorem test_cmp : let t := cmpExec (regs12 1 2) (rword 0x0F 0 1 2)
    (t.d = (regs12 1 2).d ∧ t.n = true ∧ t.c = false) := by decide +kernel
theorem test_abs : let t := cmpExec (regs12 0x80000000 0) (rword 0x16 1 1 0)
    (t.dr 1, t.v, t.sv) = (0x7FFFFFFF, true, true) := by decide +kernel
-- R221: MSU subtracts the product of the two most negative numbers.
theorem test_msu : ((cmpExec (regs12 0x80000000 0x80000000)
    (BitVec.ofNat 64 (0x01 * 2 ^ 58 + 2 * 2 ^ 56 + 1 * 2 ^ 52 + 2 * 2 ^ 48 + 2 ^ 38))).ar 2).toInt = -(2 ^ 62) := by decide +kernel
-- R229: CALL pushes the next address; R230: LOOP with a count of 0 goes past its end.
theorem test_call : flowCall clearRegs 100 (ctlWord 1 ||| 40) = .go { clearRegs with rets := [1], pc := 40 } true := by decide +kernel
theorem test_loop_zero : flowLoop clearRegs 100 (ctlWord 3 ||| 40) = .go { clearRegs with pc := 41 } true := by decide +kernel

/-! ## Ramps and glides -/

theorem witness_GainRamps :
    (∃ e : XmEntry, e.run = false) ∧ (∃ e : XmEntry, e.run = true ∧ e.cnt = 0) ∧ (∃ e : XmEntry, e.run = true ∧ e.cnt ≠ 0) ∧
    (∃ (e : XmEntry) (t : W24) (r : Nat), r ≤ 12 ∧ (r = 0 ∨ t = e.active)) ∧
    ∃ (e : XmEntry) (t : W24) (r n i : Nat), r ≤ 12 ∧ r ≠ 0 ∧ t ≠ e.active ∧ i < n ∧ 2 ^ r ≤ n :=
  ⟨⟨zeroEntry, rfl⟩, ⟨{ zeroEntry with run := true }, rfl, rfl⟩, ⟨{ zeroEntry with run := true, cnt := 1 }, rfl, by decide⟩,
    ⟨zeroEntry, 1, 0, by decide, .inl rfl⟩, ⟨zeroEntry, 0x200000, 12, 4096, 4095, by decide, by decide, by decide, by decide, by decide⟩⟩
-- R76, R77: a ramp from 0 to unity with shift 2 takes three quarters of the way in three samples and then the target.
theorem test_ramp : (xmTicks 5 (xmWrite zeroEntry 0x200000 2)).1 = [0x080000, 0x100000, 0x180000, 0x200000, 0x200000] := by
  decide +kernel
theorem witness_DirectAndGlideWrites :
    (∃ r : Section, r.run = false) ∧ (∃ r : Section, r.run = true ∧ r.cnt = 0) ∧ (∃ r : Section, r.run = true ∧ r.cnt ≠ 0) ∧
    ∃ (e et g k j j' : Nat), e ≤ 6 ∧ 1 ≤ k ∧ k ≤ 7 ∧ et ≤ 6 ∧ g ≤ 15 ∧ j < 2 ^ g ∧ 2 ^ g ≤ j' :=
  ⟨⟨idSection, rfl⟩, ⟨{ idSection with run := true }, rfl, rfl⟩, ⟨{ idSection with run := true, cnt := 1 }, rfl, by decide⟩,
    6, 6, 15, 7, 32767, 32768, by decide⟩
-- R113's example: section P with zero state passes 0x0040_0000 as 0x0048_0000.
theorem test_section_p : (spanSamples [0x00400000] [({ idSection with act := ⟨0xE0000000, 0x20000000, 0x2D000000, 0xE2000000, 0x18000000⟩, vea := 0 }, false)]).2.1
    = [0x00480000] := by decide +kernel

/-! ## Words of the table -/

-- No row of the opcode table gives bits.
theorem test_decode_none : decodeTableWord 32 0 = none ∧ (State.reset.withFetchWord 32 0).pending = [] := by decide +kernel

end Sys2Proof.Tests
end

section
/-! SUPPORT. Proofs/ReservedModifiers.lean: a reserved modifier (R18, R321): the error table of a row then holds ERANGE for certain
behind its conditions of class and mooring (R314, log 96), so that the row is answered with the first of the three. -/

namespace Sys2Proof.Machine

/-- The first error among the first conditions of a table is the first error of the table. -/
theorem firstErr_of_take {l : List (Bool × Nat)} {n e : Nat} (h : firstErr (l.take n) = some e) : firstErr l = some e := by
  induction l generalizing n with
  | nil => simp [firstErr] at h
  | cons x r ih =>
    cases n with
    | zero => simp [firstErr] at h
    | succ n =>
      simp only [List.take_succ_cons, firstErr] at h ⊢
      split
      · next hx => rwa [if_pos hx] at h
      · next hx => exact ih (by rwa [if_neg hx] at h)

/-- A signed instruction that meets one of the conditions ahead of its signature does not read the slot of its key (R188). -/
theorem checkedSigned_err {s : State} {ws : List W32} {n e : Nat} {cs : State → List (Bool × Nat)} {act : State → Res}
    (h : firstErr ((cs s).take n) = some e) : checkedSigned s ws n cs act = Res.err s e := by
  unfold checkedSigned
  rw [h]
  exact checked_err _ _ _ _ (firstErr_of_take h)

/-- The shape of an error table under a reserved modifier: the conditions of class and mooring, where the row has any, and ERANGE for
certain; no later condition concerns the mooring. l lists the classes allowed: all four where the table does not ask. -/
inductive ReservedTable (q : Req) : List Nat → List (Bool × Nat) → Prop
  | both (l : List Nat) (b : Bool) (rest : List (Bool × Nat)) (h : rest.any (·.2 == eperm) = false) :
      ReservedTable q l ((!clsIn q l, eproto) :: (b, eperm) :: (true, erange) :: rest)
  | cls (l : List Nat) (rest : List (Bool × Nat)) (h : rest.any (·.2 == eperm) = false) :
      ReservedTable q l ((!clsIn q l, eproto) :: (true, erange) :: rest)
  | mooring (b : Bool) (rest : List (Bool × Nat)) (h : rest.any (·.2 == eperm) = false) :
      ReservedTable q [0, 1, 2, 3] ((b, eperm) :: (true, erange) :: rest)
  | neither (rest : List (Bool × Nat)) (h : rest.any (·.2 == eperm) = false) :
      ReservedTable q [0, 1, 2, 3] ((true, erange) :: rest)

/-- The conditions of status EPERM. -/
def barredIn (t : List (Bool × Nat)) : Bool := t.any (fun e => e.1 && e.2 == eperm)

theorem barredIn_cons {b : Bool} {e : Nat} {t : List (Bool × Nat)} (h : e ≠ eperm) : barredIn ((b, e) :: t) = barredIn t := by
  simp [barredIn, h]

theorem barredIn_eperm (b : Bool) (t : List (Bool × Nat)) : barredIn ((b, eperm) :: t) = (b || barredIn t) := by
  simp [barredIn]

theorem barredIn_eq_false {t : List (Bool × Nat)} (h : t.any (·.2 == eperm) = false) : barredIn t = false := by
  rw [List.any_eq_false] at h
  exact List.any_eq_false.mpr (fun e he => by simp [h e he])

theorem mem_allClasses (c : Fin 4) : c.val ∈ [0, 1, 2, 3] := by
  revert c; decide

/-- Such a table gives the first of EPROTO, EPERM and ERANGE whose condition holds. -/
theorem ReservedTable.firstErr_eq {q : Req} {l : List Nat} {t : List (Bool × Nat)} (h : ReservedTable q l t) :
    firstErr (t.take 4) = some (if q.cls.val ∉ l then eproto else if barredIn t then eperm else erange) := by
  cases h with
  | both _ b rest h =>
    rw [barredIn_cons (by decide), barredIn_eperm, barredIn_cons (by decide), barredIn_eq_false h]
    by_cases hc : q.cls.val ∈ l <;> cases b <;> simp [firstErr, clsIn, hc]
  | cls _ rest h =>
    rw [barredIn_cons (by decide), barredIn_cons (by decide), barredIn_eq_false h]
    by_cases hc : q.cls.val ∈ l <;> simp [firstErr, clsIn, hc]
  | mooring b rest h =>
    rw [barredIn_eperm, barredIn_cons (by decide), barredIn_eq_false h, if_neg (not_not_intro (mem_allClasses q.cls))]
    cases b <;> simp [firstErr]
  | neither rest h =>
    rw [barredIn_cons (by decide), barredIn_eq_false h, if_neg (not_not_intro (mem_allClasses q.cls))]
    simp [firstErr]

/-- GANGWAY judges the ownership of the gangway before the class (R67). -/
theorem firstErr_gangway (q : Req) (l : List Nat) (s : State) :
    firstErr ((errsGangway q l true s).take 4) =
      some (if q.cls.val ∉ l ∧ s.owns q.m ownGangway 0 = true then eproto
        else if barredIn (errsGangway q l true s) then eperm else erange) := by
  unfold errsGangway
  rw [barredIn_eperm, barredIn_cons (by decide), barredIn_cons (by decide), barredIn_cons (by decide)]
  by_cases hc : q.cls.val ∈ l <;> cases ho : s.owns q.m ownGangway 0 <;> simp [firstErr, clsIn, hc, barredIn]

/-- Ownership is no part of a packet. -/
theorem owns_enter (s : State) (op : Nat) (q : Req) (m : Fin 8) (k n : Nat) : (s.enter op q).owns m k n = s.owns m k n := by
  rw [enter_eq]; rfl

/-- The table of MWRITE, with and without firmware (R326, R562). -/
theorem reservedTable_mwrite (q : Req) (u : State) : ReservedTable q [1, 2] (errsMwrite q false u) := by
  unfold errsMwrite
  split
  · exact .both _ _ _ rfl
  · exact .both _ _ _ rfl

/-- The table of every row but those of GANGWAY asks for the classes that R314 lists. -/
theorem reservedTable_of_rowOf {c : Instr} {r : Row} (h : rowOf c = some r) (hg : r.op ≠ 0x58) (u : State) :
    ReservedTable r.q (classesOf c) (r.errs false u) := by
  cases c <;> cases h
  case mwrite q => exact reservedTable_mwrite q u
  case gangwayInsrc | gangwayInopen | gangwayGain | gangwayOut => exact absurd rfl hg
  all_goals
    constructor
    rfl

/-- The table of GANGWAY under a reserved modifier: the ownership of the gangway, the class, ERANGE for certain (R67). -/
theorem gangwayTable_of_rowOf {c : Instr} {r : Row} (h : rowOf c = some r) (hg : r.op = 0x58) (u : State) :
    r.errs false u = errsGangway r.q (classesOf c) true u := by
  cases c <;> cases h
  case gangwayInsrc | gangwayInopen | gangwayGain | gangwayOut => rfl
  all_goals cases hg

/-- The first error of a row's table under a reserved modifier: EPROTO where its class is not allowed, else EPERM where its
mooring is not, else ERANGE; for GANGWAY the ownership comes before the class. -/
theorem firstErr_reserved {c : Instr} {r : Row} (h : rowOf c = some r) (u : State) :
    firstErr ((r.errs false u).take 4) =
      some (if r.q.cls.val ∉ classesOf c ∧ (r.op = 0x58 → u.owns r.q.m ownGangway 0 = true) then eproto
        else if r.barred u then eperm else erange) := by
  by_cases hg : r.op = 0x58
  · have ht := gangwayTable_of_rowOf h hg u
    have hb : r.barred u = barredIn (r.errs false u) := rfl
    simp only [hb, hg, ht, firstErr_gangway, true_implies]
  · simp only [hg, false_implies, and_true]
    exact (reservedTable_of_rowOf h hg u).firstErr_eq

/-- A row with a reserved modifier fails with the first error of its table, where that is one of the first conditions and stands
no lower than ERANGE. -/
theorem exec_reserved {c : Instr} {r : Row} {s : State} {e : Nat} (h : rowOf c = some r) (hs : s.serves r.op r.q = true)
    (hx : s.executes r.op = true) (hm : modSel r.op r.q.mod = none)
    (he : firstErr ((r.errs false (s.enter r.op r.q)).take 4) = some e) (ht : aboveRange e = true ∨ e = erange) :
    exec c s = s.rejects r.op r.q e := by
  have hc := fun act => checked_err (s.enter r.op r.q) _ act e (firstErr_of_take he)
  cases c <;> cases h
  case taskStart | ferryUcommit => exact insn_reserved_mem hs hx hm (checkedSigned_err he) ht
  case mwrite | mfill | power => exact insn_reserved_mem hs hx hm (hc _) ht
  case slotmapBindin | slotmapBindout => exact insn_reserved hs hx hm (by unfold bindAct; exact hc _) ht
  case turnAt | turnNext => exact insn_reserved hs hx hm (by unfold turnAct; exact hc _) ht
  case tstopFade | tstopCut => exact insn_reserved hs hx hm (by unfold tstopAct; exact hc _) ht
  case tparamReadActive | tparamReadInactive => exact insn_reserved hs hx hm (by unfold tparamRead; exact hc _) ht
  case alarmRaise | alarmClear => exact insn_reserved hs hx hm (by unfold alarmAct; exact hc _) ht
  all_goals exact insn_reserved hs hx hm (hc _) ht

/-- Settles O10: the row fails with the first error of its table, which stands among the conditions of class and mooring and the
ERANGE of the modifier. -/
theorem reservedModifiersFail : Obligations.ReservedModifiersFail := by
  intro c r s h hs hx hm
  refine exec_reserved h hs hx hm ?_ ?_
  · rw [firstErr_reserved h, owns_enter]
  · split
    · exact .inl rfl
    · split
      · exact .inl rfl
      · exact .inr rfl

end Sys2Proof.Machine
end

section
/-! SUPPORT. Proofs/RegisterReads.lean: reads of registers: what a read brings out, what it clears (R15) and captures (R591), and
that a register behind a closed gate answers 0 (R446). -/

namespace Sys2Proof.Machine

/-! ## Reads -/

/-- What a read of a register by the fabric leaves: the word that it brings out stands in side.data. -/
def State.readOut (s : State) (a : Nat) : State :=
  { (s.readReg a).2 with side := { (s.readReg a).2.side with data := [(s.readReg a).1] } }

theorem regRead_fabric {s : State} {a : Nat} (hw : s.awake = true) (ha : a % 4 = 0) : s.regRead a none = s.readOut a := by
  simp [State.regRead, hw, ha, State.readOut]

/-- Behind a closed gate a read brings out 0 and changes nothing. -/
theorem readReg_closed {s : State} {a : Nat} (ho : inOwn a = false) (hg : s.regOpen a = false) : s.readReg a = (0, s) := by
  simp [State.readReg, ho, hg]

/-- Behind an open gate a read brings the register's word out, and then captures and clears. -/
theorem readReg_open {s : State} {a : Nat} (ho : inOwn a = false) (hg : s.regOpen a = true) (hf : s.freeRead a = none) :
    s.readReg a = (s.view a, (s.latch a).clearRc a) := by
  simp [State.readReg, ho, hg, hf]

/-- A register that is none of those of R591 captures nothing. -/
theorem latch_eq_self {s : State} {a i j : Nat} {r : RegRow} (hf : findRow a = some (r, i, j)) (h1 : a ≠ F.TT_FRAME_LO)
    (h2 : a ≠ F.TIME_SECLO) (h3 : r.base ≠ F.TT_SCNg_TLO 0) : s.latch a = s := by
  simp [State.latch, h1, h2, hf, h3]

/-- The low half of the frame number captures the high half. -/
theorem latch_frame (s : State) : s.latch F.TT_FRAME_LO = s.setReg F.TT_FRAME_HI (lo32 (s.tt.frame / 2 ^ 32 % 2 ^ 28)) := by
  simp [State.latch]

/-- A read clears the bits of code RC. -/
theorem reg_clearRc {s : State} {a i j : Nat} {r : RegRow} (hf : findRow a = some (r, i, j)) (hr : r.rc ≠ 0) :
    (s.clearRc a).reg a = s.reg a &&& ~~~(BitVec.ofNat 32 r.rc) := by
  unfold State.clearRc
  simp only [hf, if_neg hr]
  split <;> exact reg_setReg_same s a _

/-- A register without bits of code RC is left by a read. -/
theorem clearRc_eq_self {s : State} {a i j : Nat} {r : RegRow} (hf : findRow a = some (r, i, j)) (hr : r.rc = 0) :
    s.clearRc a = s := by
  simp [State.clearRc, hf, hr]

/-! ## Writes -/

/-- A write of an aligned register by the fabric. -/
theorem regWrite_fabric {s : State} {a : Nat} (v : W32) (hw : s.awake = true) (ha : a % 4 = 0) :
    s.regWrite a v none = s.writeReg a v false := by
  simp [State.regWrite, hw, ha]

/-- Behind a closed gate a write is dropped. -/
theorem writeReg_closed {s : State} {a : Nat} (v : W32) (ho : inOwn a = false) (hg : s.regOpen a = false) :
    s.writeReg a v false = s := by
  simp [State.writeReg, ho, hg]

/-- REGISTER_WRITE by the fabric. -/
theorem exec_registerWrite {s : State} {a : Nat} (v : W32) (hw : s.awake = true) (ha : a % 4 = 0) :
    exec (.registerWrite a v none) s = doneMem s (s.writeReg a v false) :=
  congrArg (doneMem s) (regWrite_fabric v hw ha)

/-- RC_READ by the fabric. -/
theorem exec_rcRead {s : State} {a : Nat} (hw : s.awake = true) (ha : a % 4 = 0) :
    exec (.rcRead a none) s = done s (s.readOut a) :=
  congrArg (done s) (regRead_fabric hw ha)

/-- LATCH_READ. -/
theorem exec_latchRead {s : State} {a : Nat} (hw : s.awake = true) (ha : a % 4 = 0) :
    exec (.latchRead a) s = done s (s.readOut a) :=
  congrArg (done s) (regRead_fabric hw ha)

/-- A read behind a closed gate brings out 0 and leaves the units. -/
theorem done_readReg_closed {s : State} {a : Nat} (ho : inOwn a = false) (hg : s.regOpen a = false) :
    ∃ t, done s (s.readOut a) = .next t ∧ t.side.data = [0] ∧ s.unitsKept { t with side := s.side } := by
  rw [State.readOut, readReg_closed ho hg]
  exact ⟨_, rfl, rfl, rfl⟩

/-- RC_READ of a register with bits of code RC. -/
theorem rcRead_clears {s : State} {a i j : Nat} {r : RegRow} (hw : s.awake = true) (ha : a % 4 = 0) (ho : inOwn a = false)
    (hg : s.regOpen a = true) (hf : findRow a = some (r, i, j)) (hr : r.rc ≠ 0) (hfree : s.freeRead a = none)
    (h1 : a ≠ F.TT_FRAME_LO) (h2 : a ≠ F.TIME_SECLO) (h3 : r.base ≠ F.TT_SCNg_TLO 0) :
    ∃ t, exec (.rcRead a none) s = .next t ∧ t.side.data = [s.view a] ∧
      t.reg a = s.reg a &&& ~~~(BitVec.ofNat 32 r.rc) := by
  rw [exec_rcRead hw ha, State.readOut, readReg_open ho hg hfree, latch_eq_self hf h1 h2 h3]
  exact ⟨_, rfl, rfl, reg_clearRc hf hr⟩

/-- LATCH_READ of the low half of the frame number. -/
theorem latchRead_frame {s : State} (hw : s.awake = true) (hg : s.regOpen F.TT_FRAME_LO = true) :
    ∃ t, exec (.latchRead F.TT_FRAME_LO) s = .next t ∧ t.side.data = [s.view F.TT_FRAME_LO] ∧
      t.reg F.TT_FRAME_HI = lo32 (s.tt.frame / 2 ^ 32 % 2 ^ 28) := by
  have hf : findRow F.TT_FRAME_LO = some ({ base := 0x240008 }, 0, 0) := rfl
  have hfree : s.freeRead F.TT_FRAME_LO = none := by simp [State.freeRead, F.TT_FRAME_LO, F.MARCH_STAT, F.MPLL_STAT]
  rw [exec_latchRead hw rfl, State.readOut, readReg_open rfl hg hfree, latch_frame, clearRc_eq_self hf rfl]
  exact ⟨_, rfl, rfl, reg_setReg_same s _ _⟩

/-- Settles O32: an open register brings its word out and is cleared, or latches its other half; a closed one drops a write and
answers 0. -/
theorem registerReadsAndClosedUnits : Obligations.RegisterReadsAndClosedUnits := by
  refine ⟨fun a i j r s hw ha ho hg hf hr hfree h1 h2 h3 => rcRead_clears hw ha ho hg hf hr hfree h1 h2 h3,
    fun s hw hg => latchRead_frame hw hg, fun a v s hw ha ho hg => ⟨?_, ?_, ?_⟩⟩
  · rw [exec_registerWrite v hw ha, writeReg_closed v ho hg]
    rfl
  · rw [exec_rcRead hw ha]
    exact done_readReg_closed ho hg
  · rw [exec_latchRead hw ha]
    exact done_readReg_closed ho hg

end Sys2Proof.Machine
end

section
/-! SUPPORT. Proofs/RegisterWrites.lean: writes of registers: the bits that the access codes store (R15, R18), the rows that hold
the registers of the tables, and one lemma for what a write of each kind of register leaves. -/

namespace Sys2Proof.Machine

/-! ## Bits and fields -/

/-- A register reads its own word of the register map alone. -/
theorem reg_congr {s t : State} (h : t.regs = s.regs) (x : Nat) : t.reg x = s.reg x := by
  unfold State.reg; rw [h]

theorem fld_congr {s t : State} {f : Fld} (h : t.reg f.reg = s.reg f.reg) : t.fld f = s.fld f := by
  unfold State.fld; rw [h]

theorem on_congr {s t : State} {f : Fld} (h : t.reg f.reg = s.reg f.reg) : t.on f = s.on f := by
  unfold State.on; rw [fld_congr h]

/-- A field of one bit reads that bit. -/
theorem bf_one {n : Nat} (w : BitVec n) (i : Nat) : bf w i i = (w.getLsbD i).toNat := by
  unfold bf
  rw [Nat.add_sub_cancel_left, Nat.pow_one, Nat.shiftRight_eq_div_pow, ← Nat.toNat_testBit]
  rfl

theorem on_bit {s : State} {f : Fld} (h : f.hi = f.lo) : s.on f = (s.reg f.reg).getLsbD f.lo := by
  unfold State.on State.fld
  rw [h, bf_one]
  cases (s.reg f.reg).getLsbD f.lo <;> rfl

/-- A field depends on its bits alone. -/
theorem bf_eq_of_bits {n : Nat} {w u : BitVec n} {hi lo : Nat}
    (h : ∀ b, lo ≤ b → b ≤ hi → w.getLsbD b = u.getLsbD b) : bf w hi lo = bf u hi lo := by
  apply Nat.eq_of_testBit_eq
  intro k
  rw [bf_testBit, bf_testBit]
  by_cases hk : k < hi + 1 - lo
  · rw [h (lo + k) (by omega) (by omega)]
  · simp [hk]

/-! ## Access codes -/

/-- Bit b belongs to one of the fields of a list. -/
def inFields (l : List (Nat × Nat)) (b : Nat) : Bool := l.any (fun f => f.2 ≤ b && b ≤ f.1)

/-- A field given the bits of another word holds them, and every other bit is left. -/
theorem setBf_bf_getLsbD (old v : W32) (hi lo : Nat) {b : Nat} (hb : b < 32) :
    (setBf v hi lo (bf old hi lo)).getLsbD b = if (decide (lo ≤ b) && decide (b ≤ hi)) = true then old.getLsbD b else v.getLsbD b := by
  rw [setBf_getLsbD, bf_testBit]
  by_cases hf : lo ≤ b ∧ b ≤ hi
  · have h1 : lo ≤ b ∧ b < hi + 1 ∧ b < 32 := by omega
    have h2 : b - lo < hi + 1 - lo := by omega
    have h3 : lo + (b - lo) = b := by omega
    simp [hf, h1, h2, h3]
  · have h1 : ¬ (lo ≤ b ∧ b < hi + 1 ∧ b < 32) := by omega
    rw [if_neg h1, if_neg (by simpa using hf)]

/-- As setBf_bf_getLsbD, for the fields of a list. -/
theorem foldl_setBf_getLsbD (old : W32) (l : List (Nat × Nat)) (v : W32) {b : Nat} (hb : b < 32) :
    (l.foldl (fun v f => setBf v f.1 f.2 (bf old f.1 f.2)) v).getLsbD b =
      if inFields l b then old.getLsbD b else v.getLsbD b := by
  induction l generalizing v with
  | nil => rfl
  | cons f r ih =>
    rw [List.foldl_cons, ih, setBf_bf_getLsbD old v f.1 f.2 hb, inFields, inFields, List.any_cons]
    cases r.any _ <;> simp

/-- A field with a reserved encoding keeps what the register holds (R18). -/
theorem keepReserved_getLsbD (base a : Nat) (old v : W32) {b : Nat} (hb : b < 32) :
    (keepReserved base a old v).getLsbD b =
      if inFields (reservedIn base a v) b then old.getLsbD b else v.getLsbD b :=
  foldl_setBf_getLsbD old _ v hb

/-- A write by the access codes, bit by bit. -/
theorem byCodes_getLsbD (s : State) (r : RegRow) (a : Nat) (v : W32) {b : Nat} (hb : b < 32) :
    (s.byCodes r a v).getLsbD b = s.bitAfter r a v b := by
  have hk := keepReserved_getLsbD r.base a (s.reg a) v hb
  have hl : (if s.locked a = true then 0 else r.rwl).testBit b = (r.rwl.testBit b && !s.locked a) := by
    cases s.locked a <;> simp
  unfold inFields at hk
  unfold State.byCodes State.bitAfter
  simp only [BitVec.getLsbD_and, BitVec.getLsbD_or, BitVec.getLsbD_not, BitVec.getLsbD_ofNat, Nat.testBit_or, hb, decide_true,
    Bool.true_and, hk, hl]
  rw [Bool.and_comm (v.getLsbD b)]
  cases r.rw.testBit b || (r.rwl.testBit b && !s.locked a) <;> cases (reservedIn r.base a v).any _ <;> simp

/-! ## Rows -/

/-- A row of one register meets no other offset. -/
theorem rowAt_single_ne {r : RegRow} {a : Nat} (h1 : r.n1 = 1) (h2 : r.n2 = 1) (ha : a ≠ r.base) : rowAt r a = none := by
  unfold rowAt
  rw [h1, h2]
  split
  · rfl
  · have : a - r.base ≠ 0 := by omega
    simp [this]

/-- An array's row at index i. -/
theorem rowAt_array {r : RegRow} {i : Nat} (h1 : r.n1 ≠ 1) (h2 : r.n2 = 1) (hs : 0 < r.s1) (hi : i < r.n1) :
    rowAt r (r.base + r.s1 * i) = some (i, 0) := by
  have hb : ¬ r.base + r.s1 * i < r.base := by omega
  unfold rowAt
  rw [h2, if_neg hb, Nat.add_sub_cancel_left]
  simp [h1, hi, Nat.mul_div_cancel_left i hs]

/-- The row of an array of two indices at indices i and j. -/
theorem rowAt_array2 {r : RegRow} {i j : Nat} (h1 : r.n1 ≠ 1) (h2 : r.n2 ≠ 1) (hs : 0 < r.s2) (hi : i < r.n1) (hj : j < r.n2)
    (hfit : r.s2 * j < r.s1) : rowAt r (r.base + (r.s1 * i + r.s2 * j)) = some (i, j) := by
  have hb : ¬ r.base + (r.s1 * i + r.s2 * j) < r.base := by omega
  have hd : (r.s1 * i + r.s2 * j) / r.s1 = i := by
    rw [Nat.mul_add_div (by omega), Nat.div_eq_of_lt hfit, Nat.add_zero]
  have he : (r.s1 * i + r.s2 * j) % r.s1 = r.s2 * j := by
    rw [Nat.mul_add_mod, Nat.mod_eq_of_lt hfit]
  unfold rowAt
  rw [if_neg hb, Nat.add_sub_cancel_left]
  simp [h1, h2, hd, he, hi, hj, Nat.mul_div_cancel_left j hs]

/-- Rows of the register tables, by the registers that they hold. -/
def rowLimCfg : RegRow := rowsLim[1]
def rowPnSat : RegRow := rowsPn[4]
def rowLqCfg : RegRow := rowsLq[1]
def rowQpCtrl : RegRow := rowsQp[0]
def rowNetaMdio : RegRow := rowsNeta[9]
def rowSysBoot : RegRow := rowsSys[2]
def rowRstGwdt : RegRow := rowsRst[2]
def rowGwCtrl : RegRow := rowsGw[0]
def rowFabCtrl : RegRow := rowsFab[0]
def rowMoorCtrl : RegRow := rowsMoor[0]

theorem base_le_of_rowAt {r : RegRow} {a : Nat} {p : Nat × Nat} (h : rowAt r a = some p) : r.base ≤ a := by
  refine Nat.le_of_not_lt fun hlt => ?_
  simp [rowAt, hlt] at h

/-- The row of an offset is the one of its block that meets it, behind rows of one register at lower offsets. -/
theorem findRow_of_rowAt {a b i j : Nat} {r : RegRow} {pre post : List RegRow} (hb : a / 0x10000 = b)
    (hl : regRows b = pre ++ r :: post) (hp : ∀ x ∈ pre, x.n1 = 1 ∧ x.n2 = 1 ∧ x.base < r.base) (hr : rowAt r a = some (i, j)) :
    findRow a = some (r, i, j) := by
  have hpre : pre.findSome? (fun r => (rowAt r a).map (fun p => (r, p.1, p.2))) = none := by
    rw [List.findSome?_eq_none_iff]
    intro x hx
    obtain ⟨h1, h2, hlt⟩ := hp x hx
    have hle := base_le_of_rowAt hr
    rw [rowAt_single_ne h1 h2 (by omega)]
    rfl
  unfold findRow
  rw [hb, hl, List.findSome?_append, hpre, List.findSome?_cons, hr]
  rfl

theorem findRow_limCfg {n : Nat} (h : n < 1552) : findRow (F.LIM_CFGn n) = some (rowLimCfg, n, 0) :=
  findRow_of_rowAt (b := 34) (pre := rowsLim.take 1) (by simp only [F.LIM_CFGn]; omega) rfl (by decide)
    (rowAt_array (r := rowLimCfg) (by decide) rfl (by decide) h)

theorem findRow_pnSat {n : Nat} (h : n < 128) : findRow (F.PN_SATn n) = some (rowPnSat, n, 0) :=
  findRow_of_rowAt (b := 31) (pre := rowsPn.take 4) (by simp only [F.PN_SATn]; omega) rfl (by decide)
    (rowAt_array (r := rowPnSat) (by decide) rfl (by decide) h)

theorem findRow_qpCtrl {n : Nat} (h : n < 2) : findRow (F.QPn_CTRL n) = some (rowQpCtrl, n, 0) :=
  findRow_of_rowAt (b := 26) (pre := []) (by simp only [F.QPn_CTRL]; omega) rfl (by decide)
    (rowAt_array (r := rowQpCtrl) (by decide) rfl (by decide) h)

theorem findRow_lqCfg {m c : Nat} (hm : m < 8) (hc : c < 4) : findRow (F.LQ_CFGm_c m c) = some (rowLqCfg, m, c) := by
  have hfit : rowLqCfg.s2 * c < rowLqCfg.s1 := by simp only [rowLqCfg, rowsLq, List.getElem_cons_succ, List.getElem_cons_zero]; omega
  have hr := rowAt_array2 (r := rowLqCfg) (by decide) (by decide) (by decide) hm hc hfit
  rw [← Nat.add_assoc] at hr
  exact findRow_of_rowAt (b := 23) (pre := rowsLq.take 1) (by simp only [F.LQ_CFGm_c]; omega) rfl (by decide) hr

/-! ## Writes of each kind of register -/

/-- A write by the fabric reaches row r of the register at a. -/
structure State.Reaches (s : State) (a : Nat) (r : RegRow) (i j : Nat) : Prop where
  own : inOwn a = false
  bar : barOnly a = false
  gate : s.regOpen a = true
  row : findRow a = some (r, i, j)

/-- A write reaches every register outside the owner table's block and the part of the PCIe block that BAR0 alone reaches, where
its gate is open. -/
theorem State.Reaches.of_block {s : State} {a b i j : Nat} {r : RegRow} (ha : a / 0x10000 = b) (hb : b ≠ 24 ∧ b ≠ 25)
    (hg : s.regOpen a = true) (hr : findRow a = some (r, i, j)) : s.Reaches a r i j := by
  refine ⟨?_, ?_, hg, hr⟩
  · refine Bool.eq_false_iff.mpr fun ho => ?_
    obtain ⟨hlo, hhi⟩ : ownBase ≤ a ∧ a < 0x180000 + 0xF4B4 := by simpa [inOwn] using ho
    unfold ownBase at hlo
    omega
  · unfold barOnly
    rw [ha, beq_eq_false_iff_ne.mpr hb.2, Bool.false_and]

section
variable {s : State} {a i j : Nat} {r : RegRow} (v : W32)

/-- A register whose write does nothing beyond storing it. -/
theorem writeReg_plain (h : s.Reaches a r i j)
    (hb : r.base ∉ [F.MOOR_BINDm 0, F.LQ_CFGm_c 0 0, F.LIM_CFGn 0, F.QPn_CTRL 0, F.PN_SATn 0])
    (ha : a ∉ [F.ECC_TEST_CTRL, F.NETA_MDIO, F.SYS_BOOT, F.RST_GWDT, F.GW_CTRL, F.FAB_CTRL, F.MOOR_CTRL]) :
    s.writeReg a v false = s.setReg a (s.byCodes r a v) := by
  simp only [List.mem_cons, List.not_mem_nil, or_false, not_or] at hb ha
  simp [State.writeReg, h.own, h.bar, h.gate, h.row, hb, ha]

theorem writeReg_lqCfg (h : s.Reaches a r i j) (hb : r.base = F.LQ_CFGm_c 0 0) : s.writeReg a v false = s.queueWrite i j v := by
  simp [State.writeReg, h.own, h.bar, h.gate, h.row, hb, F.LQ_CFGm_c, F.MOOR_BINDm]

theorem writeReg_limCfg (h : s.Reaches a r i j) (hb : r.base = F.LIM_CFGn 0) :
    s.writeReg a v false = s.limWrite i (s.byCodes r a v) := by
  simp [State.writeReg, h.own, h.bar, h.gate, h.row, hb, F.LQ_CFGm_c, F.MOOR_BINDm, F.LIM_CFGn]

theorem writeReg_pnSat (h : s.Reaches a r i j) (hb : r.base = F.PN_SATn 0) (ha : a / 0x10000 = 31) :
    s.writeReg a v false = ((spansIn s.pn.spans (32 * i) (32 * i + 31)).filter (fun e => bit v (e.1 % 32))).foldl
      (fun t e => (List.range e.2.count).foldl
        (fun t k => t.editSection (e.2.first + k) (fun r => { r with sat := false })) t) (s.setReg a (s.byCodes r a v)) := by
  have hne : ∀ x, x / 0x10000 ≠ 31 → a ≠ x := fun x hx hax => hx (hax ▸ ha)
  simp [State.writeReg, h.own, h.bar, h.gate, h.row, hb, F.LQ_CFGm_c, F.MOOR_BINDm, F.LIM_CFGn, F.PN_SATn, F.QPn_CTRL,
    hne F.ECC_TEST_CTRL (by decide), hne F.NETA_MDIO (by decide), hne F.SYS_BOOT (by decide), hne F.RST_GWDT (by decide),
    hne F.GW_CTRL (by decide), hne F.FAB_CTRL (by decide), hne F.MOOR_CTRL (by decide)]

theorem writeReg_qpCtrl (h : s.Reaches a r i j) (hb : r.base = F.QPn_CTRL 0) (ha : a / 0x10000 = 26) :
    s.writeReg a v false =
      if bit (s.byCodes r a v) 0 then (s.setReg a (s.byCodes r a v)).bringUp
      else (s.setReg a (s.byCodes r a v)).clearReady [if i = 0 then F.SYS_READY_QP0 else F.SYS_READY_QP1] := by
  have hne : ∀ x, x / 0x10000 ≠ 26 → a ≠ x := fun x hx hax => hx (hax ▸ ha)
  simp [State.writeReg, h.own, h.bar, h.gate, h.row, hb, F.LQ_CFGm_c, F.MOOR_BINDm, F.LIM_CFGn, F.QPn_CTRL,
    hne F.ECC_TEST_CTRL (by decide), hne F.NETA_MDIO (by decide), hne F.SYS_BOOT (by decide), hne F.RST_GWDT (by decide),
    hne F.GW_CTRL (by decide), hne F.FAB_CTRL (by decide), hne F.MOOR_CTRL (by decide)]

end

/-- What GW_CTRL holds after a write of v: LOCK, once 1, stays. -/
def State.gwCtrlAfter (s : State) (v : W32) : W32 := s.byCodes rowGwCtrl F.GW_CTRL v ||| (s.reg F.GW_CTRL &&& 0x100)

section
variable {s : State} (v : W32)

theorem writeReg_netaMdio (hg : s.regOpen F.NETA_MDIO = true) :
    s.writeReg F.NETA_MDIO v false =
      if s.on F.NETA_MDIO_GO then s else s.setReg F.NETA_MDIO (s.byCodes rowNetaMdio F.NETA_MDIO v) := by
  unfold State.writeReg
  rw [hg, show findRow F.NETA_MDIO = some (rowNetaMdio, 0, 0) from rfl]
  rfl

theorem writeReg_sysBoot :
    s.writeReg F.SYS_BOOT v false =
      if s.ctl.run == .loader then s.setReg F.SYS_BOOT (s.byCodes rowSysBoot F.SYS_BOOT v) else s := by
  unfold State.writeReg
  rw [show findRow F.SYS_BOOT = some (rowSysBoot, 0, 0) from rfl]
  rfl

theorem writeReg_rstGwdt :
    s.writeReg F.RST_GWDT v false = (s.setReg F.RST_GWDT (s.byCodes rowRstGwdt F.RST_GWDT v)).kick v := by
  unfold State.writeReg
  rw [show findRow F.RST_GWDT = some (rowRstGwdt, 0, 0) from rfl]
  rfl

theorem writeReg_gwCtrl (hg : s.regOpen F.GW_CTRL = true) :
    s.writeReg F.GW_CTRL v false =
      let t := s.setReg F.GW_CTRL (s.gwCtrlAfter v)
      if s.on F.GW_CTRL_LOCK = true ∨ bf v 1 0 = 3 then t
      else t.setFld F.GW_STAT_DRIVER (if t.fld F.GW_CTRL_DRIVE = 2 then 1 else 0) := by
  have hc : (s.on F.GW_CTRL_LOCK || decide (bf v 1 0 = 3)) = true ↔ s.on F.GW_CTRL_LOCK = true ∨ bf v 1 0 = 3 := by simp
  simp only [← hc]
  unfold State.writeReg
  rw [hg, show findRow F.GW_CTRL = some (rowGwCtrl, 0, 0) from rfl]
  rfl

theorem writeReg_fabCtrl :
    s.writeReg F.FAB_CTRL v false =
      s.setReg F.FAB_CTRL (s.byCodes rowFabCtrl F.FAB_CTRL v ||| (s.reg F.FAB_CTRL &&& 2)) := by
  unfold State.writeReg
  rw [show findRow F.FAB_CTRL = some (rowFabCtrl, 0, 0) from rfl]
  rfl

theorem writeReg_moorCtrl (hg : s.regOpen F.MOOR_CTRL = true) :
    s.writeReg F.MOOR_CTRL v false =
      s.setReg F.MOOR_CTRL (s.byCodes rowMoorCtrl F.MOOR_CTRL v ||| s.reg F.MOOR_CTRL) := by
  unfold State.writeReg
  rw [hg, show findRow F.MOOR_CTRL = some (rowMoorCtrl, 0, 0) from rfl]
  rfl

end

/-- What a write of an aligned register by the fabric leaves of the registers, the landing queues and the array. -/
theorem exec_registerWrite_next {s : State} {a : Nat} (v : W32) (hw : s.awake = true) (ha : a % 4 = 0) :
    ∃ t, exec (.registerWrite a v none) s = .next t ∧ t.regs = (s.writeReg a v false).regs ∧
      t.queues = (s.writeReg a v false).queues ∧ t.pn = (s.writeReg a v false).pn :=
  ⟨_, exec_registerWrite v hw ha, rfl, rfl, rfl⟩

/-! ## Registers that store a value by its access codes -/

/-- A write that stores a value by the access codes of a row, as the registers show it. -/
theorem exec_registerWrite_stores {s : State} {a : Nat} {r : RegRow} {v : W32} (hw : s.awake = true) (ha : a % 4 = 0)
    (h : (s.writeReg a v false).regs = (s.setReg a (s.byCodes r a v)).regs) :
    ∃ t, exec (.registerWrite a v none) s = .next t ∧ (∀ x, x ≠ a → t.reg x = s.reg x) ∧
      ∀ b < 32, (t.reg a).getLsbD b = s.bitAfter r a v b := by
  obtain ⟨t, ht, hregs, -, -⟩ := exec_registerWrite_next v hw ha
  refine ⟨t, ht, fun x hx => ?_, fun b hb => ?_⟩
  · rw [reg_congr (hregs.trans h), reg_setReg_other s _ hx]
  · rw [reg_congr (hregs.trans h), reg_setReg_same, byCodes_getLsbD s r a v hb]

theorem regs_kick (s : State) (v : W32) : (s.kick v).regs = s.regs := by
  unfold State.kick; split <;> rfl

/-- A write that leaves the state. -/
theorem exec_registerWrite_drops {s : State} {a : Nat} {v : W32} (hw : s.awake = true) (ha : a % 4 = 0)
    (h : s.writeReg a v false = s) : exec (.registerWrite a v none) s = .next s := by
  rw [exec_registerWrite v hw ha, h]; rfl

/-- NETA_MDIO while GO is 0, RST_GWDT, SYS_BOOT in the loader and the settings of the limiters take a value by their access codes. -/
theorem takes_by_codes {a i j : Nat} {r : RegRow} (v : W32) {s : State} (hw : s.awake = true) (hg : s.regOpen a = true)
    (hr : findRow a = some (r, i, j))
    (h : (a = F.NETA_MDIO ∧ s.on F.NETA_MDIO_GO = false) ∨ a = F.RST_GWDT ∨ (a = F.SYS_BOOT ∧ s.ctl.run = .loader) ∨
      (∃ n < 1552, a = F.LIM_CFGn n)) :
    ∃ t, exec (.registerWrite a v none) s = .next t ∧ (∀ x, x ≠ a → t.reg x = s.reg x) ∧
      ∀ b < 32, (t.reg a).getLsbD b = s.bitAfter r a v b := by
  rcases h with ⟨rfl, hgo⟩ | rfl | ⟨rfl, hl⟩ | ⟨n, hn, rfl⟩
  · cases (show some (rowNetaMdio, 0, 0) = some (r, i, j) from hr)
    exact exec_registerWrite_stores hw rfl (by rw [writeReg_netaMdio v hg, hgo]; rfl)
  · cases (show some (rowRstGwdt, 0, 0) = some (r, i, j) from hr)
    exact exec_registerWrite_stores hw rfl (by rw [writeReg_rstGwdt, regs_kick])
  · cases (show some (rowSysBoot, 0, 0) = some (r, i, j) from hr)
    exact exec_registerWrite_stores hw rfl (by rw [writeReg_sysBoot, hl]; rfl)
  · have hblock : F.LIM_CFGn n / 0x10000 = 34 := by simp only [F.LIM_CFGn]; omega
    have hreach := State.Reaches.of_block hblock (by decide) hg (findRow_limCfg hn)
    cases (findRow_limCfg hn).symm.trans hr
    exact exec_registerWrite_stores hw (by simp only [F.LIM_CFGn]; omega) (by rw [writeReg_limCfg v hreach rfl]; rfl)

/-- NETA_MDIO while GO is 1, and SYS_BOOT outside the loader, drop a write. -/
theorem netaMdio_busy {s : State} (v : W32) (hw : s.awake = true) (hgo : s.on F.NETA_MDIO_GO = true) :
    exec (.registerWrite F.NETA_MDIO v none) s = .next s := by
  refine exec_registerWrite_drops hw rfl ?_
  cases hg : s.regOpen F.NETA_MDIO
  · exact writeReg_closed v rfl hg
  · rw [writeReg_netaMdio v hg, if_pos hgo]

theorem sysBoot_outside_loader {s : State} (v : W32) (hw : s.awake = true) (hl : s.ctl.run ≠ .loader) :
    exec (.registerWrite F.SYS_BOOT v none) s = .next s := by
  refine exec_registerWrite_drops hw rfl ?_
  rw [writeReg_sysBoot, if_neg (by simpa using hl)]

/-! ## GW_CTRL, FAB_CTRL and MOOR_CTRL -/

section
variable {s : State} {r : RegRow} {a b : Nat} {v : W32}

/-- A bit that the access codes let a write take. -/
theorem bitAfter_taken (h : r.rw.testBit b = true ∨ r.rwl.testBit b = true ∧ s.locked a = false)
    (hk : inFields (reservedIn r.base a v) b = false) (hc : r.w1c.testBit b = false) : s.bitAfter r a v b = v.getLsbD b := by
  unfold inFields at hk
  unfold State.bitAfter
  rw [hk, hc]
  rcases h with h | ⟨h, hl⟩ <;> simp [*]

/-- A bit that a write leaves: of a locked unit, or of a field for which the value has a reserved encoding. -/
theorem bitAfter_kept (h : r.rw.testBit b = false ∧ s.locked a = true ∨ inFields (reservedIn r.base a v) b = true)
    (hc : r.w1c.testBit b = false) : s.bitAfter r a v b = (s.reg a).getLsbD b := by
  unfold inFields at h
  unfold State.bitAfter
  rw [hc]
  rcases h with ⟨h, hl⟩ | h <;> simp [*]

/-- A register in which the bits of a mask stay once they are 1. -/
theorem sticky_getLsbD (s : State) (r : RegRow) (a : Nat) (v m : W32) {b : Nat} (hb : b < 32) :
    (s.byCodes r a v ||| (s.reg a &&& m)).getLsbD b = (s.bitAfter r a v b || ((s.reg a).getLsbD b && m.getLsbD b)) := by
  rw [BitVec.getLsbD_or, byCodes_getLsbD _ _ _ _ hb, BitVec.getLsbD_and]

theorem on_eq_bit {t : State} {f : Fld} {w : W32} (hf : f.hi = f.lo) (h : t.reg f.reg = w) : t.on f = w.getLsbD f.lo := by
  rw [on_bit hf, h]

theorem fld_eq_bf {t : State} {f : Fld} {w : W32} (h : t.reg f.reg = w) : t.fld f = bf w f.hi f.lo := by
  unfold State.fld; rw [h]

end

theorem gwCtrlAfter_lock (s : State) (v : W32) : (s.gwCtrlAfter v).getLsbD 8 = (s.on F.GW_CTRL_LOCK || bit v 8) := by
  have hk : inFields (reservedIn rowGwCtrl.base F.GW_CTRL v) 8 = false := by
    show inFields (if bf v 1 0 == 3 then [(1, 0)] else []) 8 = false
    split <;> rfl
  rw [State.gwCtrlAfter, sticky_getLsbD _ _ _ _ _ (by decide), bitAfter_taken (.inl rfl) hk rfl, Bool.or_comm,
    on_bit (f := F.GW_CTRL_LOCK) rfl]
  exact congrArg (· || v.getLsbD 8) (Bool.and_true _)

/-- DRIVE keeps its contents while the unit is locked, and for the reserved encoding 3. -/
theorem gwCtrlAfter_drive (s : State) (v : W32) :
    bf (s.gwCtrlAfter v) 1 0 = if s.on F.GW_CTRL_LOCK = true ∨ bf v 1 0 = 3 then s.fld F.GW_CTRL_DRIVE else bf v 1 0 := by
  have hf : reservedIn rowGwCtrl.base F.GW_CTRL v = if bf v 1 0 == 3 then [(1, 0)] else [] := rfl
  have hl : s.locked F.GW_CTRL = s.on F.GW_CTRL_LOCK := rfl
  have hbit : ∀ b ≤ 1, (s.gwCtrlAfter v).getLsbD b = s.bitAfter rowGwCtrl F.GW_CTRL v b ∧ rowGwCtrl.rw.testBit b = false ∧
      rowGwCtrl.rwl.testBit b = true ∧ rowGwCtrl.w1c.testBit b = false := by
    intro b hb
    rw [State.gwCtrlAfter, sticky_getLsbD _ _ _ _ _ (by omega)]
    obtain rfl | rfl : b = 0 ∨ b = 1 := by omega
    all_goals exact ⟨by simp, rfl, rfl, rfl⟩
  split
  · next h =>
    refine bf_eq_of_bits fun b _ hb => ?_
    obtain ⟨hn, hrw, -, hc⟩ := hbit b hb
    rw [hn, bitAfter_kept (h.imp (fun hx => ⟨hrw, hl.trans hx⟩) (fun hx => by simp [hf, hx, inFields, hb])) hc]
    rfl
  · next h =>
    obtain ⟨hno, h3⟩ := not_or.mp h
    refine bf_eq_of_bits fun b _ hb => ?_
    obtain ⟨hn, -, hrwl, hc⟩ := hbit b hb
    rw [hn, bitAfter_taken (.inr ⟨hrwl, hl.trans (Bool.eq_false_iff.mpr hno)⟩) (by simp [hf, h3, inFields]) hc]

/-- GW_CTRL (R264, R265, R15): LOCK stays once it is 1, and DRIVE, where it takes the value, moves DRIVER of GW_STAT. -/
theorem gwCtrl_write {s : State} (v : W32) (hw : s.awake = true) (hg : s.regOpen F.GW_CTRL = true) :
    ∃ t, exec (.registerWrite F.GW_CTRL v none) s = .next t ∧
      t.on F.GW_CTRL_LOCK = (s.on F.GW_CTRL_LOCK || bit v 8) ∧
      (if s.on F.GW_CTRL_LOCK = true ∨ bf v 1 0 = 3
       then t.fld F.GW_CTRL_DRIVE = s.fld F.GW_CTRL_DRIVE ∧ t.reg F.GW_STAT = s.reg F.GW_STAT
       else t.fld F.GW_CTRL_DRIVE = bf v 1 0 ∧ t.on F.GW_STAT_DRIVER = decide (bf v 1 0 = 2)) := by
  obtain ⟨t, ht, hregs, -, -⟩ := exec_registerWrite_next (a := F.GW_CTRL) v hw rfl
  rw [writeReg_gwCtrl v hg] at hregs
  have hset := reg_setReg_same s F.GW_CTRL (s.gwCtrlAfter v)
  have hdrive := gwCtrlAfter_drive s v
  refine ⟨t, ht, ?_⟩
  split
  · next h =>
    rw [if_pos h] at hregs
    rw [if_pos h] at hdrive
    have hr := (reg_congr hregs F.GW_CTRL).trans hset
    exact ⟨(on_eq_bit rfl hr).trans (gwCtrlAfter_lock s v), (fld_eq_bf hr).trans hdrive,
      (reg_congr hregs _).trans (reg_setReg_other s _ (by decide))⟩
  · next h =>
    rw [if_neg h] at hregs
    rw [if_neg h] at hdrive
    have hr := ((reg_congr hregs F.GW_CTRL).trans (reg_setFld_other _ _ (by decide))).trans hset
    refine ⟨(on_eq_bit rfl hr).trans (gwCtrlAfter_lock s v), (fld_eq_bf hr).trans hdrive, ?_⟩
    have hd : (s.setReg F.GW_CTRL (s.gwCtrlAfter v)).fld F.GW_CTRL_DRIVE = bf v 1 0 := (fld_eq_bf hset).trans hdrive
    rw [on_congr (reg_congr hregs _), State.on, fld_setFld_same _ _ _ (by decide), hd]
    by_cases h2 : bf v 1 0 = 2 <;> simp [h2, F.GW_STAT_DRIVER]

/-- FAB_CTRL (R15): LOCK stays once it is 1, and REMAP takes the value while it is 0. -/
theorem fabCtrl_write {s : State} (v : W32) (hw : s.awake = true) :
    ∃ t, exec (.registerWrite F.FAB_CTRL v none) s = .next t ∧ t.on F.FAB_CTRL_LOCK = (s.on F.FAB_CTRL_LOCK || bit v 1) ∧
      t.on F.FAB_CTRL_REMAP = if s.on F.FAB_CTRL_LOCK then s.on F.FAB_CTRL_REMAP else bit v 0 := by
  obtain ⟨t, ht, hregs, -, -⟩ := exec_registerWrite_next (a := F.FAB_CTRL) v hw rfl
  rw [writeReg_fabCtrl v] at hregs
  have hr := (reg_congr hregs F.FAB_CTRL).trans (reg_setReg_same s _ _)
  have hl : s.locked F.FAB_CTRL = s.on F.FAB_CTRL_LOCK := rfl
  refine ⟨t, ht, (on_eq_bit rfl hr).trans ?_, (on_eq_bit rfl hr).trans ?_⟩
  · rw [sticky_getLsbD _ _ _ _ _ (by decide), bitAfter_taken (.inl rfl) rfl rfl, Bool.or_comm, on_bit (f := F.FAB_CTRL_LOCK) rfl]
    exact congrArg (· || v.getLsbD 1) (Bool.and_true _)
  · rw [sticky_getLsbD _ _ _ _ _ (by decide), show (2 : W32).getLsbD F.FAB_CTRL_REMAP.lo = false from rfl, Bool.and_false,
      Bool.or_false]
    cases hk : s.on F.FAB_CTRL_LOCK
    · rw [bitAfter_taken (.inr ⟨rfl, hl.trans hk⟩) rfl rfl]
      rfl
    · rw [bitAfter_kept (.inl ⟨rfl, hl.trans hk⟩) rfl, if_pos rfl, on_bit rfl]
      rfl

/-- MOOR_CTRL (R15): LOCK stays once it is 1. -/
theorem moorCtrl_write {s : State} (v : W32) (hw : s.awake = true) (hg : s.regOpen F.MOOR_CTRL = true) :
    ∃ t, exec (.registerWrite F.MOOR_CTRL v none) s = .next t ∧
      t.on F.MOOR_CTRL_LOCK = (s.on F.MOOR_CTRL_LOCK || bit v 0) := by
  obtain ⟨t, ht, hregs, -, -⟩ := exec_registerWrite_next (a := F.MOOR_CTRL) v hw rfl
  rw [writeReg_moorCtrl v hg] at hregs
  have hr := (reg_congr hregs F.MOOR_CTRL).trans (reg_setReg_same s _ _)
  refine ⟨t, ht, (on_eq_bit rfl hr).trans ?_⟩
  rw [BitVec.getLsbD_or, byCodes_getLsbD _ _ _ _ (by decide), bitAfter_taken (.inl rfl) rfl rfl, Bool.or_comm,
    on_bit (f := F.MOOR_CTRL_LOCK) rfl]
  rfl

/-! ## LQ_CFGm_c (R275) -/

/-- What LQ_CFGm_c holds after a write that is taken. -/
def State.lqCfgAfter (s : State) (m c : Nat) (v : W32) : W32 :=
  keepReserved (F.LQ_CFGm_c 0 0) (F.LQ_CFGm_c m c) (s.reg (F.LQ_CFGm_c m c)) v &&& 0x3FFF1FFF

/-- A write of LQ_CFGm_c that is taken stores the value and empties the queue. -/
theorem queueWrite_eq (s : State) (m c : Nat) (v : W32) :
    s.queueWrite m c v =
      if (s.locked (F.LQ_CFGm_c m c) || s.on (F.MOOR_BINDm_EN m)) = true then s
      else (s.setReg (F.LQ_CFGm_c m c) (s.lqCfgAfter m c v)).setQueue m c
        (freshQueue ((s.setReg (F.LQ_CFGm_c m c) (s.lqCfgAfter m c v)).fld (F.LQ_CFGm_c_SIZE m c))) := rfl

/-- The landing queues are locked with the moorings. -/
theorem locked_of_block23 (s : State) {a : Nat} (h : a / 0x10000 = 23) : s.locked a = s.on F.MOOR_CTRL_LOCK := by
  unfold State.locked; rw [h]; rfl

/-- SIZE above 8,192 is reserved. -/
theorem reservedIn_lqCfg (a : Nat) (ha : a ≠ F.GW_CTRL) (v : W32) :
    reservedIn (F.LQ_CFGm_c 0 0) a v = if 8192 < bf v 29 16 then [(29, 16)] else [] := by
  simp [reservedIn, ha, F.LQ_CFGm_c, F.LIM_CFGn, F.GW_INn_SRC, F.GW_INn_OPEN, F.GW_OUTn, F.MOOR_BINDm]

theorem lqCfgAfter_getLsbD (s : State) {m c : Nat} (hm : m < 8) (hc : c < 4) (v : W32) {b : Nat} (hb : b ≤ 12 ∨ 16 ≤ b ∧ b ≤ 29) :
    (s.lqCfgAfter m c v).getLsbD b =
      if 8192 < bf v 29 16 ∧ 16 ≤ b then (s.reg (F.LQ_CFGm_c m c)).getLsbD b else v.getLsbD b := by
  have hmask : ∀ b < 32, (b ≤ 12 ∨ 16 ≤ b ∧ b ≤ 29) → (0x3FFF1FFF : W32).getLsbD b = true := by decide
  have ha : F.LQ_CFGm_c m c ≠ F.GW_CTRL := by simp only [F.LQ_CFGm_c, F.GW_CTRL]; omega
  rw [State.lqCfgAfter, BitVec.getLsbD_and, hmask b (by omega) hb, Bool.and_true, keepReserved_getLsbD _ _ _ _ (by omega),
    reservedIn_lqCfg _ ha]
  by_cases h : 8192 < bf v 29 16 <;> by_cases h16 : 16 ≤ b <;> simp [h, h16, inFields]
  omega

/-- LQ_CFGm_c takes a value, and empties its queue, while EN of its mooring is 0 and MOOR_CTRL is not locked. -/
theorem lqCfg_write {s : State} {m c : Nat} (v : W32) (hm : m < 8) (hc : c < 4) (hw : s.awake = true)
    (hg : s.regOpen (F.LQ_CFGm_c m c) = true) :
    (s.on (F.MOOR_BINDm_EN m) = true ∨ s.on F.MOOR_CTRL_LOCK = true →
      exec (.registerWrite (F.LQ_CFGm_c m c) v none) s = .next s) ∧
    (s.on (F.MOOR_BINDm_EN m) = false → s.on F.MOOR_CTRL_LOCK = false →
      ∃ t, exec (.registerWrite (F.LQ_CFGm_c m c) v none) s = .next t ∧ t.fld (F.LQ_CFGm_c_BASE m c) = bf v 12 0 ∧
        t.fld (F.LQ_CFGm_c_SIZE m c) = (if bf v 29 16 ≤ 8192 then bf v 29 16 else s.fld (F.LQ_CFGm_c_SIZE m c)) ∧
        t.queue m c = freshQueue (t.fld (F.LQ_CFGm_c_SIZE m c))) := by
  have ha : F.LQ_CFGm_c m c % 4 = 0 := by simp only [F.LQ_CFGm_c]; omega
  have hblock : F.LQ_CFGm_c m c / 0x10000 = 23 := by simp only [F.LQ_CFGm_c]; omega
  have hwr := writeReg_lqCfg v (State.Reaches.of_block hblock (by decide) hg (findRow_lqCfg hm hc)) rfl
  rw [queueWrite_eq, locked_of_block23 s hblock] at hwr
  constructor
  · intro h
    rw [if_pos (by simpa using h.symm)] at hwr
    exact exec_registerWrite_drops hw ha hwr
  · intro hen hlock
    rw [if_neg (by simp [hen, hlock])] at hwr
    obtain ⟨t, ht, hregs, hqueues, -⟩ := exec_registerWrite_next v hw ha
    rw [hwr] at hregs hqueues
    have hr : t.reg (F.LQ_CFGm_c m c) = s.lqCfgAfter m c v := (reg_congr hregs _).trans (reg_setReg_same s _ _)
    refine ⟨t, ht, (fld_eq_bf hr).trans (bf_eq_of_bits fun b _ hb => ?_), (fld_eq_bf hr).trans ?_, ?_⟩
    · have hb : b ≤ 12 := hb
      rw [lqCfgAfter_getLsbD s hm hc v (.inl hb), if_neg (by omega)]
    · split
      · next h =>
        exact bf_eq_of_bits fun b h0 hb => by rw [lqCfgAfter_getLsbD s hm hc v (.inr ⟨h0, hb⟩), if_neg (by omega)]
      · next h =>
        refine bf_eq_of_bits fun b h0 hb => ?_
        have h0 : 16 ≤ b := h0
        rw [lqCfgAfter_getLsbD s hm hc v (.inr ⟨h0, hb⟩), if_pos ⟨by omega, h0⟩]
        rfl
    · have hq : t.queue m c = freshQueue ((s.setReg (F.LQ_CFGm_c m c) (s.lqCfgAfter m c v)).fld (F.LQ_CFGm_c_SIZE m c)) := by
        unfold State.queue
        rw [hqueues]
        exact lookD_ins_same s.queues _ _ _
      rw [hq, fld_congr (reg_congr hregs _)]
      rfl

/-! ## QPn_CTRL and the ready bits (SYS_READY, R564) -/

theorem reg_foldl {A : Type} {f : State → A → State} {x : Nat} (l : List A) (h : ∀ t, ∀ a ∈ l, (f t a).reg x = t.reg x) (s : State) :
    (l.foldl f s).reg x = s.reg x := by
  induction l generalizing s with
  | nil => rfl
  | cons a r ih =>
    rw [List.foldl_cons, ih (fun t b hb => h t b (List.mem_cons_of_mem a hb)), h s a List.mem_cons_self]

/-- A notice changes no register but the counts of lost notices. -/
theorem reg_noticeTo {s : State} {m : Fin 8} {x : Nat} (c : Nat) (ws : List W32) (hx : x ≠ F.MOOR_STATm m.val) :
    (s.noticeTo m c ws).reg x = s.reg x := by
  unfold State.noticeTo
  extract_lets mo body ws'
  split
  · rfl
  · split
    · exact reg_setFld_other s (f := F.MOOR_STATm_NLOST m.val) _ hx
    · rfl

theorem reg_notice {s : State} {x : Nat} (c : Nat) (ws : List W32) (hx : ∀ m < 8, x ≠ F.MOOR_STATm m) :
    (s.notice c ws).reg x = s.reg x :=
  reg_foldl _ (fun _ m _ => reg_noticeTo c ws (hx m.val m.isLt)) s

theorem sysReady_ne_moorStat : ∀ m < 8, F.SYS_READY ≠ F.MOOR_STATm m := by decide

/-- A field of one bit of SYS_READY. -/
abbrev ReadyBit (f : Fld) : Prop := f.reg = F.SYS_READY ∧ f.hi = f.lo ∧ f.lo < 32

/-- Setting a ready bit leaves no ready bit at 0 that was 1. -/
theorem on_setFld_one {s : State} {f g : Fld} (hf : ReadyBit f) (hg : ReadyBit g) (h : s.on f = true ∨ g = f) :
    (s.setFld g 1).on f = true := by
  obtain ⟨hfr, hfb, hfl⟩ := hf
  obtain ⟨hgr, hgb, -⟩ := hg
  rw [on_bit hfb] at h ⊢
  rw [hfr, ← hgr] at h ⊢
  unfold State.setFld
  rw [reg_setReg_same, setBf_getLsbD]
  split
  · have : f.lo - g.lo = 0 := by omega
    rw [this]; rfl
  · next hn =>
    rcases h with h | rfl
    · exact h
    · omega

theorem on_setFld_zero (s : State) {f : Fld} (hf : ReadyBit f) : (s.setFld f 0).on f = false := by
  unfold State.on
  rw [fld_setFld_same _ _ _ (hf.2.1 ▸ hf.2.2), Nat.zero_mod]
  rfl

theorem on_foldl_setFld {f : Fld} (hf : ReadyBit f) (l : List Fld) (hl : ∀ g ∈ l, ReadyBit g) (s : State)
    (h : s.on f = true ∨ f ∈ l) : (l.foldl (fun t g => t.setFld g 1) s).on f = true := by
  induction l generalizing s with
  | nil => simpa using h
  | cons g r ih =>
    rw [List.foldl_cons]
    refine ih (fun x hx => hl x (List.mem_cons_of_mem g hx)) _ ?_
    rcases h with h | h
    · exact .inl (on_setFld_one hf (hl g List.mem_cons_self) (.inl h))
    · rcases List.mem_cons.mp h with rfl | h
      · exact .inl (on_setFld_one hf (hl _ List.mem_cons_self) (.inr rfl))
      · exact .inr h

/-- Bits made ready, where nothing bars them, are 1. -/
theorem on_setReady {s : State} {f : Fld} (fs : List Fld) (hfs : ∀ g ∈ fs, ReadyBit g) (hf : f ∈ fs)
    (hb : s.readyBarred f = false) : (s.setReady fs).on f = true := by
  have hfold := on_foldl_setFld (hfs f hf) (fs.filter (fun f => !s.readyBarred f))
    (fun g hg => hfs g (List.mem_filter.mp hg).1) s (.inr (List.mem_filter.mpr ⟨hf, by simp [hb]⟩))
  have hn : ∀ m < 8, f.reg ≠ F.MOOR_STATm m := (hfs f hf).1 ▸ sysReady_ne_moorStat
  unfold State.setReady
  extract_lets l old t new
  split
  · exact hfold
  · exact (on_congr (reg_notice _ _ hn)).trans hfold

/-- Ready bits are set in SYS_READY alone. -/
theorem reg_setReady {s : State} {x : Nat} (fs : List Fld) (hfs : ∀ g ∈ fs, ReadyBit g) (hx : x ≠ F.SYS_READY)
    (hn : ∀ m < 8, x ≠ F.MOOR_STATm m) : (s.setReady fs).reg x = s.reg x := by
  have hfold : ((fs.filter (fun f => !s.readyBarred f)).foldl (fun t f => t.setFld f 1) s).reg x = s.reg x :=
    reg_foldl _ (fun t f hf => reg_setFld_other t 1 ((hfs f (List.mem_filter.mp hf).1).1.symm ▸ hx)) s
  unfold State.setReady
  extract_lets l old t new
  split
  · exact hfold
  · exact (reg_notice _ _ hn).trans hfold

/-- What a bring-up finds ready are bits of SYS_READY. -/
theorem readyBit_of_mem_readyFlds {s : State} : ∀ f ∈ s.readyFlds, ReadyBit f := by
  intro f hf
  unfold State.readyFlds at hf
  extract_lets pll cond at hf
  obtain ⟨e, he, rfl⟩ := List.mem_map.mp hf
  have hall : cond.all (fun e => decide (ReadyBit e.1)) = true := rfl
  exact of_decide_eq_true (List.all_eq_true.mp hall e (List.mem_filter.mp he).1)

/-- The ready bit of a quay port. -/
def qpReady (n : Nat) : Fld := if n = 0 then F.SYS_READY_QP0 else F.SYS_READY_QP1

/-- A bring-up finds an enabled quay port ready while PLL0 is locked (log 67). -/
theorem qpReady_mem_readyFlds {s : State} {n : Nat} (hn : n < 2) (hp : s.on F.PLL0_STAT_LOCK = true)
    (he : s.on (F.QPn_CTRL_EN n) = true) : qpReady n ∈ s.readyFlds := by
  unfold State.readyFlds
  extract_lets pll cond
  refine List.mem_map.mpr ⟨(qpReady n, pll && s.on (F.QPn_CTRL_EN n)), List.mem_filter.mpr ⟨?_, ?_⟩, rfl⟩
  · obtain rfl | rfl : n = 0 ∨ n = 1 := by omega
    all_goals simp [cond, qpReady]
  · simp [pll, hp, he]

theorem State.unitsKept.regs {s t : State} (h : s.unitsKept t) : t.regs = s.regs := by
  have g := congrArg State.regs h
  exact g

theorem regs_engineDone (s : State) : s.engineDone.regs = s.regs := by
  unfold State.engineDone
  split
  · exact (kept_release s _).regs
  · rfl

theorem reg_bringUp {s : State} {x : Nat} (hx : x ≠ F.SYS_READY) (hn : ∀ m < 8, x ≠ F.MOOR_STATm m) :
    s.bringUp.reg x = s.reg x := by
  unfold State.bringUp
  split
  · rfl
  · rw [reg_congr (regs_engineDone _)]
    exact reg_setReady _ readyBit_of_mem_readyFlds hx hn

theorem on_bringUp {s : State} {f : Fld} (hm : s.clk.mute = false) (hh : s.pwr.held = false) (hf : f ∈ s.readyFlds)
    (hb : s.readyBarred f = false) : s.bringUp.on f = true := by
  unfold State.bringUp
  rw [hm, hh, if_neg (by decide), on_congr (reg_congr (regs_engineDone _) _)]
  exact on_setReady _ readyBit_of_mem_readyFlds hf hb

/-- The failure of a clock domain is no matter of a register outside the clock monitors. -/
theorem readyBarred_setReg (s : State) {a : Nat} (w : W32) (f : Fld) (ha : a ≠ F.CKM_STAT) :
    (s.setReg a w).readyBarred f = s.readyBarred f := by
  have hd : ∀ d, (s.setReg a w).domOk d = s.domOk d :=
    fun d => congrArg (!·) (on_congr (f := ckmBit F.CKM_STAT_DFAIL d) (reg_setReg_other s w ha.symm))
  unfold State.readyBarred
  simp only [hd, State.setReg_clk]

theorem qpReady_readyBit (n : Nat) : ReadyBit (qpReady n) := by
  unfold qpReady; split <;> decide

/-- A quay port enabled by its new setting is ready after the bring-up. -/
theorem on_bringUp_qp {s : State} {n : Nat} (w : W32) (hn : n < 2) (hheld : s.pwr.held = false)
    (he : (s.setReg (F.QPn_CTRL n) w).on (F.QPn_CTRL_EN n) = true) (hp : s.on F.PLL0_STAT_LOCK = true) (hm : s.clk.mute = false)
    (hb : s.readyBarred (qpReady n) = false) : (s.setReg (F.QPn_CTRL n) w).bringUp.on (qpReady n) = true := by
  have hne : ∀ x, x / 0x10000 ≠ 26 → x ≠ F.QPn_CTRL n := by
    rintro x hx rfl
    exact hx (by simp only [F.QPn_CTRL]; omega)
  have hp' : (s.setReg (F.QPn_CTRL n) w).on F.PLL0_STAT_LOCK = true :=
    (on_congr (reg_setReg_other s w (hne _ (by decide)))).trans hp
  exact on_bringUp hm hheld (qpReady_mem_readyFlds hn hp' he) ((readyBarred_setReg s w _ (hne _ (by decide)).symm).trans hb)

/-- QPn_CTRL (SYS_READY, R564): EN takes the value and moves the ready bit of the port. -/
theorem qpCtrl_write {s : State} {n : Nat} (v : W32) (hn : n < 2) (hw : s.awake = true) (hg : s.regOpen (F.QPn_CTRL n) = true) :
    ∃ t, exec (.registerWrite (F.QPn_CTRL n) v none) s = .next t ∧ t.on (F.QPn_CTRL_EN n) = bit v 0 ∧
      (bit v 0 = false → t.on (qpReady n) = false) ∧
      (bit v 0 = true → s.on F.PLL0_STAT_LOCK = true → s.clk.mute = false → s.readyBarred (qpReady n) = false →
        t.on (qpReady n) = true) := by
  have ha : F.QPn_CTRL n % 4 = 0 := by simp only [F.QPn_CTRL]; omega
  have hblock : F.QPn_CTRL n / 0x10000 = 26 := by simp only [F.QPn_CTRL]; omega
  have hne : ∀ x, x / 0x10000 ≠ 26 → F.QPn_CTRL n ≠ x := fun x hx h => hx (h ▸ hblock)
  have hmoor : ∀ m < 8, F.QPn_CTRL n ≠ F.MOOR_STATm m := fun m hm => hne _ (by simp only [F.MOOR_STATm]; omega)
  have hnew : (s.byCodes rowQpCtrl (F.QPn_CTRL n) v).getLsbD 0 = bit v 0 := by
    rw [byCodes_getLsbD _ _ _ _ (by decide)]
    obtain rfl | rfl : n = 0 ∨ n = 1 := by omega
    all_goals exact bitAfter_taken (.inl rfl) rfl rfl
  have hheld : s.pwr.held = false := by
    unfold State.awake at hw
    simpa using (Bool.and_eq_true_iff.mp hw).2
  have hset := reg_setReg_same s (F.QPn_CTRL n) (s.byCodes rowQpCtrl (F.QPn_CTRL n) v)
  have hen := (on_eq_bit (f := F.QPn_CTRL_EN n) rfl hset).trans hnew
  obtain ⟨t, ht, hregs, -, -⟩ := exec_registerWrite_next v hw ha
  rw [writeReg_qpCtrl v (State.Reaches.of_block hblock (by decide) hg (findRow_qpCtrl hn)) rfl hblock] at hregs
  refine ⟨t, ht, ?_⟩
  cases hv : bit v 0
  · rw [hv] at hen hnew
    rw [show bit _ 0 = false from hnew, if_neg (by decide)] at hregs
    have hsys : F.QPn_CTRL n ≠ (qpReady n).reg := (qpReady_readyBit n).1.symm ▸ hne _ (by decide)
    exact ⟨(on_congr ((reg_congr hregs _).trans (reg_setFld_other _ 0 hsys))).trans hen,
      fun _ => (on_congr (reg_congr hregs _)).trans (on_setFld_zero _ (qpReady_readyBit n)), nofun⟩
  · rw [hv] at hen hnew
    rw [show bit _ 0 = true from hnew, if_pos rfl] at hregs
    exact ⟨(on_congr ((reg_congr hregs _).trans (reg_bringUp (hne _ (by decide)) hmoor))).trans hen, nofun,
      fun _ hp hm hb => (on_congr (reg_congr hregs _)).trans (on_bringUp_qp _ hn hheld hen hp hm hb)⟩

/-! ## PN_SATn (R140) -/

/-- The array writes its records undisturbed: no word is marked, no flip is armed, and its bank is neither in raw mode nor in a
march. -/
def State.arrayCalm (s : State) : Prop :=
  s.marks = [] ∧ s.on F.ECC_FLIP_CTL_ARM = false ∧ s.rawBank 4 = false ∧ s.marching 4 = false

/-- It depends on the marks and the registers. -/
theorem arrayCalm_congr {s t : State} (h : s.arrayCalm) (hm : t.marks = s.marks)
    (hr : ∀ a ∈ [F.ECC_FLIP_CTL, F.ECC_TEST_CTRL, F.MARCH_STAT], t.reg a = s.reg a) : t.arrayCalm := by
  obtain ⟨hmarks, harm, hraw, hmarch⟩ := h
  simp only [List.mem_cons, List.not_mem_nil, or_false, forall_eq_or_imp, forall_eq] at hr
  obtain ⟨hflip, htest, hstat⟩ := hr
  refine ⟨hm.trans hmarks, (on_congr (f := F.ECC_FLIP_CTL_ARM) hflip).trans harm, ?_, ?_⟩
  · unfold State.rawBank at hraw ⊢
    rw [on_congr (f := F.ECC_TEST_CTRL_RAW) htest, fld_congr (f := F.ECC_TEST_CTRL_BANK) htest]
    exact hraw
  · unfold State.marching at hmarch ⊢
    rw [on_congr (f := F.MARCH_STAT_RUN) hstat, on_congr (f := F.MARCH_STAT_PRES) hstat, fld_congr (f := F.MARCH_STAT_BANK) hstat]
    exact hmarch

/-- A state differs in the records of the error codes alone. -/
def EccOnly (s t : State) : Prop := ∃ e, t = { s with ecc := e }

theorem eccOnly_validate (s : State) (a n : Nat) : EccOnly s (s.validate a n) := by
  unfold State.validate
  repeat' split
  all_goals exact ⟨_, rfl⟩

theorem eccOnly_clearMarks {s t : State} (h : EccOnly s t) (hm : s.marks = []) (a n : Nat) : EccOnly s (t.clearMarks a n) := by
  obtain ⟨e, rfl⟩ := h
  have hd : delRange s.marks (codeWord a) (a + n - codeWord a) = s.marks := by rw [hm]; rfl
  unfold State.clearMarks
  simp only [hd]
  exact ⟨_, rfl⟩

theorem eccOnly_merge {s t : State} (h : EccOnly s t) (hm : s.marks = []) (a : Nat) : EccOnly s (t.merge a) := by
  obtain ⟨e, rfl⟩ := h
  have hmark : State.markAt { s with ecc := e } a = none := by unfold State.markAt; rw [hm]; rfl
  unfold State.merge
  rw [hmark]
  exact ⟨e, rfl⟩

/-- Without a mark and an armed flip, a write of words makes lines valid in fast start, and leaves the rest. -/
theorem eccOnly_wrote {s : State} (hm : s.marks = []) (ha : s.on F.ECC_FLIP_CTL_ARM = false) (a n : Nat) :
    EccOnly s (s.wrote a n) := by
  unfold State.wrote
  extract_lets t u
  have hu : EccOnly s u := by
    by_cases hc : codeBytes a ≤ n
    · simpa only [u, if_pos hc] using eccOnly_clearMarks (eccOnly_validate s a n) hm a n
    · simpa only [u, if_neg hc] using eccOnly_merge (eccOnly_validate s a n) hm a
  have hf : u.flipHit a n = false := by
    obtain ⟨e, he⟩ := hu
    unfold State.flipHit
    rw [on_congr (s := s) (by rw [he]; rfl), ha, Bool.false_and]
  rw [hf]
  split
  · exact ⟨s.ecc, rfl⟩
  · exact hu

/-- A record written by the array, where nothing disturbs it. -/
theorem eccOnly_editSection {s : State} (h : s.arrayCalm) (n : Nat) (f : Section → Section) :
    EccOnly (s.storeSection n (f (s.section_ n))) (s.editSection n f) := by
  obtain ⟨hm, ha, hr, hx⟩ := h
  have hfix : s.fixSingles (sectionAddr n) 128 = s := by unfold State.fixSingles; rw [hm]; rfl
  have hbad : s.bad (sectionAddr n) 128 = false := by unfold State.bad State.badIn; rw [hm]; rfl
  unfold State.editSection State.setSection
  simp only [hfix, hbad, hr, hx, Bool.or_self, Bool.false_eq_true, if_false]
  exact eccOnly_wrote (s := s.storeSection n _) hm ha _ _

/-- A section whose SAT flag is cleared. -/
def Section.clearSat (r : Section) : Section := { r with sat := false }

theorem Section.clearSat_clearSat (r : Section) : r.clearSat.clearSat = r.clearSat := rfl

/-- A record changed by the array: the registers stay, the array stays calm, and no other record changes. -/
theorem section_editSection {s : State} (h : s.arrayCalm) (n x : Nat) (f : Section → Section) :
    (s.editSection n f).section_ x = if x = n then f (s.section_ x) else s.section_ x := by
  obtain ⟨e, he⟩ := eccOnly_editSection h n f
  rw [he]
  show lookD (insD s.pn.sections s.pn.blank n (f (s.section_ n))) s.pn.blank x = _
  split
  · next hx => subst hx; exact lookD_insD_same _ _ _ _
  · next hx => exact lookD_insD_other _ _ _ _ hx

theorem regs_editSection {s : State} (h : s.arrayCalm) (n : Nat) (f : Section → Section) :
    (s.editSection n f).regs = s.regs := by
  obtain ⟨e, he⟩ := eccOnly_editSection h n f
  rw [he]; rfl

theorem arrayCalm_editSection {s : State} (h : s.arrayCalm) (n : Nat) (f : Section → Section) :
    (s.editSection n f).arrayCalm := by
  have hr := regs_editSection h n f
  obtain ⟨e, he⟩ := eccOnly_editSection h n f
  exact arrayCalm_congr h (by rw [he]; rfl) (fun a _ => reg_congr hr a)

/-- The SAT flags of a list of sections cleared, one after another. -/
theorem foldl_clearSat (l : List Nat) {s : State} (h : s.arrayCalm) :
    (l.foldl (fun t n => t.editSection n Section.clearSat) s).regs = s.regs ∧
      ∀ x, (l.foldl (fun t n => t.editSection n Section.clearSat) s).section_ x =
        if x ∈ l then (s.section_ x).clearSat else s.section_ x := by
  induction l generalizing s with
  | nil => exact ⟨rfl, fun x => rfl⟩
  | cons n r ih =>
    obtain ⟨hregs, hsec⟩ := ih (arrayCalm_editSection h n Section.clearSat)
    refine ⟨hregs.trans (regs_editSection h n _), fun x => ?_⟩
    rw [List.foldl_cons, hsec, section_editSection h]
    by_cases hn : x = n <;> by_cases hr : x ∈ r <;> simp [hn, hr, Section.clearSat_clearSat]

/-- The sections of the spans of a list. -/
def sectionsOf (l : List (Nat × Span)) : List Nat := l.flatMap (fun e => (List.range e.2.count).map (e.2.first + ·))

theorem mem_sectionsOf {l : List (Nat × Span)} {x : Nat} :
    x ∈ sectionsOf l ↔ l.any (fun e => e.2.first ≤ x && x < e.2.first + e.2.count) = true := by
  simp only [sectionsOf, List.mem_flatMap, List.mem_map, List.mem_range, List.any_eq_true, Bool.and_eq_true, decide_eq_true_eq]
  refine exists_congr fun e => and_congr_right fun _ => ⟨?_, fun h => ⟨x - e.2.first, by omega, by omega⟩⟩
  rintro ⟨k, hk, rfl⟩
  omega

theorem foldl_sections (l : List (Nat × Span)) (s : State) :
    l.foldl (fun t e => (List.range e.2.count).foldl
      (fun t k => t.editSection (e.2.first + k) (fun r => { r with sat := false })) t) s =
      (sectionsOf l).foldl (fun t n => t.editSection n Section.clearSat) s := by
  unfold sectionsOf
  simp only [List.foldl_flatMap, List.foldl_map]
  rfl

theorem section_congr {s t : State} (h : t.pn = s.pn) (x : Nat) : t.section_ x = s.section_ x := by
  unfold State.section_; rw [h]

/-- PN_SATn (R140): the bits written 1 clear, and with them the SAT flags of the sections of their spans. -/
theorem pnSat_write {s : State} {n : Nat} (v : W32) (hn : n < 128) (hw : s.awake = true) (hg : s.regOpen (F.PN_SATn n) = true)
    (h : s.arrayCalm) :
    ∃ t, exec (.registerWrite (F.PN_SATn n) v none) s = .next t ∧ t.reg (F.PN_SATn n) = s.reg (F.PN_SATn n) &&& ~~~v ∧
      ∀ x, t.section_ x =
        if (spansIn s.pn.spans (32 * n) (32 * n + 31)).any (fun e => bit v (e.1 % 32) && e.2.first ≤ x && x < e.2.first + e.2.count)
        then { s.section_ x with sat := false } else s.section_ x := by
  have ha : F.PN_SATn n % 4 = 0 := by simp only [F.PN_SATn]; omega
  have hblock : F.PN_SATn n / 0x10000 = 31 := by simp only [F.PN_SATn]; omega
  have hne : ∀ x, x / 0x10000 ≠ 31 → x ≠ F.PN_SATn n := by
    rintro x hx rfl
    exact hx hblock
  have hcodes : s.byCodes rowPnSat (F.PN_SATn n) v = s.reg (F.PN_SATn n) &&& ~~~v := by
    have hones : ∀ w : W32, w &&& 4294967295#32 = w := fun w => BitVec.and_allOnes
    simp [State.byCodes, rowPnSat, rowsPn, hones]
  obtain ⟨t, ht, hregs, -, hpn⟩ := exec_registerWrite_next v hw ha
  rw [writeReg_pnSat v (State.Reaches.of_block hblock (by decide) hg (findRow_pnSat hn)) rfl hblock, hcodes] at hregs hpn
  rw [foldl_sections] at hregs hpn
  have hcalm : (s.setReg (F.PN_SATn n) (s.reg (F.PN_SATn n) &&& ~~~v)).arrayCalm :=
    arrayCalm_congr h rfl fun a ha => reg_setReg_other s _ (hne a (by revert a; decide))
  obtain ⟨hr, hsec⟩ := foldl_clearSat
    (sectionsOf ((spansIn s.pn.spans (32 * n) (32 * n + 31)).filter (fun e => bit v (e.1 % 32)))) hcalm
  refine ⟨t, ht, (reg_congr (hregs.trans hr) _).trans (reg_setReg_same s _ _), fun x => ?_⟩
  rw [section_congr hpn x, hsec x]
  simp only [mem_sectionsOf, List.any_filter, Bool.and_assoc]
  rfl



/-- Settles O31: the bits that the access codes give a write, and what each register with a further effect does. -/
theorem registerWriteByAccessCode : Obligations.RegisterWriteByAccessCode := by
  refine ⟨?_, fun a i j r v s hw hg hr h => takes_by_codes v hw hg hr h,
    fun v s hw => ⟨netaMdio_busy v hw, sysBoot_outside_loader v hw⟩,
    fun v s hw => ⟨gwCtrl_write v hw, fabCtrl_write v hw, moorCtrl_write v hw⟩,
    fun m c v s hm hc hw hg => lqCfg_write v hm hc hw hg,
    fun n v s hn hw hg => qpCtrl_write v hn hw hg,
    fun n v s hn hw hg hm ha hr hx => pnSat_write v hn hw hg ⟨hm, ha, hr, hx⟩⟩
  intro a i j r v s hw ha ho hb hg hr hbase haddr
  exact exec_registerWrite_stores hw ha (congrArg State.regs (writeReg_plain v ⟨ho, hb, hg, hr⟩ hbase haddr))

end Sys2Proof.Machine
end

section
/-! SUPPORT. Proofs/FrameInstructions.lean: SLOTMAP, TIMETABLE, TURN and DROP in order: an instruction without an error makes its
effect in its packet and answers with OK (R316, R317). -/

namespace Sys2Proof.Machine

/-- An instruction in order, whose effect t leaves the packets as they are: it answers t with its payload. -/
theorem insn_succeeds {s t : State} {op k : Nat} {q : Req} {errs : State → List (Bool × Nat)} {payload : List W32}
    {body : Nat → Bool → State → Res} (hc : s.clear op k q errs) (hr : s.room op q payload.length)
    (hb : body (s.packetId op q) true (s.enter op q) =
      checked (s.enter op q) (errs (s.enter op q)) (fun _ => Res.okP t payload))
    (hs : t.ctl.stack = (s.enter op q).ctl.stack) :
    done s (runInsn op k q s body) = s.answer op stOk payload t := by
  obtain ⟨htakes, -, herr⟩ := hc
  rw [checked_act _ _ _ herr] at hb
  have hhead : t.ctl.stack.head?.map (·.id) = some (s.packetId op q) := by rw [hs]; exact enter_head s op q
  unfold State.answer
  rw [runInsn_acts htakes hb (.inl rfl) hr hhead]

/-- The same for an instruction without a payload. -/
theorem insn_accepted {s t : State} {op k : Nat} {q : Req} {errs : State → List (Bool × Nat)}
    {body : Nat → Bool → State → Res} (hc : s.clear op k q errs)
    (hb : body (s.packetId op q) true (s.enter op q) = checked (s.enter op q) (errs (s.enter op q)) (fun _ => Res.ok t))
    (hs : t.ctl.stack = (s.enter op q).ctl.stack) :
    done s (runInsn op k q s body) = s.accepts op t :=
  have ⟨_, hroom, _⟩ := hc
  insn_succeeds hc hroom hb hs

/-- An accepted instruction whose whole effect waits for the stage edge (R316). -/
theorem insn_defers {s : State} {op k : Nat} {q : Req} {errs : State → List (Bool × Nat)} {es : List Eff}
    {body : Nat → Bool → State → Res} (hc : s.clear op k q errs)
    (hb : body (s.packetId op q) true (s.enter op q) = checked (s.enter op q) (errs (s.enter op q))
      (fun _ => Res.ok ((s.enter op q).deferEdge (s.packetId op q) es))) :
    done s (runInsn op k q s body) = s.accepts op ((s.enter op q).deferEdge (s.packetId op q) es) :=
  insn_accepted hc hb (stack_deferEdge _ _ _)

/-- Settles O17: SLOTMAP waits for the edge, TIMETABLE for its start frame; TURN arms its group at once, and DROP, which waits for
the edge, says whether it cancels one. -/
theorem slotTimetableAndSceneInstructions : Obligations.SlotTimetableAndSceneInstructions := by
  refine ⟨?kind, ?bindin, ?bindout, ?unbind, ?timetable, ?turnAt, ?turnNext, ?drop⟩
  case kind => exact fun q s hc => insn_defers hc rfl
  case bindin => exact fun q s hc => insn_defers hc rfl
  case bindout => exact fun q s hc => insn_defers hc rfl
  case unbind => exact fun q s hc => insn_defers hc rfl
  case timetable => exact fun q s hc => insn_accepted hc rfl (stack_loadTimetable _ _ _ _)
  case turnAt => exact fun q s hc hr => insn_succeeds hc hr rfl (stack_arm _ _ _)
  case turnNext => exact fun q s hc hr => insn_succeeds hc hr rfl (stack_arm _ _ _)
  case drop => exact fun q s hc hr => insn_succeeds hc hr rfl (stack_deferEdge _ _ _)

end Sys2Proof.Machine
end

section
/-! SUPPORT. Proofs/FrameEvents.lean: what each event of the frame comes to where its precondition holds (R22, R25, R40, R42,
R103, R408). -/

namespace Sys2Proof.Machine

section
variable {s : State}

theorem rateRestart_due {k : RateChange} (hk : s.rateChange = some k) (hstep : k.step = .stopped) (hmsi : s.msi % 16 = 0)
    (hat : k.at_ + 2000000 * 2 ^ 48 ≤ s.time.t48) :
    s.rateRestart = State.gwCheck (State.waitResume (State.ctxResume
      { s with rateChange := some { k with step := .restarted, at_ := s.msi / 16 }, tt := { s.tt with edge := none } })) := by
  have hdue : s.restartDue = true := by simp only [State.restartDue, hk, hstep, hmsi, decide_eq_true hat]; rfl
  unfold State.rateRestart
  rw [hk]
  exact if_pos hdue

theorem zcTimeout_due {o : Bool} {ch f : Nat} {w : ChanWait}
    (hw : s.ports.waits.find? (fun w => w.out == o && w.chan == ch) = some w) (hf : w.from_ = some f) (hn : w.now = false)
    (hr : s.rateStopped = false) (ht : s.zcWords ≤ w.tested) :
    s.zcTimeout o ch = (s.applyWait w).noticeIf nZCTIMEOUT
      [flag w.run 17 ||| flag o 16 ||| at32 ch 0, lo32 (f + w.tested), hi32 (f + w.tested)] (fun m => s.ownsChan m o ch) := by
  have hdue : ¬ (w.now || s.rateStopped || w.tested < s.zcWords) = true := by simp [hn, hr, ht]
  unfold State.zcTimeout
  simp only [hw, hf]
  exact if_neg hdue

theorem pnPhaseEnd_due {i cy st : Nat} {p : Phase} {us : List PnUpset}
    (h : s.phaseEnds (· == .pn) i cy (!us.isEmpty) = some (p, st)) :
    s.pnPhaseEnd i cy us = (s.pnPhase p.arg st s.stageLen us).phaseDone i cy := by
  unfold State.pnPhaseEnd; rw [h]

theorem xmPhaseEnd_due {i cy st : Nat} {p : Phase} {j : XmJob} {us : List Nat} (h : s.phaseEnds PhUnit.isXm i cy false = some (p, st))
    (hj : s.xm.job = some j) (hi : j.phase = i) :
    s.xmPhaseEnd i cy us =
      (let t := s.xmRun (p.unit == .xm2) j.src (s.ndst (p.unit == .xm2)) us
       State.phaseDone { t with xm := { t.xm with job := none } } i cy) := by
  unfold State.xmPhaseEnd
  rw [h, hj]
  exact if_pos hi

theorem allowanceEnds_due {i cy o : Nat} {p : Phase} (hp : s.tt.active[i]? = some p) (ho : look s.tt.openAt p.barrier = some o)
    (hu : p.unit = .sc) (hc : s.phaseComplete p i = false) (hcy : o + p.allow = cy) (hin : s.inStage cy = true) :
    s.allowanceEnds i cy = (s.forcePhase p i).advance cy := by
  unfold State.allowanceEnds
  simp [hp, ho, hu, hc, hcy, hin]

end

/-- Settles O39: each event acts, since its precondition is the guard of its meaning. -/
theorem frameEvents : Obligations.FrameEvents := by
  refine ⟨?period, ?edge, ?restart, ?timeout, fun _ _ _ _ _ => rfl, ?pn, ?xm, ?allowance⟩
  case period =>
    intro p s hcount hedge hzc hrestart hbegins
    refine congrArg (done s) (if_neg ?_)
    simp [hcount, hedge, hzc, hrestart, hbegins]
  case edge =>
    intro i s hcount hedge
    refine congrArg (doneMem s) (if_pos ?_)
    rw [hcount, hedge]; rfl
  case restart => exact fun k s hk hstep hmsi hat => congrArg (done s) (rateRestart_due hk hstep hmsi hat)
  case timeout => exact fun o ch f w s hw hf hn hr ht => congrArg (done s) (zcTimeout_due hw hf hn hr ht)
  case pn => exact fun i cy st p us s h => congrArg (done s) (pnPhaseEnd_due h)
  case xm => exact fun i cy st p j us s h hj hi => congrArg (done s) (xmPhaseEnd_due h hj hi)
  case allowance => exact fun i cy o p s hp ho hu hc hcy hin => congrArg (done s) (allowanceEnds_due hp ho hu hc hcy hin)

end Sys2Proof.Machine
end

section
/-! SUPPORT. Proofs/DeckAccess.lean: the deck: what a write stores and what it leaves, which valid bits each event clears, and the
writes that are refused (R27 to R30, R36, R492, R502). -/

namespace Sys2Proof.Machine

/-! ## What the record of a write leaves -/

/-- The registers that say whether a bank takes accesses: raw mode, a march, the power domains (R492, R494, R502). -/
def shutRegs : List Nat := [F.ECC_TEST_CTRL, F.MARCH_STAT, F.PWR_STAT]

/-- The deck and these registers are the same. -/
def SameDeck (s t : State) : Prop := t.deck = s.deck ∧ ∀ a ∈ shutRegs, t.reg a = s.reg a

theorem SameDeck.refl (s : State) : SameDeck s s := ⟨rfl, fun _ _ => rfl⟩

theorem SameDeck.trans {s t u : State} : SameDeck s t → SameDeck t u → SameDeck s u
  | ⟨hd, hr⟩, ⟨gd, gr⟩ => ⟨gd.trans hd, fun a ha => (gr a ha).trans (hr a ha)⟩

theorem SameDeck.of_regs {s t : State} (hd : t.deck = s.deck) (hr : t.regs = s.regs) : SameDeck s t :=
  ⟨hd, fun a _ => reg_congr hr a⟩

theorem SameDeck.bankShut {s t : State} (h : SameDeck s t) (b : Nat) : t.bankShut b = s.bankShut b := by
  obtain ⟨-, hr⟩ := h
  simp only [shutRegs, List.mem_cons, List.not_mem_nil, or_false, forall_eq_or_imp, forall_eq] at hr
  obtain ⟨htest, hmarch, hpwr⟩ := hr
  have hpd : ∀ p, t.pd p = s.pd p := fun p => fld_congr (f := pdFld p) hpwr
  unfold State.bankShut State.rawBank State.marching State.bankOn
  rw [on_congr (f := F.ECC_TEST_CTRL_RAW) htest, fld_congr (f := F.ECC_TEST_CTRL_BANK) htest,
    on_congr (f := F.MARCH_STAT_RUN) hmarch, on_congr (f := F.MARCH_STAT_PRES) hmarch, fld_congr (f := F.MARCH_STAT_BANK) hmarch, hpd]

theorem sameDeck_setReg (s : State) {a : Nat} (v : W32) (ha : ∀ b ∈ shutRegs, b ≠ a) : SameDeck s (s.setReg a v) :=
  ⟨rfl, fun b hb => reg_setReg_other s v (ha b hb)⟩

/-- The map has 40 banks (R475). -/
theorem bankOf_lt {a b : Nat} (h : bankOf a = some b) : b < 40 := by
  unfold bankOf at h
  grind

/-- The registers of the banks are none of those that shut a bank. -/
theorem bankRegs_ne {b : Nat} (h : b < 40) : ∀ r ∈ [F.BANK_STATb b, F.BANK_CEb b, F.BANK_UEb b],
    ∀ a ∈ shutRegs, a ≠ r := by
  simp only [shutRegs, List.mem_cons, List.not_mem_nil, or_false, forall_eq_or_imp, forall_eq, F.BANK_STATb, F.BANK_CEb, F.BANK_UEb,
    F.ECC_TEST_CTRL, F.MARCH_STAT, F.PWR_STAT]
  omega

theorem sameDeck_setMark (s : State) (a : Nat) (m : Option Mark) : SameDeck s (s.setMark a m) := by
  unfold State.setMark
  cases m <;> exact .of_regs rfl rfl

theorem sameDeck_validate (s : State) (a n : Nat) : SameDeck s (s.validate a n) := by
  obtain ⟨e, he⟩ := eccOnly_validate s a n
  rw [he]
  exact .of_regs rfl rfl

theorem sameDeck_ceRecord (s : State) (a : Nat) : SameDeck s (s.ceRecord a) := by
  unfold State.ceRecord
  split
  · next b hb => exact sameDeck_setReg s _ (bankRegs_ne (bankOf_lt hb) _ (by simp [F.BANK_CEb_CE]))
  · exact .refl s

theorem sameDeck_ueRecord (s : State) (a : Nat) : SameDeck s (s.ueRecord a) := by
  unfold State.ueRecord
  extract_lets _ t
  have ht : SameDeck s t := .of_regs rfl rfl
  split
  · next b hb =>
    have hne := bankRegs_ne (bankOf_lt hb)
    exact (ht.trans (sameDeck_setReg t _ (hne _ (by simp)))).trans (sameDeck_setReg _ _ (hne _ (by simp [F.BANK_STATb_UE])))
  · exact ht

theorem sameDeck_merge (s : State) (a : Nat) : SameDeck s (s.merge a) := by
  unfold State.merge
  split
  · exact (sameDeck_setMark s a none).trans (sameDeck_ceRecord _ a)
  · exact (sameDeck_setMark s a none).trans (sameDeck_setReg _ _ (by decide))
  · exact sameDeck_ueRecord s a
  · exact .refl s

theorem sameDeck_flip (s : State) : SameDeck s s.flip := by
  unfold State.flip
  extract_lets f wide d c k t u
  have ht : SameDeck s t := sameDeck_setReg s _ (by decide)
  split
  · exact ht
  · split
    · split
      · exact ht.trans (sameDeck_setMark t f _)
      · exact ht
    · exact (ht.trans (sameDeck_setMark t f _)).trans (.of_regs rfl rfl)

/-- What follows a master's write in its bank leaves the deck and the state of its bank. -/
theorem sameDeck_wrote (s : State) (a n : Nat) : SameDeck s (s.wrote a n) := by
  unfold State.wrote
  extract_lets t u
  have ht : SameDeck s t := sameDeck_validate s a n
  have hu : SameDeck s u := by
    by_cases hc : codeBytes a ≤ n
    · simp only [u, if_pos hc]
      exact ht.trans (.of_regs rfl rfl)
    · simp only [u, if_neg hc]
      exact ht.trans (sameDeck_merge t a)
  split
  · exact .refl s
  · split
    · exact hu.trans (sameDeck_flip u)
    · exact hu

/-! ## Words and valid bits -/

theorem deckGet_absent {s : State} {slot f w : Nat} (h : look s.deck.words (deckKey slot f w) = none) : s.deckGet slot f w = 0 := by
  unfold State.deckGet lookD
  simp [h]

theorem deckValid_absent {s : State} {slot f w : Nat} (h : look s.deck.words (deckKey slot f w) = none) :
    s.deckValid slot f w = false := by
  unfold State.deckValid
  simp [h]

theorem deckPut_shut {s : State} (slot f w : Nat) (v : W32) (h : s.bankShut 7 = true) : s.deckPut slot f w v = s := by
  unfold State.deckPut
  exact if_pos h

theorem deckPut_words {s : State} (slot f w : Nat) (v : W32) (h : s.bankShut 7 = false) :
    (s.deckPut slot f w v).deck.words = ins s.deck.words (deckKey slot f w) v := by
  unfold State.deckPut
  rw [h]
  exact congrArg Deck.words (sameDeck_wrote _ _ _).1

theorem bankShut_deckPut (s : State) (slot f w : Nat) (v : W32) (b : Nat) : (s.deckPut slot f w v).bankShut b = s.bankShut b := by
  unfold State.deckPut
  split
  · rfl
  · exact (sameDeck_wrote _ _ _).bankShut b

/-- A word written is valid and reads back (R28). -/
theorem deckGet_deckPut_same {s : State} (slot f w : Nat) (v : W32) (h : s.bankShut 7 = false) :
    (s.deckPut slot f w v).deckGet slot f w = v ∧ (s.deckPut slot f w v).deckValid slot f w = true := by
  unfold State.deckGet State.deckValid
  rw [bankShut_deckPut, h, deckPut_words slot f w v h, lookD_ins_same, look_ins_same]
  exact ⟨rfl, rfl⟩

/-- A write leaves every other word (R26). -/
theorem deckGet_deckPut_other {s : State} {slot f w slot' f' w' : Nat} (v : W32) (h : deckKey slot' f' w' ≠ deckKey slot f w) :
    (s.deckPut slot f w v).deckGet slot' f' w' = s.deckGet slot' f' w' := by
  cases hs : s.bankShut 7
  case true => rw [deckPut_shut slot f w v hs]
  case false =>
    unfold State.deckGet
    rw [bankShut_deckPut, deckPut_words slot f w v hs, lookD_ins_other _ _ _ h]

/-! ## Valid bits cleared -/

/-- A table cleared of the keys outside p. -/
theorem look_filter_key {V : Type} (p : Nat → Bool) (m : SMap V) (k : Nat) :
    look (m.filter (fun e => p e.1)) k = if p k then look m k else none := by
  induction m with
  | nil => simp [look]
  | cons e r ih => by_cases h : k = e.1 <;> by_cases hp : p e.1 = true <;> simp_all [look]

/-- A key gives back the parity of its frame, and its slot. -/
theorem deckKey_parity {slot f w : Nat} (hw : w < 16) : deckKey slot f w / 16 % 2 = f % 2 := by unfold deckKey; omega
theorem deckKey_slot {slot f w : Nat} (hw : w < 16) : deckKey slot f w / 32 = slot := by unfold deckKey; omega

/-- A clear of one parity takes the words of the slots of some kinds (R28). -/
theorem look_deckClear (s : State) (k : Nat) (p : SlotKind → Bool) {slot f w : Nat} (hw : w < 16) :
    look (s.deckClear k p).deck.words (deckKey slot f w) =
      if p (s.kind slot) = true ∧ f % 2 = k % 2 then none else look s.deck.words (deckKey slot f w) := by
  refine (look_filter_key (fun key => !(key / 16 % 2 == k % 2 && p (s.kind (key / 32)))) _ _).trans ?_
  rw [deckKey_parity hw, deckKey_slot hw]
  by_cases hf : f % 2 = k % 2 <;> by_cases hp : p (s.kind slot) = true <;> simp [hf, hp]

/-- The capture of a frame clears the IN buffers of its parity as it begins. -/
theorem look_clearIns (s : State) {slot f w : Nat} (hw : w < 16) :
    look s.clearIns.deck.words (deckKey slot f w) =
      if s.msi % 16 = 2 ∧ s.kind slot = .inp ∧ f % 2 = s.msi / 16 % 2 then none else look s.deck.words (deckKey slot f w) := by
  unfold State.clearIns
  by_cases hm : s.msi % 16 = 2
  · rw [if_pos hm]
    refine (look_deckClear s (s.msi / 16) (· == .inp) hw).trans ?_
    simp only [beq_iff_eq, hm, true_and]
  · rw [if_neg hm, if_neg (fun h => hm h.1)]

theorem look_deckClearSlot (s : State) (i : Nat) {slot f w : Nat} (hw : w < 16) :
    look (s.deckClearSlot i).deck.words (deckKey slot f w) =
      if slot = i then none else look s.deck.words (deckKey slot f w) := by
  refine (look_filter_key (fun key => decide (key < i * 32) || decide (i * 32 + 32 ≤ key)) _ _).trans ?_
  have hin : (deckKey slot f w < i * 32 ∨ i * 32 + 32 ≤ deckKey slot f w) ↔ slot ≠ i := by unfold deckKey; omega
  simp only [Bool.or_eq_true, decide_eq_true_eq, hin, ite_not]

/-- Only a change of kind acts (R36). -/
theorem kind_setKind (s : State) (i slot : Nat) (k : SlotKind) :
    (s.setKind i k).kind slot = if slot = i then k else s.kind slot := by
  unfold State.setKind
  by_cases hk : s.kind i = k
  · rw [if_pos hk]
    split
    · next h => rw [h, hk]
    · rfl
  · rw [if_neg hk]
    split
    · next h => rw [h]; exact lookD_insD_same _ _ _ _
    · next h => exact lookD_insD_other _ _ _ _ h

theorem look_setKind (s : State) (i : Nat) (k : SlotKind) {slot f w : Nat} (hw : w < 16) :
    look (s.setKind i k).deck.words (deckKey slot f w) =
      if slot = i ∧ s.kind slot ≠ k then none else look s.deck.words (deckKey slot f w) := by
  unfold State.setKind
  by_cases hk : s.kind i = k
  · rw [if_pos hk, if_neg (by rintro ⟨rfl, h⟩; exact h hk)]
  · rw [if_neg hk]
    have hiff : (slot = i ∧ s.kind slot ≠ k) ↔ slot = i := ⟨And.left, fun h => ⟨h, h ▸ hk⟩⟩
    simp only [hiff]
    exact look_deckClearSlot s i hw

theorem kind_setKinds (s : State) (first n slot : Nat) (k : SlotKind) :
    (s.setKinds first n k).kind slot = if first ≤ slot ∧ slot < first + n then k else s.kind slot := by
  induction n generalizing s first with
  | zero => exact (if_neg (by omega)).symm
  | succ n ih =>
    rw [State.setKinds, ih, kind_setKind]
    grind

theorem look_setKinds (s : State) (first n : Nat) (k : SlotKind) {slot f w : Nat} (hw : w < 16) :
    look (s.setKinds first n k).deck.words (deckKey slot f w) =
      if first ≤ slot ∧ slot < first + n ∧ s.kind slot ≠ k then none else look s.deck.words (deckKey slot f w) := by
  induction n generalizing s first with
  | zero => exact (if_neg (by omega)).symm
  | succ n ih =>
    rw [State.setKinds, ih, kind_setKind, look_setKind s first k hw]
    grind

/-! ## Refused writes -/

theorem on_kerr (s : State) : s.kerr.on F.TT_STAT_KERR = true := by
  have h := fld_setFld_same s F.TT_STAT_KERR 1 (by decide)
  unfold State.on State.kerr
  rw [h]; rfl

/-- A write of a compute unit to an IN or FREE slot, to the buffer of the frame before, or to one of another frame is dropped
(R30). -/
theorem deckWrite_refused {s : State} {slot f : Nat} (w : Nat) {lag : Bool} (v : W32)
    (h : s.kind slot = .inp ∨ s.kind slot = .free ∨ lag = true ∨ f ≠ s.tt.frame) :
    s.deckWrite slot f w lag v = if s.bankShut 7 then s.pdErr 7 else s.kerr := by
  have hn : s.deckWritable slot f lag = false := by
    unfold State.deckWritable
    rcases h with h | h | h | h <;> simp [h]
  unfold State.deckWrite
  simp [hn]

theorem deck_pdErr (s : State) (b : Nat) : (s.pdErr b).deck = s.deck := by
  unfold State.pdErr; split <;> rfl

theorem deck_applyWait (s : State) (w : ChanWait) : (s.applyWait w).deck = s.deck := (session_release _ _).deck

theorem deck_testWait (s : State) (o : Bool) (ch : Nat) (n : Int) (p c : Int) : (s.testWait o ch n p c).deck = s.deck := by
  unfold State.testWait
  split
  · rfl
  · next w _ =>
    have happly : (s.applyWait w).deck = s.deck := deck_applyWait s w
    split
    · rfl
    · simp only [apply_ite State.deck, happly, ite_self]

theorem testWait_idle {s : State} (h : s.ports.waits = []) (o : Bool) (ch : Nat) (n : Int) (p c : Int) : s.testWait o ch n p c = s := by
  unfold State.testWait
  rw [h]; rfl

/-- A channel bound to a slot that is not IN leaves the deck; a word that it would write sets KERR (R29). -/
theorem inChan_refused {s : State} {ch n slot : Nat} (hb : look s.deck.inBind ch = some slot) (hk : s.kind slot ≠ .inp) :
    (s.inChan ch n).1.deck = s.deck ∧
    (∀ v, s.stopping ch n = none → (s.raw ch n).1 = .data v → s.ports.waits = [] → s.running false ch = true →
      (s.inChan ch n).1.on F.TT_STAT_KERR = true) := by
  unfold State.inChan
  extract_lets r f r1 o w prev t _ u writes
  have hdeck : u.deck = s.deck := deck_testWait _ _ _ _ _ _
  have hkind : (u.kind slot == .inp) = false := by
    unfold State.kind at hk ⊢
    rw [hdeck]
    exact beq_eq_false_iff_ne.mpr hk
  simp only [hdeck, hb, hkind, Bool.false_eq_true, if_false]
  refine ⟨by split <;> exact hdeck, fun v hstop hraw hwaits hrun => ?_⟩
  have ht : t = s := testWait_idle hwaits _ _ _ _ _
  have hu : u.regs = s.regs := show t.regs = s.regs by rw [ht]
  have hr1 : r1 = .data v := by simp only [r1, r, hstop, hraw]
  have hw : writes = true := by
    simp only [writes, hr1]
    exact (on_congr (reg_congr hu _)).trans hrun
  rw [if_pos hw]
  exact on_kerr u

/-! ## The deck region -/

theorem region_deck (s : State) {a : Nat} (h1 : 0x90000000 ≤ a) (h2 : a < 0x90200000) : s.region a = .deck := by
  unfold State.region
  simp (disch := omega) only [if_neg, if_pos]

theorem bankOf_deck {a : Nat} (h1 : 0x90000000 ≤ a) (h2 : a < 0x90200000) : bankOf a = some 7 := by
  unfold bankOf
  simp (disch := omega) only [if_neg, if_pos]

/-- Outside raw mode DEBUG writes no word of the deck (R492). -/
theorem debugWrite_deck {s : State} {a : Nat} (v : W32) (h1 : 0x90000000 ≤ a) (h2 : a < 0x90200000) (hr : s.rawBank 7 = false) :
    s.debugWrite a v = s := by
  unfold State.debugWrite
  simp [region_deck s h1 h2, bankOf_deck h1 h2, hr]

/-- A write of DEBUG to the deck region leaves the deck, however the access is answered. -/
theorem deck_debug_write {s : State} {a : Nat} (v : W32) (h1 : 0x90000000 ≤ a) (h2 : a < 0x90200000) (hr : s.rawBank 7 = false) :
    (s.debug a (some v)).deck = s.deck := by
  have hmap : s.remapped a = a := if_neg (by omega)
  unfold State.debug
  rw [hmap]
  split
  · rfl
  · split
    · rfl
    · extract_lets b _ t
      have hwrite : t.debugWrite a v = t := debugWrite_deck v h1 h2 hr
      cases t.debugError b (some v).isSome with
      | none => exact show (t.debugWrite a v).deck = s.deck by rw [hwrite]
      | some c => cases c <;> rfl

/-- No mooring may write a word of the deck (R326). -/
theorem mayWrite_deck (s : State) (m : Fin 8) {a : Nat} (h1 : 0x90000000 ≤ a) (h2 : a < 0x90200000) : s.mayWrite m a = false := by
  unfold State.mayWrite
  rw [region_deck s h1 h2]

/-- The firmware's checks of an MWRITE to the deck: class and operands are in order, so EPERM comes first. -/
theorem firstErr_mwrite_deck {q : Req} {s : State} (hrun : s.ctl.run = .firmware) (hc : q.cls.val ∈ [1, 2])
    (hn : 3 ≤ q.ops.length) (h1 : 0x90000000 ≤ opAddr q) (h2 : opAddr q < 0x90200000) :
    firstErr (errsMwrite q true s) = some eperm := by
  have hcls : clsIn q [1, 2] = true := List.contains_iff_mem.mpr hc
  have hgiven : given q 3 = true := decide_eq_true hn
  have hbarred : (wordAddrs (opAddr q) (q.ops.length - 2)).any (fun x => !s.mayWrite q.m x) = true := by
    refine List.any_eq_true.mpr ⟨opAddr q, ?_, by rw [mayWrite_deck s q.m h1 h2]; rfl⟩
    exact List.mem_map.mpr ⟨0, List.mem_range.mpr (by omega), by omega⟩
  unfold errsMwrite writeChecks
  simp [hrun, hcls, hgiven, hbarred, firstErr]

theorem failure_above {e : Nat} (h : aboveRange e = true) (s : State) (op k : Nat) (q : Req) : s.failure op k q e = e := by
  unfold State.failure
  rw [h]
  split <;> simp

theorem run_enter (s : State) (op : Nat) (q : Req) : (s.enter op q).ctl.run = s.ctl.run := by
  unfold State.enter
  extract_lets
  split <;> rfl

/-- An MWRITE of the firmware to the deck region fails with EPERM (R326). -/
theorem exec_mwrite_deck {q : Req} {s : State} (ht : s.takes 0x09 0 q) (hrun : s.ctl.run = .firmware) (hc : q.cls.val ∈ [1, 2])
    (hn : 3 ≤ q.ops.length) (h1 : 0x90000000 ≤ opAddr q) (h2 : opAddr q < 0x90200000) :
    exec (.mwrite q) s = s.rejects 0x09 q eperm := by
  have herr := firstErr_mwrite_deck ((run_enter s 0x09 q).trans hrun) hc hn h1 h2
  have h : exec (.mwrite q) s = s.rejects 0x09 q (s.failure 0x09 0 q eperm) := insn_rejects_mem ht (checked_err _ _ _ _ herr)
  rw [h, failure_above rfl]

/-- Settles O57: a deck write stores one word and leaves the state of the bank; each clearing event filters the words by slot and
parity; the refused writes leave the deck. -/
theorem deckReadsAndWrites : Obligations.DeckReadsAndWrites := by
  refine ⟨fun slot f w s h => ⟨deckGet_absent h, deckValid_absent h⟩, fun slot f w v s h => deckGet_deckPut_same slot f w v h,
    fun slot f w slot' f' w' v s h => deckGet_deckPut_other v h, fun slot f w v s h => ⟨if_pos h, deckPut_shut slot f w v h⟩,
    ?stage, ?capture, ?change, ?compute, fun ch n slot s hb hk => inChan_refused hb hk, ?debug,
    fun q s ht hrun hc hn h1 h2 => exec_mwrite_deck ht hrun hc hn h1 h2⟩
  case stage =>
    intro k slot f w s hw
    have hl : look (s.newStage k).deck.words (deckKey slot f w) = _ := look_deckClear s k (fun x => x == .work || x == .out) hw
    simp only [Bool.or_eq_true, beq_iff_eq] at hl
    split
    · next h => exact deckValid_absent (hl.trans (if_pos h))
    · next h => exact hl.trans (if_neg h)
  case capture =>
    intro slot f w s hw
    have hl := look_clearIns s (slot := slot) (f := f) hw
    split
    · next h => exact deckValid_absent (hl.trans (if_pos h))
    · next h => exact hl.trans (if_neg h)
  case change =>
    intro first n slot f w k s hw
    have hk : (s.applyEff (.slotKind first n k)).kind slot = _ := kind_setKinds s first n slot k
    have hl : look (s.applyEff (.slotKind first n k)).deck.words (deckKey slot f w) = _ := look_setKinds s first n k hw
    split
    · next h =>
      have ⟨hlo, hhi, _⟩ := h
      exact ⟨hk.trans (if_pos ⟨hlo, hhi⟩), deckValid_absent (hl.trans (if_pos h))⟩
    · next h =>
      have hsame : first ≤ slot ∧ slot < first + n → k = s.kind slot :=
        fun ⟨hlo, hhi⟩ => Classical.byContradiction fun hne => h ⟨hlo, hhi, Ne.symm hne⟩
      exact ⟨hk.trans (ite_eq_right_iff.mpr hsame), hl.trans (if_neg h)⟩
  case compute =>
    intro slot f w lag v s h
    rw [deckWrite_refused w v h]
    cases hs : s.bankShut 7
    · exact ⟨rfl, fun _ => on_kerr s⟩
    · exact ⟨deck_pdErr s 7, fun h => by cases h⟩
  case debug =>
    intro a v s h1 h2 hr
    exact ⟨_, rfl, deck_debug_write v h1 h2 hr⟩

end Sys2Proof.Machine
end

section
/-! SUPPORT. Proofs/MatrixInstructions.lean: XPT, XBLK and XMODE in order: without error marks and marches an instruction that reads
entries acts on them as they are (R102, R494), at once where it stages and at the stage edge where it does not (R81, R316). -/

namespace Sys2Proof.Machine

/-! ## Instructions that read records -/

/-- Where no word carries an error mark and no record's bank marches, an instruction acts on its records as they are (R323). -/
theorem reading_acts {s : State} {as : List Nat} {n : Nat} {act : State → Res} (hm : s.marks = [])
    (hb : ∀ a ∈ as, (bankOf a).any s.marching = false) : reading s as n act = act s := by
  have has : as.any (fun a => (bankOf a).any s.marching) = false := List.any_eq_false.mpr (fun a ha => ne_true_of_eq_false (hb a ha))
  unfold reading
  rw [if_neg (ne_true_of_eq_false has), if_pos (List.isEmpty_iff.mpr hm)]

/-- An error table without an error holds no condition that is met. -/
theorem firstErr_none {l : List (Bool × Nat)} (h : firstErr l = none) : ∀ c ∈ l, c.1 = false := by
  induction l with
  | nil => simp
  | cons x r ih =>
    simp only [firstErr] at h
    split at h
    · cases h
    · next hx => exact List.forall_mem_cons.mpr ⟨Bool.eq_false_iff.mpr hx, ih h⟩

/-- An instruction in order that reads records, where its reading comes to the effect t and a payload. -/
theorem insn_reads {s t : State} {op k n : Nat} {q : Req} {errs : State → List (Bool × Nat)} {payload : List W32}
    {as : List Nat} {act : State → Res} {body : Nat → Bool → State → Res} (hc : s.clear op k q errs)
    (hr : s.room op q payload.length)
    (hb : body (s.packetId op q) true (s.enter op q) =
      checked (s.enter op q) (errs (s.enter op q)) (fun _ => reading (s.enter op q) as n act))
    (ha : reading (s.enter op q) as n act = Res.okP t payload) (hs : t.ctl.stack = (s.enter op q).ctl.stack) :
    done s (runInsn op k q s body) = s.answer op stOk payload t :=
  insn_succeeds hc hr (hb.trans (congrArg (checked _ _) (funext fun _ => ha))) hs

/-! ## Entries of the matrix -/

theorem bf_lt {n : Nat} (w : BitVec n) (hi lo : Nat) : bf w hi lo < 2 ^ (hi + 1 - lo) :=
  Nat.mod_lt _ (Nat.two_pow_pos _)

/-- The entry that a word names lies in the bank of the matrix (R73). -/
theorem bankOf_xpOf (w : W32) : bankOf (entryAddr (xpOf w).key) = some 3 := by
  have hsrc : (xpOf w).src < 1024 := bf_lt w 25 16
  have hdst : (xpOf w).dst < 512 := bf_lt w 8 0
  have hkey : (xpOf w).key < 0x80000 := by
    unfold Xp.key xmKey
    split <;> omega
  unfold bankOf entryAddr
  rw [if_neg (by omega), if_neg (by omega), if_neg (by omega), if_pos (by omega)]

/-- An instruction that reads the entries its words name, in a state without marks and without a march of the matrix. -/
theorem reading_xpOf {s : State} {ws : List W32} {n : Nat} {act : State → Res} (hm : s.marks = [])
    (h3 : s.marching 3 = false) : reading s ((ws.map xpOf).map (fun x => entryAddr x.key)) n act = act s := by
  refine reading_acts hm fun a ha => ?_
  rw [List.map_map, List.mem_map] at ha
  obtain ⟨w, -, rfl⟩ := ha
  rw [Function.comp_apply, bankOf_xpOf]
  exact h3

/-- XPT SET does not act while the matrix's bank marches. -/
theorem marching_of_xptSet {q : Req} {s : State} (h : firstErr (errsXptSet q true s) = none) : s.marching 3 = false :=
  firstErr_none h (s.marching 3, ebusy) (by simp [errsXptSet])

/-! ## The instructions -/

/-- XPT SET in order: its pairs are staged in their order, or wait for the edge (R94). -/
theorem exec_xptSet {q : Req} {s : State} (hc : s.clear 0x18 0 q (errsXptSet q true)) (hm : (s.enter 0x18 q).marks = []) :
    exec (.xptSet q) s = s.accepts 0x18 (if staged q then (pairsOf q.ops).foldl (fun v e =>
        v.xmEdit (xpOf e.1).key (fun x => xmStage x (xpGroup e.2) (w24 e.2) (xpRamp e.2))) (s.enter 0x18 q)
      else (s.enter 0x18 q).deferEdge (s.packetId 0x18 q)
        ((pairsOf q.ops).map (fun e => .xpt (xpOf e.1).key (w24 e.2) (xpRamp e.2)))) := by
  have ⟨_, hroom, herr⟩ := hc
  have h3 := marching_of_xptSet herr
  have hws : (pairsOf q.ops).map (fun e => xpOf e.1) = ((pairsOf q.ops).map (·.1)).map xpOf := by
    rw [List.map_map]; rfl
  refine insn_reads hc hroom rfl ?_ ?_
  · rw [hws, reading_xpOf hm h3]
    split <;> rfl
  · exact stack_ite _ _ _ _ (stack_foldl _ (fun _ _ => stack_xmEdit _ _ _) _ _) (stack_deferEdge _ _ _)

/-- XBLK in order: its block is staged, or waits for the edge (R97). No marked entry lies in the block, so it reads none. -/
theorem exec_xblk {q : Req} {s : State} (hc : s.clear 0x19 0 q (errsXblk q true)) (hm : (s.enter 0x19 q).marks = []) :
    exec (.xblk q) s = s.accepts 0x19 (let b := blkOf q
      let gs := (q.ops.drop 3).map w24
      if staged q then (s.enter 0x19 q).xmBlock b.x.stage2 b.x.src b.x.dst b.nsrc b.ndst gs
        (fun e v => xmStage e (xpGroup (opw q 3)) v (xpRamp (opw q 3)))
      else (s.enter 0x19 q).deferEdge (s.packetId 0x19 q)
        [.xblk b.x.stage2 b.x.src b.x.dst b.nsrc b.ndst (xpRamp (opw q 3)) gs]) := by
  have ⟨_, hroom, _⟩ := hc
  refine insn_reads hc hroom rfl ?_ ?_
  · rw [reading_acts hm (by simp [hm])]
    split <;> rfl
  · exact stack_ite _ _ _ _ (stack_xmBlock _ _ _ _ _ _ _ _) (stack_deferEdge _ _ _)

/-- Settles O18: XPT and XBLK act on entries that carry no mark, READ brings out the entries that it names, and XMODE waits for the
edge. -/
theorem matrixInstructions : Obligations.MatrixInstructions := by
  refine ⟨?set, ?read, ?block, ?mode, ?inslot, ?busslot, ?outslot⟩
  case set => exact fun q s hc hm => exec_xptSet hc hm
  case read =>
    intro q s u hc hu hr
    obtain ⟨hm, h3⟩ := hu
    refine insn_reads hc hr rfl ?_ rfl
    rw [reading_xpOf hm h3, List.flatMap_map]
  case block => exact fun q s hc hm => exec_xblk hc hm
  case mode => exact fun q s hc => insn_defers hc rfl
  case inslot => exact fun q s hc => insn_defers hc rfl
  case busslot => exact fun q s hc => insn_defers hc rfl
  case outslot => exact fun q s hc => insn_defers hc rfl

end Sys2Proof.Machine
end

section
/-! SUPPORT. Proofs/GainRamps.lean: the gain of a crosspoint sample by sample after a write (R76, R77): after j samples of a ramp it has
gone j steps, and after 2^r it has come to its target. -/

namespace Sys2Proof.Machine

/-! ## One update -/

theorem xmTick_idle {e : XmEntry} (h : e.run = false) : xmTick e = e := by
  simp [xmTick, h]

theorem xmTick_last {e : XmEntry} (h : e.run = true) (hc : e.cnt = 0) :
    xmTick e = { e with active := e.target, run := false } := by
  unfold xmTick
  rw [if_pos h, if_pos hc]

theorem xmTick_step {e : XmEntry} (h : e.run = true) (hc : e.cnt ≠ 0) :
    xmTick e = { e with active := e.active + e.step, cnt := e.cnt - 1 } := by
  unfold xmTick
  rw [if_pos h, if_neg hc]

/-! ## Samples -/

/-- One sample more is one update more. -/
theorem xmTicks_succ_entry (n : Nat) (e : XmEntry) : (xmTicks (n + 1) e).2 = xmTick (xmTicks n e).2 := by
  induction n generalizing e with
  | zero => rfl
  | succ n ih => exact ih (xmTick e)

/-- The gain of a sample is that of the entry after its own update. -/
theorem xmTicks_gain {n i : Nat} (e : XmEntry) (h : i < n) :
    (xmTicks n e).1[i]? = some (xmTicks (i + 1) e).2.active := by
  induction n generalizing i e with
  | zero => omega
  | succ n ih =>
    cases i with
    | zero => rfl
    | succ i => exact ih (xmTick e) (Nat.lt_of_succ_lt_succ h)

/-- Without a ramp every sample has the gain of the entry. -/
theorem xmTicks_idle (n : Nat) {e : XmEntry} (h : e.run = false) : (xmTicks n e).1 = List.replicate n e.active := by
  induction n with
  | zero => rfl
  | succ n ih =>
    have hcons : (xmTicks (n + 1) e).1 = (xmTick e).active :: (xmTicks n (xmTick e)).1 := rfl
    rw [hcons, xmTick_idle h, ih, List.replicate_succ]

/-! ## Ramps -/

/-- An entry j samples into its ramp: it has gone j steps and has j fewer to go. -/
def xmAlong (e : XmEntry) (j : Nat) : XmEntry :=
  { e with active := e.active + BitVec.ofNat 24 j * e.step, cnt := e.cnt - BitVec.ofNat 12 j }

theorem xmAlong_succ (e : XmEntry) (j : Nat) :
    { xmAlong e j with active := (xmAlong e j).active + e.step, cnt := (xmAlong e j).cnt - 1 } = xmAlong e (j + 1) := by
  have hgain : e.active + BitVec.ofNat 24 j * e.step + e.step = e.active + BitVec.ofNat 24 (j + 1) * e.step := by
    rw [BitVec.add_assoc, BitVec.ofNat_add, BitVec.add_mul, BitVec.one_mul]
  have hcnt : e.cnt - BitVec.ofNat 12 j - 1 = e.cnt - BitVec.ofNat 12 (j + 1) := by
    rw [BitVec.ofNat_add]
    bv_omega
  unfold xmAlong
  rw [← hgain, ← hcnt]

/-- While the count of a ramp lasts, each sample goes one step (R77). -/
theorem xmTicks_ramp {e : XmEntry} {j : Nat} (hr : e.run = true) (hj : j ≤ e.cnt.toNat) :
    (xmTicks j e).2 = xmAlong e j := by
  induction j with
  | zero => simp [xmTicks, xmAlong]
  | succ j ih =>
    have hne : (xmAlong e j).cnt ≠ 0 := by
      unfold xmAlong
      have := e.cnt.isLt
      bv_omega
    have hrun : (xmAlong e j).run = true := hr
    rw [xmTicks_succ_entry, ih (by omega), xmTick_step hrun hne]
    exact xmAlong_succ e j

/-- The sample after the last step has the target, and so has every later one (R77). -/
theorem xmTicks_end {e : XmEntry} {j : Nat} (hr : e.run = true) (hj : e.cnt.toNat + 1 ≤ j) :
    (xmTicks j e).2 = { e with active := e.target, cnt := 0, run := false } := by
  induction hj with
  | refl =>
    have hcnt : (xmAlong e e.cnt.toNat).cnt = 0 := by simp [xmAlong]
    have hrun : (xmAlong e e.cnt.toNat).run = true := hr
    rw [xmTicks_succ_entry, xmTicks_ramp hr (Nat.le_refl _), xmTick_last hrun hcnt, hcnt]
    rfl
  | step _ ih => rw [xmTicks_succ_entry, ih, xmTick_idle rfl]

/-! ## The step of a ramp -/

/-- Of a distance cut toward zero into m steps, k ≤ m of them do not go beyond it. -/
theorem steps_le_distance {x k m : Int} (hx : 0 ≤ x) (hk : 0 ≤ k) (hkm : k ≤ m) (hm : 0 < m) :
    0 ≤ k * x.tdiv m ∧ k * x.tdiv m ≤ x := by
  have h0 : 0 ≤ x.tdiv m := Int.tdiv_nonneg hx (Int.le_of_lt hm)
  refine ⟨Int.mul_nonneg hk h0, ?_⟩
  calc k * x.tdiv m ≤ m * x.tdiv m := Int.mul_le_mul_of_nonneg_right hkm h0
    _ = m * (x / m) := by rw [Int.tdiv_eq_ediv_of_nonneg hx]
    _ ≤ x := Int.mul_ediv_self_le (by omega)

/-- Of a distance in either direction the steps do not leave the way to it. -/
theorem steps_between (x : Int) {k m : Int} (hk : 0 ≤ k) (hkm : k ≤ m) (hm : 0 < m) :
    min 0 x ≤ k * x.tdiv m ∧ k * x.tdiv m ≤ max 0 x := by
  rcases Int.le_total 0 x with hx | hx
  · have := steps_le_distance hx hk hkm hm
    omega
  · have := steps_le_distance (Int.neg_nonneg_of_nonpos hx) hk hkm hm
    rw [Int.neg_tdiv, Int.mul_neg] at this
    omega

theorem gain_bounds (g : W24) : -2 ^ 23 ≤ g.toInt ∧ g.toInt < 2 ^ 23 := ⟨BitVec.le_toInt g, BitVec.toInt_lt⟩

theorem toInt_gain {x : Int} (h : -2 ^ 23 ≤ x) (h' : x < 2 ^ 23) : (BitVec.ofInt 24 x).toInt = x := by
  rw [BitVec.toInt_ofInt]
  exact Int.bmod_eq_of_le (by omega) (by omega)

/-- STEP holds the difference of two gains over 2^r exactly: already the half of a difference is a gain (R76). -/
theorem toInt_rampStep (a t : W24) {r : Nat} (hr : r ≠ 0) :
    (BitVec.ofInt 24 ((t.toInt - a.toInt).tdiv (2 ^ r))).toInt = (t.toInt - a.toInt).tdiv (2 ^ r) := by
  have ha := gain_bounds a
  have ht := gain_bounds t
  have hpow : (2 : Int) ≤ 2 ^ r := by exact_mod_cast Nat.le_self_pow hr 2
  have hhalf := steps_between (t.toInt - a.toInt) (k := 2) (by decide) hpow (by omega)
  exact toInt_gain (by omega) (by omega)

/-! ## A gain write -/

theorem xmWrite_at_once {e : XmEntry} {t : W24} {r : Nat} (h : r = 0 ∨ t = e.active) :
    xmWrite e t r = { e with active := t, target := t, run := false, cnt := 0, step := 0 } := if_pos h

/-- The gain step of a write (R76). -/
def rampStep (e : XmEntry) (t : W24) (r : Nat) : Int := (t.toInt - e.active.toInt).tdiv (2 ^ r)

theorem xmWrite_ramp {e : XmEntry} {t : W24} {r : Nat} (hr : r ≠ 0) (ht : t ≠ e.active) :
    xmWrite e t r = { e with step := BitVec.ofInt 24 (rampStep e t r), target := t, rsh := BitVec.ofNat 4 r,
                             cnt := BitVec.ofNat 12 (2 ^ r - 1), run := true } :=
  if_neg (not_or.mpr ⟨hr, ht⟩)

theorem run_xmWrite {e : XmEntry} {t : W24} {r : Nat} (hr : r ≠ 0) (ht : t ≠ e.active) : (xmWrite e t r).run = true := by
  rw [xmWrite_ramp hr ht]

/-- The count of a ramp fits its field. -/
theorem toNat_rampCount {r : Nat} (h : r ≤ 12) : (BitVec.ofNat 12 (2 ^ r - 1)).toNat = 2 ^ r - 1 := by
  have hpow : 2 ^ r ≤ 2 ^ 12 := Nat.pow_le_pow_right (by decide) h
  rw [BitVec.toNat_ofNat, Nat.mod_eq_of_lt (by omega)]

/-- The part of a ramp that k steps have gone ends between its gains. -/
theorem ramp_between (e : XmEntry) (t : W24) {r k : Nat} (hk : k < 2 ^ r) :
    min e.active.toInt t.toInt ≤ e.active.toInt + k * rampStep e t r ∧
      e.active.toInt + k * rampStep e t r ≤ max e.active.toInt t.toInt := by
  have hkm : (k : Int) ≤ 2 ^ r := by exact_mod_cast Nat.le_of_lt hk
  have h := steps_between (t.toInt - e.active.toInt) (Int.natCast_nonneg k) hkm (Int.pow_pos (by decide))
  unfold rampStep
  omega

section
variable {e : XmEntry} {t : W24} {r : Nat} (hr : r ≠ 0) (h12 : r ≤ 12) (ht : t ≠ e.active)
include hr h12 ht

theorem cnt_xmWrite : (xmWrite e t r).cnt.toNat = 2 ^ r - 1 := by
  rw [xmWrite_ramp hr ht]
  exact toNat_rampCount h12

/-- The k-th sample before the 2^r-th has gone k steps (R77). -/
theorem toInt_ramp {k : Nat} (hk : k < 2 ^ r) :
    (xmTicks k (xmWrite e t r)).2.active.toInt = e.active.toInt + k * rampStep e t r := by
  have hcnt := cnt_xmWrite hr h12 ht
  have hgain : (xmTicks k (xmWrite e t r)).2.active = BitVec.ofInt 24 (e.active.toInt + k * rampStep e t r) := by
    rw [xmTicks_ramp (run_xmWrite hr ht) (by omega), xmWrite_ramp hr ht, BitVec.ofInt_add, BitVec.ofInt_mul,
      BitVec.ofInt_toInt, BitVec.ofInt_natCast]
    rfl
  have hbetween := ramp_between e t hk
  have hactive := gain_bounds e.active
  have htarget := gain_bounds t
  rw [hgain]
  exact toInt_gain (by omega) (by omega)

/-- From the 2^r-th sample on the ramp has ended at its target (R77). -/
theorem ramp_ended {k : Nat} (hk : 2 ^ r ≤ k) :
    (xmTicks k (xmWrite e t r)).2.run = false ∧ (xmTicks k (xmWrite e t r)).2.active = t := by
  have hcnt := cnt_xmWrite hr h12 ht
  have hpos : 0 < 2 ^ r := Nat.two_pow_pos r
  rw [xmTicks_end (run_xmWrite hr ht) (by omega), xmWrite_ramp hr ht]
  exact ⟨rfl, rfl⟩

/-- The gain of each sample of a ramp, and that it is not beyond the target. -/
theorem ramp_sample {n i : Nat} (hi : i < n) : ∃ g, (xmTicks n (xmWrite e t r)).1[i]? = some g ∧
    g.toInt = (if i + 1 < 2 ^ r then e.active.toInt + (i + 1) * rampStep e t r else t.toInt) ∧
    min e.active.toInt t.toInt ≤ g.toInt ∧ g.toInt ≤ max e.active.toInt t.toInt := by
  refine ⟨_, xmTicks_gain _ hi, ?_⟩
  by_cases hk : i + 1 < 2 ^ r
  · rw [if_pos hk, toInt_ramp hr h12 ht hk, ← Int.natCast_succ]
    exact ⟨rfl, ramp_between e t hk⟩
  · rw [if_neg hk, (ramp_ended hr h12 ht (Nat.le_of_not_lt hk)).2]
    exact ⟨rfl, Int.min_le_right _ _, Int.le_max_right _ _⟩

end

/-- Settles O59: an entry ticks by its count, so a ramp goes one step a sample while its count lasts, and then stands at its
target. -/
theorem gainRamps : Obligations.GainRamps := by
  refine ⟨fun e => ⟨xmTick_idle, xmTick_last, xmTick_step⟩, fun n e => ⟨rfl, rfl⟩,
    fun e t r h12 => ⟨?once, ?ramp⟩⟩
  case once =>
    intro h
    have hw := xmWrite_at_once h
    exact ⟨hw, fun n => by rw [hw]; exact xmTicks_idle n rfl⟩
  case ramp =>
    intro hr ht
    have hw := xmWrite_ramp hr ht
    refine ⟨by rw [hw], ?step, ?shift, cnt_xmWrite hr h12 ht, fun n i hi => ramp_sample hr h12 ht hi, fun n hn => ?ended⟩
    case step => rw [hw]; exact toInt_rampStep e.active t hr
    case shift => rw [hw]; exact Nat.mod_eq_of_lt (by omega)
    case ended => exact ramp_ended hr h12 ht hn

end Sys2Proof.Machine
end

section
/-! SUPPORT. Proofs/PontoonInstructions.lean: SOS, SPAN and SOSRD in order: an SOS acts on records that carry no error mark (R134), a
SPAN waits for the stage edge (R137), and SOSRD brings out the records that it names (R142). -/

namespace Sys2Proof.Machine

/-! ## Records without error marks -/

theorem fixSingles_markless {s : State} (hm : s.marks = []) (a n : Nat) : s.fixSingles a n = s :=
  if_pos (List.isEmpty_iff.mpr hm)

theorem bad_markless {s : State} (hm : s.marks = []) (a n : Nat) : s.bad a n = false := by
  unfold State.bad State.badIn
  rw [hm]
  rfl

theorem foldl_fixSingles_markless {A : Type} {s : State} (hm : s.marks = []) (a : A → Nat) (n : Nat) (l : List A) :
    l.foldl (fun t x => t.fixSingles (a x) n) s = s := by
  induction l with
  | nil => rfl
  | cons x r ih => rw [List.foldl_cons, fixSingles_markless hm, ih]

/-- The records of sections below 32768 lie in the bank of the array (R131). -/
theorem bankOf_sectionAddr {n : Nat} (h : n < 32768) : bankOf (sectionAddr n) = some 4 := by
  unfold bankOf sectionAddr
  rw [if_neg (by omega), if_neg (by omega), if_neg (by omega), if_neg (by omega), if_pos (by omega)]

/-! ## SOS -/

/-- SOS with stable biquads, none of its sections' conditions and no error mark does its whole effect (R134). -/
theorem sosAct_markless {q : Req} {s : State} (glide : Bool) (pid : Nat) (hstable : firstUnstable (sosOps q.ops) = none)
    (herr : firstErr (errsSosState q s) = none) (hm : s.marks = []) :
    sosAct q glide pid s = Res.ok (s.sosDo q glide pid) := by
  have hbad : ((sosOps q.ops).map SosOp.sec).filter (fun n => s.bad (sectionAddr n) 128) = [] :=
    List.filter_eq_nil_iff.mpr fun n _ => ne_true_of_eq_false (bad_markless hm _ _)
  unfold sosAct
  simp only [hstable, checked_act s _ _ herr, foldl_fixSingles_markless hm, hbad]
  rfl

/-- DIRECT and GLIDE in order: the writes are staged, or wait for the edge (R134, R136). -/
theorem sos_accepted {q : Req} {s : State} {k : Nat} {glide : Bool} (hc : s.clear 0x20 k q (errsSos q glide true))
    (hstable : firstUnstable (sosOps q.ops) = none) (herr : firstErr (errsSosState q (s.enter 0x20 q)) = none)
    (hm : (s.enter 0x20 q).marks = []) :
    done s (runInsn 0x20 k q s (sosBody q glide)) =
      s.accepts 0x20 ((s.enter 0x20 q).sosDo q glide (s.packetId 0x20 q)) :=
  insn_accepted hc (congrArg (checked _ _) (funext fun _ => sosAct_markless glide _ hstable herr hm)) (stack_sosDo _ _ _ _)

/-! ## SOSRD -/

/-- The sections of a SOSRD in range are sections of the array (R142). -/
theorem sosrd_range {q : Req} {s : State} (h : firstErr (errsSosrd q true s) = none) :
    ∀ i ∈ rangeFrom (opf q 1 14 0) (opf q 1 18 16 + 1), i < 32768 := by
  have hfit := firstErr_none h
    (!shape true q 1 || extra q 1 0x77FFF || decide (32768 < opf q 1 14 0 + (opf q 1 18 16 + 1)), erange) (by simp [errsSosrd])
  simp only [Bool.or_eq_false_iff, decide_eq_false_iff_not] at hfit
  obtain ⟨-, hlast⟩ := hfit
  intro i hi
  obtain ⟨j, hj, rfl⟩ := List.mem_map.mp hi
  have := List.mem_range.mp hj
  omega

/-- Sections read in a state without marks and without a march of the array. -/
theorem reading_sections {s : State} {l : List Nat} {n : Nat} {act : State → Res} (hm : s.marks = [])
    (h4 : s.marching 4 = false) (hl : ∀ i ∈ l, i < 32768) : reading s (l.map sectionAddr) n act = act s := by
  refine reading_acts hm fun a ha => ?_
  obtain ⟨i, hi, rfl⟩ := List.mem_map.mp ha
  rw [bankOf_sectionAddr (hl i hi)]
  exact h4

/-- Settles O19: SOS acts on records that carry no mark, SPAN waits for the edge, and SOSRD brings out the records of sections that
exist. -/
theorem pontoonInstructions : Obligations.PontoonInstructions := by
  refine ⟨?direct, ?glide, ?define, ?delete, ?read⟩
  case direct => exact fun q s hc ⟨hstable, herr, hm⟩ => sos_accepted hc hstable herr hm
  case glide => exact fun q s hc ⟨hstable, herr, hm⟩ => sos_accepted hc hstable herr hm
  case define => exact fun q s hc => insn_defers hc rfl
  case delete => exact fun q s hc => insn_defers hc rfl
  case read =>
    intro q s u hc ⟨hm, h4⟩ hr
    have ⟨_, _, herr⟩ := hc
    exact insn_reads hc hr rfl (reading_sections hm h4 (sosrd_range herr)) rfl

end Sys2Proof.Machine
end

section
/-! SUPPORT. Proofs/SectionWrites.lean: a section after a direct and a glide write, update by update (R116, R117), and the arithmetic of a
sample (R113). -/

namespace Sys2Proof.Machine

/-! ## One update -/

theorem secTick_idle {r : Section} (h : r.run = false) : secTick r = r :=
  if_neg (ne_true_of_eq_false h)

theorem secTick_last {r : Section} (h : r.run = true) (hc : r.cnt = 0) : secTick r = { r with act := r.tgt, run := false } := by
  unfold secTick
  rw [if_pos h, if_pos hc]

theorem secTick_step {r : Section} (h : r.run = true) (hc : r.cnt ≠ 0) :
    secTick r = { r with act := Five.zip (· + ·) r.act r.stp, cnt := r.cnt - 1 } := by
  unfold secTick
  rw [if_pos h, if_neg hc]

/-! ## Updates -/

theorem secTicks_succ (n : Nat) (r : Section) : secTicks (n + 1) r = secTick (secTicks n r) := by
  induction n generalizing r with
  | zero => rfl
  | succ n ih => exact ih (secTick r)

theorem secTicks_idle (n : Nat) {r : Section} (h : r.run = false) : secTicks n r = r := by
  induction n with
  | zero => rfl
  | succ n ih => rw [secTicks_succ, ih, secTick_idle h]

/-- Five values that have gone j steps. -/
def Five.along (a d : Five) (j : Nat) : Five := Five.zip (fun p q => p + BitVec.ofNat 32 j * q) a d

theorem Five.along_zero (a d : Five) : a.along d 0 = a := by
  simp [Five.along, Five.zip]

theorem Five.along_succ (a d : Five) (j : Nat) : Five.zip (· + ·) (a.along d j) d = a.along d (j + 1) := by
  simp only [Five.along, Five.zip, BitVec.ofNat_add, BitVec.add_mul, BitVec.one_mul, BitVec.add_assoc]

/-- A record j updates into its glide: it has gone j steps and has j fewer to go. -/
def Section.along (r : Section) (j : Nat) : Section :=
  { r with act := r.act.along r.stp j, cnt := r.cnt - BitVec.ofNat 15 j }

theorem Section.along_zero (r : Section) : r.along 0 = r := by
  simp [Section.along, Five.along_zero]

theorem Section.along_succ (r : Section) (j : Nat) :
    { r.along j with act := Five.zip (· + ·) (r.along j).act r.stp, cnt := (r.along j).cnt - 1 } = r.along (j + 1) := by
  have hcnt : r.cnt - BitVec.ofNat 15 j - 1 = r.cnt - BitVec.ofNat 15 (j + 1) := by
    rw [BitVec.ofNat_add]
    bv_omega
  unfold Section.along
  rw [← Five.along_succ, ← hcnt]

/-- While the count of a glide lasts, each update goes one step (R117). -/
theorem secTicks_glide {r : Section} {j : Nat} (hr : r.run = true) (hj : j ≤ r.cnt.toNat) : secTicks j r = r.along j := by
  induction j with
  | zero => exact r.along_zero.symm
  | succ j ih =>
    have hne : (r.along j).cnt ≠ 0 := by
      unfold Section.along
      have := r.cnt.isLt
      bv_omega
    have hrun : (r.along j).run = true := hr
    rw [secTicks_succ, ih (by omega), secTick_step hrun hne]
    exact r.along_succ j

/-- The update after the last step brings the target, and every later one keeps it (R117). -/
theorem secTicks_end {r : Section} {j : Nat} (hr : r.run = true) (hj : r.cnt.toNat + 1 ≤ j) :
    secTicks j r = { r with act := r.tgt, cnt := 0, run := false } := by
  induction hj with
  | refl =>
    have hcnt : (r.along r.cnt.toNat).cnt = 0 := by simp [Section.along]
    have hrun : (r.along r.cnt.toNat).run = true := hr
    rw [secTicks_succ, secTicks_glide hr (Nat.le_refl _), secTick_last hrun hcnt, hcnt]
    rfl
  | step _ ih => rw [secTicks_succ, ih, secTick_idle rfl]

/-! ## Tap weights shifted right -/

/-- A word rounded to a larger unit fits the word, so the shift is exact (R117). -/
theorem toInt_rshr (v : W32) {k : Nat} (hk : 1 ≤ k) : (rshr v k).toInt = (v.toInt + 2 ^ (k - 1)) / 2 ^ k := by
  obtain ⟨m, rfl⟩ : ∃ m, k = m + 1 := ⟨k - 1, by omega⟩
  have hlo : -2 ^ 31 ≤ v.toInt := BitVec.le_toInt v
  have hhi : v.toInt < 2 ^ 31 := BitVec.toInt_lt
  have hpow : (0 : Int) < 2 ^ m := Int.pow_pos (by decide)
  have hdbl : (2 : Int) ^ (m + 1) = 2 * 2 ^ m := Int.pow_succ' ..
  have hle : -2 ^ 31 ≤ (v.toInt + 2 ^ m) / 2 ^ (m + 1) := Int.le_ediv_of_mul_le (by omega) (by omega)
  have hlt : (v.toInt + 2 ^ m) / 2 ^ (m + 1) < 2 ^ 31 := Int.ediv_lt_of_lt_mul (by omega) (by omega)
  unfold rshr asrI
  rw [if_neg (by omega), BitVec.toInt_ofInt, Nat.add_sub_cancel]
  exact Int.bmod_eq_of_le (by omega) (by omega)

/-! ## Writes -/

theorem toNat_exponent {e : Nat} (h : e ≤ 7) : (BitVec.ofNat 3 e).toNat = e := Nat.mod_eq_of_lt (by omega)

/-- The count of a glide fits its field. -/
theorem toNat_glideCount {g : Nat} (h : g ≤ 15) : (BitVec.ofNat 15 (2 ^ g - 1)).toNat = 2 ^ g - 1 := by
  have hpow : 2 ^ g ≤ 2 ^ 15 := Nat.pow_le_pow_right (by decide) h
  rw [BitVec.toNat_ofNat, Nat.mod_eq_of_lt (by omega)]

theorem cnt_secGlide (r : Section) (t : Five) (et : Nat) {g : Nat} (hg : g ≤ 15) : (secGlide r t et g).cnt.toNat = 2 ^ g - 1 :=
  toNat_glideCount hg

/-- Before its 2^g-th update a glide has gone one step an update (R117). -/
theorem act_secGlide (r : Section) (t : Five) (et : Nat) {g j : Nat} (hg : g ≤ 15) (hj : j < 2 ^ g) :
    (secTicks j (secGlide r t et g)).act = (secGlide r t et g).act.along (secGlide r t et g).stp j := by
  have hcnt := cnt_secGlide r t et hg
  rw [secTicks_glide rfl (by omega)]
  rfl

/-- From its 2^g-th update on a glide has ended at its target (R117). -/
theorem secGlide_ended (r : Section) (t : Five) (et : Nat) {g j : Nat} (hg : g ≤ 15) (hj : 2 ^ g ≤ j) :
    (secTicks j (secGlide r t et g)).act = (secGlide r t et g).tgt ∧ (secTicks j (secGlide r t et g)).run = false := by
  have hcnt := cnt_secGlide r t et hg
  have hpos : 0 < 2 ^ g := Nat.two_pow_pos g
  rw [secTicks_end rfl (by omega)]
  exact ⟨rfl, rfl⟩

/-! ## A sample -/

theorem satS_eq (n : Nat) (x : Int) : satS n x = max (-2 ^ (n - 1)) (min (2 ^ (n - 1) - 1) x) := by
  have hpos : (0 : Int) < 2 ^ (n - 1) := Int.pow_pos (by decide)
  unfold satS clampI
  split
  · omega
  · split <;> omega

theorem satF_fst (n : Nat) (x : Int) (f : Bool) : (satF n x f).1 = max (-2 ^ (n - 1)) (min (2 ^ (n - 1) - 1) x) :=
  satS_eq n x

/-- Settles O60: a glide goes one step an update while its count lasts, and then stands at its target; a sample computes with the
record that its update leaves. -/
theorem directAndGlideWrites : Obligations.DirectAndGlideWrites := by
  refine ⟨?direct, fun v => if_pos rfl, fun v k hk _ => toInt_rshr v hk,
    fun r => ⟨secTick_idle, secTick_last, secTick_step⟩, ?glide, ?sample⟩
  case direct =>
    intro r t e clr he
    exact ⟨rfl, toNat_exponent (by omega), toNat_exponent (by omega), fun n => secTicks_idle n rfl⟩
  case glide =>
    intro r t et g het hg w e x y
    have he : e ≤ 7 := by
      have := r.vea.isLt
      omega
    exact ⟨rfl, toNat_exponent he, toNat_exponent he, Nat.mod_eq_of_lt (by omega), toNat_glideCount hg, rfl, rfl, rfl,
      fun j hj => act_secGlide r t et hg hj, fun j hj => secGlide_ended r t et hg hj⟩
  case sample =>
    intro r u
    simp only [secSample, satF_fst, mulk, asrI, Bool.false_eq_true, if_false, and_self]

end Sys2Proof.Machine
end

section
/-! SUPPORT. Proofs/CoreIssue.lean: what issues at a core (R195, R209, R229 to R233): where its members may issue, each operation comes
to issueAll over them, and issueAll over one core is that core's act or its fault. -/

namespace Sys2Proof.Machine

section
variable {s : State} {c cy : Nat} {ms : List Nat}

/-! ## Issue by the members of a core -/

/-- A bundle issues in every member that has room for it (R175, R180). -/
theorem bundle_issues {up : CoreUpset} (hms : s.members c = ms) (hmay : s.allMay ms cy = true)
    (hword : asBundle (s.fetch (ms.headD c)) = true) (hroom : ms.all (fun x => s.bundleRoom (memberCycle ms x cy) x) = true)
    (hup : s.upsetOk c up = true) :
    s.bundle c cy up = s.issueAll ms (fun t x => t.bundleFault (if x = c then up else .none) x)
      (fun t x => t.bundleDo (if x = c then up else .none) (memberCycle ms x cy) x) := by
  subst hms
  exact if_pos (by rw [hmay, hword, hroom, hup]; rfl)

/-- A control word of operation op issues in the members where none awaits what it needs (R213). -/
theorem flow_issues {op : Nat} {f : CoreRegs → Nat → W64 → Flow} {up : CoreUpset} (hms : s.members c = ms)
    (hmay : s.allMay ms cy = true) (hat : s.ctlAt (ms.headD c) op = true)
    (hheld : ms.any (fun x => s.ctlHeld (memberCycle ms x cy) x) = false) (hup : s.flowUpsetOk f c up = true) :
    s.flow c cy op f up = s.issueAll ms (fun t x => t.flowFault f (if x = c then up else .none) x)
      (fun t x => t.flowDo f (if x = c then up else .none) (memberCycle ms x cy) x) := by
  subst hms
  exact if_pos (by rw [hmay, hat, hheld, hup]; rfl)

/-- FRAME issues in the members, and then counts for their task (R233). -/
theorem frame_issues (hms : s.members c = ms) (hmay : s.allMay ms cy = true) (hat : s.ctlAt (ms.headD c) 4 = true)
    (hout : s.outgoing (ms.headD c) = false) :
    s.frame c cy = ms.foldl (fun t x => t.frameTask cy x)
      (s.issueAll ms (fun t x => t.ctlFault false x) (fun t x => t.frameCore (memberCycle ms x cy) x)) := by
  subst hms
  exact (if_pos (by rw [hmay, hat]; rfl)).trans (if_neg (by rw [hout]; exact Bool.false_ne_true))

/-- The FRAME of an outgoing core ends its move (R255). -/
theorem frame_outgoing (hms : s.members c = ms) (hmay : s.allMay ms cy = true) (hat : s.ctlAt (ms.headD c) 4 = true)
    (hout : s.outgoing (ms.headD c) = true) (hfault : s.ctlFault false (ms.headD c) = none) :
    s.frame c cy = s.finishMove (s.core (ms.headD c)).task false := by
  subst hms
  exact (if_pos (by rw [hmay, hat]; rfl)).trans (if_pos (by rw [hout, hfault]; rfl))

/-- SYNC issues in the members, and then completes phases for their task (R233). -/
theorem sync_issues (hms : s.members c = ms) (hmay : s.allMay ms cy = true) (hat : s.ctlAt (ms.headD c) 5 = true) :
    s.sync c cy = (s.issueAll ms (fun t x => t.ctlFault false x)
      (fun t x => t.syncCore (bf (s.fetch (ms.headD c)) 51 48) (memberCycle ms x cy) x)).syncTask ms
        (bf (s.fetch (ms.headD c)) 51 48) cy := by
  subst hms
  exact if_pos (by rw [hmay, hat]; rfl)

theorem trap_issues (hms : s.members c = ms) (hmay : s.allMay ms cy = true) (hat : s.ctlAt (ms.headD c) 6 = true) :
    s.trap c cy = s.issueAll ms (fun t x => t.ctlFault true x) (fun t _ => t) := by
  subst hms
  exact if_pos (by rw [hmay, hat]; rfl)

/-! ## A core that stands alone -/

theorem active_of_mayIssue (h : s.mayIssue c cy = true) : (s.core c).state = .active := by
  simp only [State.mayIssue, Bool.and_eq_true, beq_iff_eq] at h
  obtain ⟨⟨⟨⟨-, hactive⟩, -⟩, -⟩, -⟩ := h
  exact hactive

theorem inStage_of_mayIssue (h : s.mayIssue c cy = true) : s.inStage cy = true := by
  simp only [State.mayIssue, Bool.and_eq_true] at h
  obtain ⟨⟨⟨⟨hstage, -⟩, -⟩, -⟩, -⟩ := h
  exact hstage

theorem allMay_alone (h : s.mayIssue c cy = true) : s.allMay [c] cy = true := by
  simp [State.allMay, h, inStage_of_mayIssue h]

/-- A core that stands alone issues at the cycle itself (R260). -/
theorem memberCycle_alone : memberCycle [c] c cy = cy := if_pos (beq_self_eq_true _)

/-- An active core that issues alone acts, or stops with its fault. -/
theorem issueAll_alone {fault : State → Nat → Option (Nat × Nat)} {act : State → Nat → State} (h : (s.core c).state = .active) :
    s.issueAll [c] fault act = match fault s c with
      | some f => s.coreFault c f.1 f.2
      | none => act s c := by
  simp only [State.issueAll, List.foldl_cons, List.foldl_nil]
  cases fault s c with
  | some f => rfl
  | none => exact if_pos (beq_iff_eq.mpr h)

theorem bundle_alone {up : CoreUpset} (hms : s.members c = [c]) (hi : s.mayIssue c cy = true) (hword : asBundle (s.fetch c) = true)
    (hroom : s.bundleRoom cy c = true) (hup : s.upsetOk c up = true) :
    s.bundle c cy up = match s.bundleFault up c with
      | some f => s.coreFault c f.1 f.2
      | none => s.bundleDo up cy c := by
  have hall : [c].all (fun x => s.bundleRoom (memberCycle [c] x cy) x) = true := by simp [memberCycle_alone, hroom]
  rw [bundle_issues hms (allMay_alone hi) hword hall hup, issueAll_alone (active_of_mayIssue hi), if_pos rfl, memberCycle_alone]

theorem flow_alone {op : Nat} {f : CoreRegs → Nat → W64 → Flow} {up : CoreUpset} (hms : s.members c = [c])
    (hi : s.mayIssue c cy = true) (hat : s.ctlAt c op = true) (hheld : s.ctlHeld cy c = false) (hup : s.flowUpsetOk f c up = true) :
    s.flow c cy op f up = match s.flowFault f up c with
      | some e => s.coreFault c e.1 e.2
      | none => s.flowDo f up cy c := by
  have hany : [c].any (fun x => s.ctlHeld (memberCycle [c] x cy) x) = false := by simp [memberCycle_alone, hheld]
  rw [flow_issues hms (allMay_alone hi) hat hany hup, issueAll_alone (active_of_mayIssue hi), if_pos rfl, memberCycle_alone]

theorem frame_alone (hms : s.members c = [c]) (hi : s.mayIssue c cy = true) (hat : s.ctlAt c 4 = true) (hout : s.outgoing c = false) :
    s.frame c cy = State.frameTask (match s.ctlFault false c with
      | some e => s.coreFault c e.1 e.2
      | none => s.frameCore cy c) cy c := by
  rw [frame_issues hms (allMay_alone hi) hat hout, issueAll_alone (active_of_mayIssue hi), memberCycle_alone]
  rfl

theorem sync_alone (hms : s.members c = [c]) (hi : s.mayIssue c cy = true) (hat : s.ctlAt c 5 = true) :
    s.sync c cy = State.syncTask (match s.ctlFault false c with
      | some e => s.coreFault c e.1 e.2
      | none => s.syncCore (bf (s.fetch c) 51 48) cy c) [c] (bf (s.fetch c) 51 48) cy := by
  rw [sync_issues hms (allMay_alone hi) hat, issueAll_alone (active_of_mayIssue hi), memberCycle_alone]
  rfl

/-- A TRAP that is read and well formed faults with cause 9 and its code (R195). -/
theorem ctlFault_trap (hread : s.progBad c = false) (hword : ctlBad (s.core c).regs (s.core c).image.plen (s.fetch c) = false) :
    s.ctlFault true c = some (9, bf (s.fetch c) 7 0) := by
  simp [State.ctlFault, hread, hword]

theorem trap_alone (hms : s.members c = [c]) (hi : s.mayIssue c cy = true) (hat : s.ctlAt c 6 = true) (hread : s.progBad c = false)
    (hword : ctlBad (s.core c).regs (s.core c).image.plen (s.fetch c) = false) :
    s.trap c cy = s.coreFault c 9 (bf (s.fetch c) 7 0) := by
  rw [trap_issues hms (allMay_alone hi) hat, issueAll_alone (active_of_mayIssue hi), ctlFault_trap hread hword]

end

/-- Settles O40: the only member of a core that stands alone is itself, so each operation comes to its own act or fault. -/
theorem coreIssue : Obligations.CoreIssue := by
  intro c cy s hms hi
  refine ⟨?bundle, ?flow, ?frame, ?outgoing, ?sync, ?trap⟩
  case bundle => exact fun up hword hroom hup => congrArg (done s) (bundle_alone hms hi hword hroom hup)
  case flow =>
    intro up i k f hmem hat hheld hup
    have hflow := congrArg (done s) (flow_alone hms hi hat hheld hup)
    simp only [List.mem_cons, Prod.mk.injEq, List.not_mem_nil, or_false] at hmem
    obtain ⟨rfl, rfl, rfl⟩ | ⟨rfl, rfl, rfl⟩ | ⟨rfl, rfl, rfl⟩ | ⟨rfl, rfl, rfl⟩ := hmem <;> exact hflow
  case frame => exact fun hat hout => congrArg (done s) (frame_alone hms hi hat hout)
  case outgoing => exact fun hat hout hfault => congrArg (done s) (frame_outgoing hms (allMay_alone hi) hat hout hfault)
  case sync => exact fun hat => congrArg (done s) (sync_alone hms hi hat)
  case trap => exact fun hat hread hword => congrArg (done s) (trap_alone hms hi hat hread hword)

end Sys2Proof.Machine
end

section
/-! SUPPORT. Proofs/TaskInstructions.lean: TASK, TSTOP and TPARAM in order: START acts in the state that the check of its signature
leaves (R188), and a READ of a started task lies in the bank of a berth (R191, R203). -/

namespace Sys2Proof.Machine

/-! ## Signed images -/

@[simp] theorem stack_tamper (s : State) (n : Nat) : (s.tamper n).ctl.stack = s.ctl.stack := by
  unfold State.tamper State.wipeSecure
  simp only []
  repeat' split
  all_goals simp

@[simp] theorem stack_secureRead (s : State) (a n : Nat) : (s.secureRead a n).ctl.stack = s.ctl.stack := by
  unfold State.secureRead
  simp only []
  split <;> simp

@[simp] theorem stack_signRead (s : State) (ws : List W32) : (s.signRead ws).ctl.stack = s.ctl.stack :=
  stack_ite _ _ _ _ (stack_secureRead _ _ _) rfl

/-- An instruction that checks a signature, and meets no error before or after the read of the slot, acts on what the read leaves. -/
theorem checkedSigned_act {s : State} {ws : List W32} {n : Nat} {cs : State → List (Bool × Nat)} {act : State → Res}
    (hfirst : firstErr ((cs s).take n) = none) (herr : firstErr (cs (s.signRead ws)) = none) :
    checkedSigned s ws n cs act = act (s.signRead ws) := by
  unfold checkedSigned
  rw [hfirst]
  exact checked_act _ _ _ herr

/-- An instruction in order that checks a signature and whose effect leaves the packets as they are. -/
theorem insn_signed {s : State} {op k n : Nat} {q : Req} {ws payload : List W32} {cs : State → List (Bool × Nat)}
    {effect : State → State} {body : Nat → Bool → State → Res} (hc : s.clear op k q (fun w => (cs w).take n))
    (herr : firstErr (cs ((s.enter op q).signRead ws)) = none) (hr : s.room op q payload.length)
    (hb : body (s.packetId op q) true (s.enter op q) =
      checkedSigned (s.enter op q) ws n cs (fun u => Res.okP (effect u) payload))
    (hs : ∀ u, (effect u).ctl.stack = u.ctl.stack) :
    doneMem s (runInsn op k q s body) = s.answerMem op stOk payload (effect ((s.enter op q).signRead ws)) := by
  obtain ⟨htakes, -, hfirst⟩ := hc
  rw [checkedSigned_act hfirst herr] at hb
  have hhead : (effect ((s.enter op q).signRead ws)).ctl.stack.head?.map (·.id) = some (s.packetId op q) := by
    rw [hs, stack_signRead]
    exact enter_head s op q
  unfold State.answerMem
  rw [runInsn_acts htakes hb (.inl rfl) hr hhead]

/-! ## Loads -/

/-- DATA that does not complete a broken header is taken (R189). -/
theorem loadData_takes {s : State} {c : Nat} {l : Load} {ws : List W32} {drop : State → State}
    (h : 16 ≤ l.words.length ∨ (l.got ++ ws).length < 16 ∨ headerOk (l.got ++ ws) l.length = true) :
    loadData s c l ws drop = Res.ok (s.takeWords c l ws) := by
  refine if_neg ?_
  rw [Bool.and_eq_true, Bool.and_eq_true, decide_eq_true_iff, decide_eq_true_iff]
  rintro ⟨⟨hshort, hwhole⟩, hbroken⟩
  obtain hlong | hpart | hok := h
  · exact absurd hshort (Nat.not_lt.mpr hlong)
  · exact absurd hwhole (Nat.not_le.mpr hpart)
  · rw [hok] at hbroken
    exact Bool.false_ne_true hbroken

/-! ## Parameter pages -/

theorem core_outside {c : Nat} (s : State) (h : 32 ≤ c) : s.core c = emptyCore .off := by
  simp [State.core, at_, h]

/-- A started task stands in one of the 32 berths (R166). -/
theorem taskBerth_lt_of_started {s : State} {t : Nat} (h : s.started t = true) : s.taskBerth t < 32 := by
  refine Nat.lt_of_not_le fun hge => ?_
  have hoff : (s.core (s.taskBerth t)).state = .off := by rw [core_outside s hge]; rfl
  unfold State.started State.heldState at h
  simp only [hoff] at h
  split at h <;> simp at h

/-- The window of a berth lies in the berth's bank (R168). -/
theorem bankOf_windowAddr {c o : Nat} (hc : c < 32) (ho : o < 0x100000) : bankOf (windowAddr c + o) = some (8 + c) := by
  unfold bankOf windowAddr
  iterate 8 rw [if_neg (by omega)]
  rw [if_pos (by omega)]
  congr 1
  omega

/-- The words of a page range lie in the bank of the berth (R191): a reading of them in a state without marks and without a march of
that bank acts. -/
theorem reading_window {s : State} {c o n : Nat} {act : State → Res} (hm : s.marks = []) (hmarch : s.marching (8 + c) = false)
    (hc : c < 32) (ho : o + 4 * n ≤ 0x100000) : reading s (wordAddrs (windowAddr c + o) n) 4 act = act s := by
  refine reading_acts hm fun a ha => ?_
  obtain ⟨i, hi, rfl⟩ := List.mem_map.mp ha
  have hin := List.mem_range.mp hi
  rw [Nat.add_assoc, bankOf_windowAddr hc (by omega)]
  exact hmarch

/-- TPARAM READ in order names a started task. -/
theorem started_of_tparamRead {q : Req} {s : State} (h : firstErr (errsTparamRead q true s) = none) : s.started (opTask q) = true := by
  have hnot := firstErr_none h (!s.started (opTask q), estate) (by simp [errsTparamRead])
  simpa using hnot

/-- The words that a TPARAM READ names, in the active or the inactive copy (R203). -/
def pageWords (q : Req) (active : Bool) (u : State) : List W32 :=
  let m := (u.core (u.taskBerth (opTask q))).mems
  (rangeFrom (opPage q) (opf q 2 9 0 + 1)).map (lookD (if active then m.active else m.inactive) 0)

/-- TPARAM READ in order brings out the words that it names. -/
theorem tparamRead_returns {s : State} {q : Req} {k : Nat} {active : Bool} (hc : s.clear 0x32 k q (errsTparamRead q true))
    (hm : (s.enter 0x32 q).marks = []) (hmarch : (s.enter 0x32 q).marching (8 + (s.enter 0x32 q).taskBerth (opTask q)) = false)
    (hr : s.room 0x32 q (pageWords q active (s.enter 0x32 q)).length) :
    done s (runInsn 0x32 k q s (fun _ ok s => tparamRead q active ok s)) =
      s.returns 0x32 q (pageWords q active (s.enter 0x32 q)) := by
  have ⟨_, _, herr⟩ := hc
  have hpage : opPage q < 1024 := bf_lt _ 25 16
  have hn : opf q 2 9 0 < 1024 := bf_lt _ 9 0
  refine insn_reads hc hr rfl ?_ rfl
  rw [Nat.add_assoc]
  refine reading_window hm hmarch (taskBerth_lt_of_started (started_of_tparamRead herr)) ?_
  split <;> omega

/-- Settles O20: each instruction acts in its packet; START checks its signature before, and READ reads words of the task's berth,
whose bank does not march. -/
theorem taskInstructions : Obligations.TaskInstructions := by
  refine ⟨?opens, ?data, ?start, ?info, ?fade, ?cut, ?write, ?readActive, ?readInactive⟩
  case opens => exact fun q s hc => insn_accepted hc rfl (by simp)
  case data =>
    intro q s l u hc ⟨hl, hheader⟩
    refine insn_accepted hc (congrArg (checked _ _) (funext fun _ => ?_)) (stack_takeWords _ _ _ _)
    rw [hl]
    exact loadData_takes hheader
  case start =>
    intro q s u p ws v f hc herr hr
    exact insn_signed (effect := fun w => (w.armTask (opTask q) f ws (rangesOf (q.ops.drop 3))).addWait p (.taskStart (opTask q)))
      hc herr hr rfl (fun w => rfl)
  case info => exact fun q s hc hr => insn_succeeds hc hr rfl rfl
  case fade => exact fun q s hc => insn_accepted hc rfl (stack_stopAsk _ _ _ _)
  case cut => exact fun q s hc => insn_accepted hc rfl (stack_stopAsk _ _ _ _)
  case write =>
    intro q s u p hc
    refine insn_accepted hc (congrArg (checked _ _) (funext fun _ => ?_))
      (stack_ite _ _ _ _ (stack_pageStage _ _ _ _ _) (stack_deferEdge _ _ _))
    exact (apply_ite Res.ok _ _ _).symm
  case readActive => exact fun q s hc ⟨hm, hmarch⟩ hr => tparamRead_returns (active := true) hc hm hmarch hr
  case readInactive => exact fun q s hc ⟨hm, hmarch⟩ hr => tparamRead_returns (active := false) hc hm hmarch hr

end Sys2Proof.Machine
end

section
/-! SUPPORT. Proofs/FerryEvents.lean: what each event of the ferry engine comes to where what it ends is in progress (R168, R239 to
R262). -/

namespace Sys2Proof.Machine

section
variable {s : State} {k : Nat}

/-- A task reads as it was set. -/
theorem task_setTask_same (r : TaskRec) (hk : k < 32) : (s.setTask k r).task k = r := by
  simp [State.task, State.setTask, at_, set_, hk]

/-! ## Repeats, fades, copies and fills -/

theorem patchEnd_due {cy : Nat} {fade : Bool} {p : Patch} (hstage : s.inStage cy = true) (hp : s.patchOf k fade = some p) :
    s.patchEnd k fade cy = (s.drain p.berth cy).patchDone p cy := by
  unfold State.patchEnd
  rw [hp]
  exact if_pos hstage

theorem ferryCopyEnd_due {cy : Nat} {e : Bool} {j : FerryJob} (hcur : s.ferry.cur = some j) (hcopied : j.copied = false)
    (happlied : (s.task j.task).applying = []) (htime : s.inStage cy = true ∨ e = true ∨ s.tt.staged = false) :
    s.ferryCopyEnd cy e = s.copyDone j cy e := by
  have hdue : (s.inStage cy || e || !s.tt.staged) = true := by
    simpa only [Bool.or_eq_true, Bool.not_eq_true', or_assoc] using htime
  unfold State.ferryCopyEnd
  rw [hcur]
  refine if_neg ?_
  rw [hcopied, happlied, hdue]
  exact Bool.false_ne_true

theorem shadowFilled_filled (hk : k < 32) (hsh : (s.task k).sh = .filling) (hon : (s.task k).fillOn = true)
    (hnot : (s.task k).filled = false) : ((s.shadowFilled k).task k).filled = true := by
  have hdue : ((s.task k).sh == .filling && (s.task k).fillOn && !(s.task k).filled) = true := by rw [hsh, hon, hnot]; rfl
  unfold State.shadowFilled
  rw [if_pos hdue, task_setTask_same _ hk]

theorem journalEnd_due (h : (s.task k).applying ≠ []) : s.journalEnd k = s.modTask k TaskRec.applied :=
  if_neg (mt List.isEmpty_iff.mp h)

/-! ## Moves and pairs -/

theorem mirrorEnd_due {e : Bool} {m : Move} (hm : (s.task k).move = some m) (hmirrored : m.mirrored = false) (hhanded : m.handed = none) :
    s.mirrorEnd k e =
      if e || s.anyBad (s.mirrorReads m) then s.cancelMove k 2
      else s.modTask k (fun r => { r with move := some { m with mirrored := true } }) := by
  unfold State.mirrorEnd
  rw [hm]
  refine if_neg ?_
  rw [hmirrored, hhanded]
  exact Bool.false_ne_true

theorem windowEnd_due {m : Move} (hm : (s.task k).move = some m) (hhanded : m.handed.isSome = true)
    (hwrote : m.firstWrite.isSome = true) : s.windowEnd k = s.finishMove k false := by
  unfold State.windowEnd
  rw [hm]
  exact if_pos (by rw [hhanded, hwrote]; rfl)

theorem rejoinStart_due {b : Nat} (hb : (s.task k).rejoin = some b) (hsolo : (s.task k).solo = true) (hhold : (s.task k).holdLeft = 0)
    (hmove : (s.task k).move = none) (hidle : (s.core b).state = .idle) (hfill : s.ferry.fills.contains b = false) :
    s.rejoinStart k = s.startMove k .join b 0 true := by
  unfold State.rejoinStart
  simp only [hb]
  exact if_pos (by rw [hsolo, hhold, hmove, hidle, hfill]; rfl)

end

/-- Settles O45: each event acts, since its precondition is the guard of its meaning; a test's end is stated as its meaning. -/
theorem ferryEvents : Obligations.FerryEvents := by
  refine ⟨?patch, ?copy, ?fill, ?journal, ?berth, ?test, ?mirror, ?window, ?hold, ?rejoin⟩
  case patch =>
    exact fun k cy p s hstage =>
      ⟨fun hp => congrArg (done s) (patchEnd_due hstage hp), fun hp => congrArg (done s) (patchEnd_due hstage hp)⟩
  case copy => exact fun cy e j s hcur hcopied happlied htime => congrArg (done s) (ferryCopyEnd_due hcur hcopied happlied htime)
  case fill => exact fun k s hsh hon hnot => ⟨_, rfl, shadowFilled_filled k.isLt hsh hon hnot⟩
  case journal => exact fun k s h => congrArg (done s) (journalEnd_due h)
  case berth => exact fun b s h => congrArg (done s) (if_pos h)
  case test => exact fun b p r s _ _ => rfl
  case mirror => exact fun k e m s hm hmirrored hhanded => congrArg (done s) (mirrorEnd_due hm hmirrored hhanded)
  case window => exact fun k m s hm hhanded hwrote => congrArg (done s) (windowEnd_due hm hhanded hwrote)
  case hold =>
    intro k s hwait hhold
    exact congrArg (done s) (if_pos (by rw [hwait, hhold]; rfl))
  case rejoin =>
    exact fun k b s hb hsolo hhold hmove hidle hfill => congrArg (done s) (rejoinStart_due hb hsolo hhold hmove hidle hfill)

end Sys2Proof.Machine
end

section
/-! SUPPORT. Proofs/CoreCompute.lean: the compute slot of a core: what it reads of a register after it writes one, the exact value and
the overflow of its arithmetic, and the words that add, subtract, compare, negate and accumulate (R221, R223). -/

namespace Sys2Proof.Machine

/-! ## Register files -/

theorem at_set_same {A : Type} {n i : Nat} (v : Vector A n) (d x : A) (h : i < n) : at_ (set_ v i x) d i = x := by
  rw [at_, set_, Vector.getElem?_setIfInBounds, if_pos rfl, if_pos h]
  rfl

theorem at_set_other {A : Type} {n i j : Nat} (v : Vector A n) (d x : A) (h : j ≠ i) : at_ (set_ v i x) d j = at_ v d j := by
  rw [at_, set_, Vector.getElem?_setIfInBounds, if_neg h.symm]
  rfl

theorem dr_putAlu_same (r : CoreRegs) {d : Nat} (x : Alu) (h : d < 16) : (putAlu r d x).dr d = x.1 :=
  at_set_same r.d 0 x.1 h

theorem dr_putAlu_other (r : CoreRegs) {d i : Nat} (x : Alu) (h : i ≠ d) : (putAlu r d x).dr i = r.dr i :=
  at_set_other r.d 0 x.1 h

/-! ## Exact values -/

theorem satS_eq_self_iff (n : Nat) (x : Int) : satS n x = x ↔ -2 ^ (n - 1) ≤ x ∧ x < 2 ^ (n - 1) := by
  have hpos : (0 : Int) < 2 ^ (n - 1) := Int.pow_pos (by decide)
  rw [satS_eq]
  omega

/-- A word holds the exact value when the value is in its range. -/
theorem toInt_ofInt_eq_iff {n : Nat} (hn : 0 < n) (x : Int) :
    (BitVec.ofInt n x).toInt = x ↔ -2 ^ (n - 1) ≤ x ∧ x < 2 ^ (n - 1) :=
  ⟨fun h => ⟨h ▸ BitVec.le_toInt _, h ▸ BitVec.toInt_lt⟩, fun ⟨hlo, hhi⟩ => BitVec.toInt_ofInt_eq_self hn hlo hhi⟩

/-- A word holds a saturated value exactly. -/
theorem toInt_satS {n : Nat} (hn : 0 < n) (x : Int) : (BitVec.ofInt n (satS n x)).toInt = satS n x := by
  have hpos : (0 : Int) < 2 ^ (n - 1) := Int.pow_pos (by decide)
  rw [toInt_ofInt_eq_iff hn, satS_eq]
  omega

/-- A value saturates exactly when a word of the width cannot hold it. -/
theorem satS_bne_iff {n : Nat} (hn : 0 < n) (x : Int) : (satS n x != x) = true ↔ (BitVec.ofInt n x).toInt ≠ x := by
  rw [bne_iff_ne, ne_eq, satS_eq_self_iff, ← toInt_ofInt_eq_iff hn]

theorem ofInt_toInt_add {n : Nat} (x y : BitVec n) : BitVec.ofInt n (x.toInt + y.toInt) = x + y := by
  rw [BitVec.ofInt_add, BitVec.ofInt_toInt, BitVec.ofInt_toInt]

theorem ofInt_toInt_sub {n : Nat} (x y : BitVec n) : BitVec.ofInt n (x.toInt - y.toInt) = x - y := by
  rw [← BitVec.toInt_inj, BitVec.toInt_ofInt, BitVec.toInt_sub]

/-- The one word whose negative and whose magnitude do not fit. -/
theorem toInt_eq_min_iff (x : W32) : x.toInt = -2 ^ 31 ↔ x = 0x80000000 :=
  BitVec.toInt_inj (y := 0x80000000#32)

/-! ## Results and flags -/

section
variable (f : Flg) (x y : W32)

theorem aluAdd_v : (aluAdd f x y).2.v = true ↔ (x + y).toInt ≠ x.toInt + y.toInt := by
  rw [← ofInt_toInt_add]
  exact satS_bne_iff (by decide) _

theorem aluAdd_c : (aluAdd f x y).2.c = true ↔ 2 ^ 32 ≤ x.toNat + y.toNat := decide_eq_true_iff

theorem aluSub_v : (aluSub f x y).2.v = true ↔ (x - y).toInt ≠ x.toInt - y.toInt := by
  rw [← ofInt_toInt_sub]
  exact satS_bne_iff (by decide) _

theorem aluSub_c : (aluSub f x y).2.c = true ↔ y.toNat ≤ x.toNat := decide_eq_true_iff

theorem aluSub_z : (aluSub f x y).2.z = (x == y) := by
  have hdiff : x - y = 0#32 ↔ x = y := by rw [BitVec.sub_eq_iff_eq_add, BitVec.zero_add]
  rw [Bool.eq_iff_iff, beq_iff_eq]
  exact beq_iff_eq.trans hdiff

/-- NEG overflows on the least word alone. -/
theorem aluNeg_v : (aluSub f 0 x).2.v = true ↔ x = 0x80000000 := by
  have hlo : -2 ^ 31 ≤ x.toInt := BitVec.le_toInt x
  have hhi : x.toInt < 2 ^ 31 := BitVec.toInt_lt
  have hzero : (0 : W32).toInt = 0 := rfl
  have hv : (aluSub f 0 x).2.v = true ↔ ¬satS 32 (0 - x.toInt) = 0 - x.toInt := bne_iff_ne
  rw [hv, satS_eq_self_iff, ← toInt_eq_min_iff]
  omega

theorem aluNeg_c : (aluSub f 0 x).2.c = true ↔ x = 0 := by
  rw [aluSub_c]
  exact Nat.le_zero.trans (BitVec.toNat_inj (y := 0#32))

theorem aluSat_toInt (z : Int) : (aluSat f 32 z).1.toInt = max (-2 ^ 31) (min (2 ^ 31 - 1) z) :=
  (toInt_satS (by decide) z).trans (satS_eq 32 z)

theorem aluSat_v (z : Int) : (aluSat f 32 z).2.v = true ↔ (aluSat f 32 z).1.toInt ≠ z := by
  have hword : (aluSat f 32 z).1.toInt = satS 32 z := toInt_satS (by decide) z
  rw [hword]
  exact bne_iff_ne

theorem aluAbs_toInt : (aluSat f 32 x.toInt.natAbs).1.toInt = min (2 ^ 31 - 1) (x.toInt.natAbs : Int) := by
  rw [aluSat_toInt]
  omega

/-- ABS saturates on the least word alone. -/
theorem aluAbs_v : (aluSat f 32 x.toInt.natAbs).2.v = true ↔ x = 0x80000000 := by
  have hlo : -2 ^ 31 ≤ x.toInt := BitVec.le_toInt x
  have hhi : x.toInt < 2 ^ 31 := BitVec.toInt_lt
  rw [aluSat_v, aluAbs_toInt, ← toInt_eq_min_iff]
  omega

end

/-! ## Words of the compute slot -/

section
variable {r : CoreRegs} {w : W64}

theorem cmpExec_mac (h : cop w = 0x01) :
    cmpExec r w = macInto r r (bf w 57 56) (bf w 55 52) (bf w 51 48) (bf w 39 39 == 1) (bf w 38 38 == 1) := by
  simp only [cmpExec, h]

theorem cmpExec_add (h : cop w = 0x08) :
    cmpExec r w = putAlu r (bf w 57 54) (aluAdd r.flg (r.dr (bf w 53 50)) (r.dr (bf w 49 46))) := by
  simp only [cmpExec, h]

theorem cmpExec_sub (h : cop w = 0x09) :
    cmpExec r w = putAlu r (bf w 57 54) (aluSub r.flg (r.dr (bf w 53 50)) (r.dr (bf w 49 46))) := by
  simp only [cmpExec, h]

theorem cmpExec_adds (h : cop w = 0x0A) :
    cmpExec r w = putAlu r (bf w 57 54) (aluSat r.flg 32 ((r.dr (bf w 53 50)).toInt + (r.dr (bf w 49 46)).toInt)) := by
  simp only [cmpExec, h]

theorem cmpExec_subs (h : cop w = 0x0B) :
    cmpExec r w = putAlu r (bf w 57 54) (aluSat r.flg 32 ((r.dr (bf w 53 50)).toInt - (r.dr (bf w 49 46)).toInt)) := by
  simp only [cmpExec, h]

theorem cmpExec_cmp (h : cop w = 0x0F) :
    cmpExec r w = r.setFlg (aluSub r.flg (r.dr (bf w 53 50)) (r.dr (bf w 49 46))).2 := by
  simp only [cmpExec, h]

theorem cmpExec_neg (h : cop w = 0x15) :
    cmpExec r w = putAlu r (bf w 57 54) (aluSub r.flg 0 (r.dr (bf w 53 50))) := by
  simp only [cmpExec, h]

theorem cmpExec_abs (h : cop w = 0x16) :
    cmpExec r w = putAlu r (bf w 57 54) (aluSat r.flg 32 ((r.dr (bf w 53 50)).toInt.natAbs : Int)) := by
  simp only [cmpExec, h]

/-- Each of them but CMP writes its register with a result, whose N and Z it sets. -/
theorem cmpExec_puts (h : cop w ∈ [0x08, 0x09, 0x0A, 0x0B, 0x15, 0x16]) :
    ∃ q : Alu, cmpExec r w = putAlu r (bf w 57 54) q ∧ q.2.n = q.1.msb ∧ q.2.z = (q.1 == 0) := by
  simp only [List.mem_cons, List.not_mem_nil, or_false] at h
  rcases h with h | h | h | h | h | h
  · exact ⟨_, cmpExec_add h, rfl, rfl⟩
  · exact ⟨_, cmpExec_sub h, rfl, rfl⟩
  · exact ⟨_, cmpExec_adds h, rfl, rfl⟩
  · exact ⟨_, cmpExec_subs h, rfl, rfl⟩
  · exact ⟨_, cmpExec_neg h, rfl, rfl⟩
  · exact ⟨_, cmpExec_abs h, rfl, rfl⟩

end

/-- Settles O43: each word but CMP writes its result and its flags, and CMP its flags alone; a value saturates exactly when 32 bits
cannot hold it, which gives V. -/
theorem aluArithmetic : Obligations.AluArithmetic := by
  intro r w x y d t
  have hd : d < 16 := bf_lt w 57 54
  refine ⟨fun h => ?frame, fun h => ?nz, fun h => ?add, fun h => ?sub, fun h => ?cmp, fun h => ?adds, fun h => ?subs,
    fun h => ?neg, fun h => ?abs⟩
  case frame =>
    by_cases hcmp : cop w = 0x0F
    · have ht : t = _ := cmpExec_cmp hcmp
      rw [ht]
      exact ⟨rfl, rfl, fun _ _ => rfl⟩
    · obtain ⟨q, ht, -⟩ : ∃ q, t = putAlu r d q ∧ _ := cmpExec_puts (by simpa [hcmp] using h)
      rw [ht]
      exact ⟨rfl, rfl, fun i hi => dr_putAlu_other r q hi⟩
  case nz =>
    obtain ⟨q, ht, hn, hz⟩ : ∃ q, t = putAlu r d q ∧ _ := cmpExec_puts h
    rw [ht, dr_putAlu_same r q hd]
    exact ⟨hn, hz⟩
  case add =>
    have ht : t = _ := cmpExec_add h
    rw [ht, dr_putAlu_same r _ hd]
    exact ⟨rfl, rfl, aluAdd_v r.flg x y, aluAdd_c r.flg x y⟩
  case sub =>
    have ht : t = _ := cmpExec_sub h
    rw [ht, dr_putAlu_same r _ hd]
    exact ⟨rfl, rfl, aluSub_v r.flg x y, aluSub_c r.flg x y⟩
  case cmp =>
    have ht : t = _ := cmpExec_cmp h
    rw [ht]
    exact ⟨rfl, rfl, aluSub_z r.flg x y, rfl, aluSub_v r.flg x y, aluSub_c r.flg x y⟩
  case adds =>
    have ht : t = _ := cmpExec_adds h
    rw [ht, dr_putAlu_same r _ hd]
    exact ⟨aluSat_toInt r.flg _, rfl, aluSat_v r.flg _, rfl⟩
  case subs =>
    have ht : t = _ := cmpExec_subs h
    rw [ht, dr_putAlu_same r _ hd]
    exact ⟨aluSat_toInt r.flg _, rfl, aluSat_v r.flg _, rfl⟩
  case neg =>
    have ht : t = _ := cmpExec_neg h
    rw [ht, dr_putAlu_same r _ hd]
    exact ⟨BitVec.zero_sub x, aluNeg_v r.flg x, aluNeg_c r.flg x, rfl⟩
  case abs =>
    have ht : t = _ := cmpExec_abs h
    rw [ht, dr_putAlu_same r _ hd]
    exact ⟨aluAbs_toInt r.flg x, aluAbs_v r.flg x, rfl, rfl⟩

/-- Settles O44: an accumulator holds the saturated value exactly, so it differs from the exact value just when SV is set. -/
theorem multiplyAccumulate : Obligations.MultiplyAccumulate := by
  intro r w hop p e t
  have ha : bf w 57 56 < 4 := bf_lt w 57 56
  have ht : t = _ := cmpExec_mac hop
  have he : e = (if (bf w 39 39 == 1) = true then 0 else (r.ar (bf w 57 56)).toInt) + (if (bf w 38 38 == 1) = true then -p else p) := by
    simp only [e, beq_iff_eq]
  have hword : (t.ar (bf w 57 56)).toInt = satS 80 e := by
    rw [ht, he]
    exact (congrArg BitVec.toInt (at_set_same r.a 0 _ ha)).trans (toInt_satS (by decide) _)
  have hsv : t.sv = (r.sv || satS 80 e != e) := by
    rw [ht, he]
    rfl
  refine ⟨hword.trans (satS_eq 80 e), ?sv, ?frame⟩
  case sv => rw [hsv, hword, bne, decide_not, Bool.beq_eq_decide_eq]
  case frame =>
    rw [ht]
    exact ⟨rfl, rfl, rfl, rfl, rfl, fun i hi => at_set_other r.a 0 _ hi⟩

end Sys2Proof.Machine
end

section
/-! SUPPORT. Proofs/CoreFlow.lean: branches, calls and returns on a legal word (R229), and the tests of R228. -/

namespace Sys2Proof.Machine

section
variable {r : CoreRegs} {plen : Nat} {w : W64}

/-- Where the condition is false each steps on. -/
theorem flow_untaken (hlegal : ctlBad r plen w = false) (hcond : ctlCond r w = false) {f : CoreRegs → Nat → W64 → Flow}
    (hf : f ∈ [flowBra, flowCall, flowRet]) : f r plen w = .go { r with pc := r.pc + 1 } false := by
  simp only [List.mem_cons, List.not_mem_nil, or_false] at hf
  rcases hf with rfl | rfl | rfl
  · simp [flowBra, hlegal, hcond]
  · simp [flowCall, hlegal, hcond]
  · simp [flowRet, hlegal, hcond]

section
variable (hlegal : ctlBad r plen w = false) (hcond : ctlCond r w = true)
include hlegal hcond

theorem flowBra_plain (hlp : bf w 47 47 = 0) : flowBra r plen w = .go { r with pc := bf w 12 0 } true := by
  simp [flowBra, ctlTarget, hlegal, hcond, hlp]

theorem flowBra_pops_none (hlp : bf w 47 47 = 1) (hl : r.loops = []) : flowBra r plen w = .fault 8 0 := by
  simp [flowBra, hlegal, hcond, hlp, hl]

theorem flowBra_pops {e : LoopRec} {l : List LoopRec} (hlp : bf w 47 47 = 1) (hl : r.loops = e :: l) :
    flowBra r plen w = .go { r with loops := l, pc := bf w 12 0 } true := by
  simp [flowBra, ctlTarget, hlegal, hcond, hlp, hl]

theorem flowCall_full (hr : 8 ≤ r.rets.length) : flowCall r plen w = .fault 8 1 := by
  simp [flowCall, hlegal, hcond, hr]

/-- The address that CALL pushes is taken modulo 8192 (log 16). -/
theorem flowCall_pushes (hr : r.rets.length < 8) :
    flowCall r plen w = .go { r with rets := (r.pc + 1) % 8192 :: r.rets, pc := bf w 12 0 } true := by
  simp [flowCall, ctlTarget, hlegal, hcond, Nat.not_le.mpr hr]

theorem flowRet_empty (hr : r.rets = []) : flowRet r plen w = .fault 8 1 := by
  simp [flowRet, hlegal, hcond, hr]

theorem flowRet_pops {a : Nat} {l : List Nat} (hr : r.rets = a :: l) :
    flowRet r plen w = .go { r with rets := l, pc := a } true := by
  simp [flowRet, hlegal, hcond, hr]

end

/-- Each goes on with changed stacks and a changed program counter alone, so with the flags it found. -/
theorem flow_keeps_flags (hlegal : ctlBad r plen w = false) {f : CoreRegs → Nat → W64 → Flow}
    (hf : f ∈ [flowBra, flowCall, flowRet]) {r' : CoreRegs} {k : Bool} (h : f r plen w = .go r' k) : r'.flg = r.flg := by
  cases hcond : ctlCond r w with
  | false => rw [flow_untaken hlegal hcond hf] at h; cases h; rfl
  | true =>
    simp only [List.mem_cons, List.not_mem_nil, or_false] at hf
    obtain rfl | rfl | rfl := hf
    · by_cases hlp : bf w 47 47 = 0
      · rw [flowBra_plain hlegal hcond hlp] at h; cases h; rfl
      · have hlt : bf w 47 47 < 2 := bf_lt w 47 47
        have hone : bf w 47 47 = 1 := by omega
        cases hl : r.loops with
        | nil => rw [flowBra_pops_none hlegal hcond hone hl] at h; cases h
        | cons e l => rw [flowBra_pops hlegal hcond hone hl] at h; cases h; rfl
    · by_cases hr : r.rets.length < 8
      · rw [flowCall_pushes hlegal hcond hr] at h; cases h; rfl
      · rw [flowCall_full hlegal hcond (Nat.not_lt.mp hr)] at h; cases h
    · cases hr : r.rets with
      | nil => rw [flowRet_empty hlegal hcond hr] at h; cases h
      | cons a l => rw [flowRet_pops hlegal hcond hr] at h; cases h; rfl

end

/-- Settles O42: on a legal word each acts by its condition and its stack, and no case of it writes a flag. -/
theorem controlFlowAndConditions : Obligations.ControlFlowAndConditions := by
  refine ⟨fun r plen w hlegal => ⟨fun hcond _ => flow_untaken hlegal hcond, fun hcond => ⟨flowBra_plain hlegal hcond,
    flowBra_pops_none hlegal hcond, fun _ _ => flowBra_pops hlegal hcond, fun hr => flowCall_full hlegal hcond (Nat.le_of_eq hr.symm),
    flowCall_pushes hlegal hcond, flowRet_empty hlegal hcond, fun _ _ => flowRet_pops hlegal hcond⟩,
    fun _ hf _ _ => flow_keeps_flags hlegal hf⟩, fun f => rfl⟩

end Sys2Proof.Machine
end

section
/-! SUPPORT. Proofs/FerryInstructions.lean: FERRY, TANDEM and SPARE in order: UDATA takes its words into the load of the open update
(R189, R270), UCOMMIT checks its signature before (R188), and CANCEL fills the reply that UCOMMIT left open (R268, log 15). -/

namespace Sys2Proof.Machine

/-- An instruction in order that answers without a payload, and whose effect may write records of packets under way: its own packet
stays at the front. -/
theorem insn_accepted_samePackets {s t : State} {op k : Nat} {q : Req} {errs : State → List (Bool × Nat)}
    {body : Nat → Bool → State → Res} (hc : s.clear op k q errs)
    (hb : body (s.packetId op q) true (s.enter op q) = checked (s.enter op q) (errs (s.enter op q)) (fun _ => Res.ok t))
    (hs : SamePackets (s.enter op q) t) :
    done s (runInsn op k q s body) = s.accepts op t := by
  obtain ⟨htakes, hroom, herr⟩ := hc
  rw [checked_act _ _ _ herr] at hb
  unfold State.accepts State.answer
  rw [runInsn_acts htakes hb (.inl rfl) hroom (hs.head.trans (enter_head s op q))]

/-- TANDEM INFO of a task with a follower in berth f (R269). -/
theorem tandemInfo_paired {q : Req} {s : State} {f : Nat} (hc : s.clear 0x34 2 q (errsTandemInfo q true))
    (hf : ((s.enter 0x34 q).task (opTask q)).partner = some f) (hr : s.room 0x34 q 3) :
    exec (.tandemInfo q) s = s.returns 0x34 q (let u := s.enter 0x34 q
      [u.view (F.SC_TFt (opTask q)), u.view (F.SCc_STAT (u.taskBerth (opTask q))), u.view (F.SCc_STAT f)]) := by
  refine insn_succeeds hc hr (congrArg (checked _ _) (funext fun _ => ?_)) rfl
  rw [hf]
  rfl

/-- TANDEM INFO of a task without a follower: its third word is free (log 7). -/
theorem tandemInfo_solo {q : Req} {s : State} (hc : s.clear 0x34 2 q (errsTandemInfo q true))
    (hnone : ((s.enter 0x34 q).task (opTask q)).partner = none) (hr : s.room 0x34 q 3) :
    exec (.tandemInfo q) s = s.answer 0x34 stOk (let u := s.enter 0x34 q
      [u.view (F.SC_TFt (opTask q)), u.view (F.SCc_STAT (u.taskBerth (opTask q))), Config.freeWord u.free])
      (s.enter 0x34 q).draw.2 := by
  refine insn_succeeds hc hr (congrArg (checked _ _) (funext fun _ => ?_)) rfl
  rw [hnone]
  rfl

/-- Settles O21: each instruction makes its effect in its packet, which keeps its place; the effect of CANCEL on the packets is the
payload of the reply that UCOMMIT left open. -/
theorem ferryTandemAndSpareInstructions : Obligations.FerryTandemAndSpareInstructions := by
  refine ⟨?uopen, ?udata, ?ucommit, ?cancel, ?revert, ?drill, ?ferryInfo, ?on, ?off, ?paired, ?solo, ?set, ?hold, ?spareInfo⟩
  case uopen => exact fun q s hc => insn_accepted hc rfl (stack_updOpen _ _ _ _)
  case udata =>
    intro q s l u hc ⟨hl, hheader⟩
    refine insn_accepted hc (congrArg (checked _ _) (funext fun _ => ?_)) (stack_takeWords _ _ _ _)
    rw [hl]
    exact loadData_takes hheader
  case ucommit =>
    intro q s u p ws v hc herr hr
    exact insn_signed
      (effect := fun w => (w.updCommit (opTask q) ((u.startFrame (opw q 2) (opw q 3)).getD 0) ws).addWait p (.ferry (opTask q)))
      hc herr hr rfl (fun w => (stack_addWait _ _ _).trans (stack_updCommit w _ _ _))
  case cancel => exact fun q s hc => insn_accepted_samePackets hc rfl ((samePackets_cancelUpdate _ _ _).trans (.of_eq (stack_addWait _ _ _)))
  case revert => exact fun q s hc => insn_accepted hc rfl ((stack_addWait _ _ _).trans (stack_revert _ _))
  case drill => exact fun q s hc => insn_accepted hc rfl ((stack_addWait _ _ _).trans (stack_startMove _ _ _ _ _ _))
  case ferryInfo => exact fun q s hc hr => insn_succeeds hc hr rfl rfl
  case on => exact fun q s hc hr => insn_succeeds hc hr rfl ((stack_addWait _ _ _).trans (stack_startMove _ _ _ _ _ _))
  case off => exact fun q s hc => insn_accepted hc rfl rfl
  case paired => exact fun q s f hc hf hr => tandemInfo_paired hc hf hr
  case solo => exact fun q s hc hnone hr => tandemInfo_solo hc hnone hr
  case set => exact fun q s hc => insn_accepted hc rfl rfl
  case hold => exact fun q s hc => insn_accepted hc rfl (stack_setFld _ _ _)
  case spareInfo => exact fun q s hc hr => insn_succeeds hc hr rfl rfl

end Sys2Proof.Machine
end

section
/-! SUPPORT. Proofs/PairsAndQueues.lean: what issues at a pair, its deck queues and its watchdog (R177, R180, R184, R218, R260, R261):
the operations issue in the members of a pair as they do in a core that stands alone. -/

namespace Sys2Proof.Machine

section
variable {s : State} {c : Nat}

/-- Each command of R229 and R230 is its operation's flow. -/
theorem exec_flow {c : Fin 32} {cy : Nat} {up : CoreUpset} {i : Instr} {k : Nat} {f : CoreRegs → Nat → W64 → Flow}
    (h : (i, k, f) ∈ [(Instr.bra c cy up, 0, flowBra), (Instr.call c cy up, 1, flowCall), (Instr.ret c cy up, 2, flowRet),
      (Instr.loop c cy up, 3, flowLoop)]) : exec i s = done s (s.flow c.val cy k f up) := by
  simp only [List.mem_cons, Prod.mk.injEq, List.not_mem_nil, or_false] at h
  obtain ⟨rfl, rfl, rfl⟩ | ⟨rfl, rfl, rfl⟩ | ⟨rfl, rfl, rfl⟩ | ⟨rfl, rfl, rfl⟩ := h <;> rfl

/-- The oldest deck read of a core that stands alone, with no write before it: it delivers the word it has taken, or the deck's. -/
theorem deckReturn_alone {r : DeckRd} {l : List DeckRd} (hms : s.members c = [c]) (hreads : (s.core c).reads = r :: l)
    (hafter : r.after = 0) :
    s.deckReturn c = match r.got with
      | some v => s.modCore c (fun k => k.deliver v)
      | none => (s.deckFetch c r).1.modCore c (fun k => k.deliver (s.deckFetch c r).2) := by
  unfold State.deckReturn
  simp only [hms, List.headD_cons, hreads, hafter, if_true, List.foldl_cons, List.foldl_nil]
  cases r.got <;> rfl

/-- An active core that has not issued FRAME by its limit faults with cause 4 (R184). -/
theorem watchdog_due {cy : Nat} (hstage : s.inStage cy = true) (hactive : (s.core c).state = .active)
    (hwait : (s.core c).wait ≠ some .frame) (hlimit : wdLimit s.rate (s.core c).image.wdlim ≤ (s.core c).ran + cy) :
    s.watchdog c cy = s.coreFault c 4 0 :=
  if_pos (by simp [hstage, hactive, hwait, hlimit])

end

/-- Settles O41: an operation issues in the members of its pair, whatever they are; a deck read, a deck write and the watchdog act
where their guards hold. -/
theorem pairsQueuesAndWatchdog : Obligations.PairsQueuesAndWatchdog := by
  refine ⟨?pairs, ?read, ?write, ?watchdog⟩
  case pairs =>
    intro c cy s ms hmay
    refine ⟨?bundle, ?flow, ?frame, ?sync, ?trap⟩
    case bundle => exact fun up hword hroom hup => congrArg (done s) (bundle_issues rfl hmay hword hroom hup)
    case flow =>
      exact fun up i k f hmem hat hheld hup => (exec_flow hmem).trans (congrArg (done s) (flow_issues rfl hmay hat hheld hup))
    case frame => exact fun hat hout => congrArg (done s) (frame_issues rfl hmay hat hout)
    case sync => exact fun hat => congrArg (done s) (sync_issues rfl hmay hat)
    case trap => exact fun hat => congrArg (done s) (trap_issues rfl hmay hat)
  case read => exact fun c r l s hms hreads hafter => congrArg (done s) (deckReturn_alone hms hreads hafter)
  case write => exact fun c cy s hstage => congrArg (done s) (if_pos hstage)
  case watchdog =>
    exact fun c cy s hstage hactive hwait hlimit => congrArg (done s) (watchdog_due hstage hactive hwait hlimit)

end Sys2Proof.Machine
end

section
/-! SUPPORT. Proofs/SpecialRegisters.lean: the writes of MOOR_BIND0, ECC_TEST_CTRL and RST_GWDT, which differ from what their access
codes say (R274, R492, R557). -/

namespace Sys2Proof.Machine

section
variable {s : State} (v : W32)

/-- M0 is bound by no register (R274): a write of MOOR_BIND0 changes nothing, whether its gate is open or closed. -/
theorem writeReg_moorBind_zero : s.writeReg (F.MOOR_BINDm 0) v false = s := by
  cases hg : s.regOpen (F.MOOR_BINDm 0) with
  | false => exact writeReg_closed v rfl hg
  | true =>
    unfold State.writeReg
    rw [hg, show findRow (F.MOOR_BINDm 0) = some (rowsMoor[1], 0, 0) from rfl]
    rfl

theorem writeReg_eccTest : s.writeReg F.ECC_TEST_CTRL v false = s.eccTestWrite v := by
  unfold State.writeReg
  rw [show findRow F.ECC_TEST_CTRL = some (rowsEcc[0], 0, 0) from rfl]
  rfl

/-- Whether a bank is expendable rests on one register alone, XM_CFG. -/
theorem expendable_setFld {f : Fld} (x b : Nat) (hf : f.reg ≠ F.XM_CFG) : (s.setFld f x).expendable b = s.expendable b := by
  have hcfg : (s.setFld f x).reg F.XM_CFG = s.reg F.XM_CFG := reg_setFld_other s x hf.symm
  have hnin : (s.setFld f x).nin = s.nin := fld_congr hcfg
  have hnbus : (s.setFld f x).nbus = s.nbus := fld_congr hcfg
  have hnout : (s.setFld f x).nout = s.nout := fld_congr hcfg
  unfold State.expendable
  rw [hnin, hnbus, hnout]
  rfl

/-- A write that asks for raw mode of a bank enters it where the bank is expendable. -/
theorem raw_eccTestWrite (hbank : bf v 5 0 < 40) (hraw : bit v 31 = true) :
    (s.eccTestWrite v).fld F.ECC_TEST_CTRL_RAW = if s.expendable (bf v 5 0) then 1 else 0 := by
  have hcleared : (if bit v 30 then s.setFld F.ECC_TEST_CTRL_REFUSED 0 else s).expendable (bf v 5 0) =
      s.expendable (bf v 5 0) := by
    split
    · exact expendable_setFld 0 _ (by decide)
    · rfl
  unfold State.eccTestWrite
  simp only [if_pos hbank, hraw, expendable_setFld _ _ (show F.ECC_TEST_CTRL_BANK.reg ≠ F.XM_CFG by decide), hcleared]
  cases s.expendable (bf v 5 0) with
  | true => exact fld_setFld_same _ _ _ (by decide)
  | false =>
    exact (fld_setFld_other _ F.ECC_TEST_CTRL_REFUSED F.ECC_TEST_CTRL_RAW 1 (by decide)).trans (fld_setFld_same _ _ _ (by decide))

/-- KICK with 0xA5 restarts the count from the LIM that the register holds. -/
theorem guard_kick (h : bf v 7 0 = 0xA5) : (s.kick v).pwr.guard = 100 * (s.kick v).fld F.RST_GWDT_LIM := by
  unfold State.kick
  rw [if_pos h]
  rfl

end

/-- Settles O33: each write reaches its register's own function. -/
theorem specialRegisterWrites : Obligations.SpecialRegisterWrites := by
  refine ⟨?bindZero, ?bind, ?ecc, ?kick, ?expiry⟩
  case bindZero =>
    exact fun v s hw => congrArg (done s) ((regWrite_fabric v hw rfl).trans (writeReg_moorBind_zero v))
  case bind => exact fun m v s _ => rfl
  case ecc =>
    intro v s hw hbank hraw
    refine ⟨_, congrArg (done s) ((regWrite_fabric v hw rfl).trans (writeReg_eccTest v)), ?_⟩
    exact raw_eccTestWrite v hbank hraw
  case kick =>
    intro v s hw hkick _
    refine ⟨_, congrArg (done s) ((regWrite_fabric v hw rfl).trans (writeReg_rstGwdt v)), ?_⟩
    exact guard_kick v hkick
  case expiry =>
    exact fun s hw hrun hguard => congrArg (doneMem s) (when_true (by rw [hw, hrun, hguard]; rfl))

end Sys2Proof.Machine
end

section
/-! SUPPORT. Proofs/HostLinks.lean: the links of the hosts: accesses of the PCIe functions, taken or stray (R298), the operations of
a quay port (R302, R303), and the index of MGMT (R305, log 92). -/

namespace Sys2Proof.Machine

section
variable {s : State} {pf : Nat}

/-! ## PCIe -/

theorem apertureWrite_open {m c : Nat} {mm : Fin 8} {ws : List W32} {how : Arrival} (hopen : s.pcieOpen = true) :
    s.apertureWrite pf m mm c ws how = if s.barTakes pf m c then s.arrive pf mm c ws how else s.bump F.PCIE_STAT_STRAY := by
  unfold State.apertureWrite
  rw [hopen]
  cases s.barTakes pf m c <;> rfl

theorem doorbell_open {m : Fin 8} {v : W32} (hopen : s.pcieOpen = true) :
    s.doorbell pf m v = if s.barTakes pf m.val (bf v 17 16)
      then s.endPacket m (bf v 17 16) (bf v 14 0 != (((s.queue m.val (bf v 17 16)).landing.getD noLanding).words).length) false
      else s.bump F.PCIE_STAT_STRAY := by
  unfold State.doorbell
  rw [hopen]
  dsimp only
  cases s.barTakes pf m.val (bf v 17 16) <;> rfl

theorem regWrite_bar {f : Fin 4} {a : Nat} (v : W32) (hw : s.awake = true) (ha : a % 4 = 0) :
    s.regWrite a v (some f) = s.barWrite f.val a v := by
  simp [State.regWrite, hw, ha]

theorem data_regRead_bar {f : Fin 4} {a : Nat} (hw : s.awake = true) (ha : a % 4 = 0) :
    (s.regRead a (some f)).side.data = [(s.barRead f.val a).1] := by
  simp [State.regRead, hw, ha]

end

/-- Settles O46: out of reset each event is its function of the model, and a BAR0 access is taken or counts as stray. -/
theorem pcieEvents : Obligations.PcieEvents := by
  refine ⟨?aperture, ?doorbell, ?bme, ?flr, ?down, ?up, ?bar, ?dma, ?spacing⟩
  case aperture =>
    exact fun f m k l d s hw hopen => congrArg (doneMem s) ((when_true hw).trans (apertureWrite_open hopen))
  case doorbell => exact fun f m v s hw hopen => congrArg (doneMem s) ((when_true hw).trans (doorbell_open hopen))
  case bme => exact fun f u s hw => ⟨_, congrArg (done s) (when_true hw), rfl, rfl⟩
  case flr => exact fun f s hw => congrArg (done s) (when_true hw)
  case down => exact fun s hw => ⟨congrArg (done s) (when_true hw), congrArg (done s) (when_true hw)⟩
  case up =>
    exact fun v w s hw hspeed hlock => congrArg (done s) (when_true (by simpa [hw, hlock] using hspeed))
  case bar =>
    intro f a s hw ha
    exact ⟨fun v => congrArg (doneMem s) (regWrite_bar v hw ha), _, rfl, data_regRead_bar hw ha⟩
  case dma => exact fun m s hw => congrArg (done s) (when_true hw)
  case spacing => exact fun m s _ => rfl

/-! ## Quay ports -/

section
variable {s : State} {n : Nat}

theorem quayPacket_open {ws : List W32} {part ended : Bool} (hopen : s.quayOpen n = true) :
    s.quayPacket n ws part ended =
      let t := s.quayArrive n (lookD s.side.quay ⟨[], false⟩ n) ws
      if ended then t.quayEnd n part else t := by
  unfold State.quayPacket
  rw [hopen]
  rfl

/-- The store sends nothing while the controllers restart; then, as when it is empty, REPLY brings out one word 0. -/
theorem quayReply_nothing {w : Bool} (hopen : s.quayOpen n = true) (hnone : s.ctl.run = .restarting ∨ s.quayStore n = []) :
    s.quayReply n w = { s with side := { s.side with data := [0] } } := by
  have hsent : (if s.ctl.run == .restarting then [] else s.quayStore n) = [] := by
    rcases hnone with hrun | hstore
    · rw [hrun]; rfl
    · rw [hstore]; exact ite_self _
  unfold State.quayReply
  rw [hopen, hsent]
  rfl

/-- The oldest packet of the store is sent, and leaves where it was taken whole. -/
theorem quayReply_oldest {w : Bool} {m : Fin 8} {p : OutPkt} {l : List (Fin 8 × OutPkt)} (hopen : s.quayOpen n = true)
    (hrun : s.ctl.run ≠ .restarting) (hstore : s.quayStore n = (m, p) :: l) :
    (s.quayReply n w).side.data = p.words ∧
      (s.quayReply n w).moors = if w then s.moors.set m { s.moors[m] with out := (s.moors[m]).out.erase p } else s.moors := by
  have hsent : (if s.ctl.run == .restarting then [] else s.quayStore n) = (m, p) :: l := by
    rw [if_neg (by simpa using hrun), hstore]
  unfold State.quayReply
  rw [hopen, hsent]
  cases w <;> exact ⟨rfl, rfl⟩

/-- MRESET of a mooring bound to the port. -/
theorem quayReset_bound {m : Fin 8} (hopen : s.quayOpen n = true) (hlink : s.fld (F.MOOR_BINDm_LINK m.val) = 4 + n) :
    s.quayReset n (BitVec.ofNat 32 (0x4D520000 + m.val)) = s.mooringReset m := by
  have hword : (BitVec.ofNat 32 (0x4D520000 + m.val)).toNat = 0x4D520000 + m.val := by
    rw [BitVec.toNat_ofNat]
    omega
  unfold State.quayReset
  simp [hword, hopen, hlink]

/-- A first byte other than those of PACKET, REPLY, STATUS and MRESET. -/
theorem quayBad_of_unlisted {op : Byte} (h : op ∉ [0x5C, 0x3A, 0x96, 0x6E]) : quayBad op = true := by
  simpa [quayBad, and_assoc] using h

end

/-- Settles O47: on an enabled port each operation is its function of the model. -/
theorem quayEvents : Obligations.QuayEvents := by
  intro n s hw hopen
  refine ⟨?packet, ?none, ?oldest, ?status, ?mreset, ?badOpcode⟩
  case packet => exact fun l p e => congrArg (doneMem s) (when_true hw)
  case none =>
    intro w hnone
    exact ⟨_, congrArg (done s) ((when_true hw).trans (quayReply_nothing hopen hnone)), rfl, rfl⟩
  case oldest =>
    intro w m p l hrun hstore
    exact ⟨_, congrArg (done s) (when_true hw), quayReply_oldest hopen hrun hstore⟩
  case status => exact congrArg (done s) (when_true hw)
  case mreset => exact fun m hlink => congrArg (done s) ((when_true hw).trans (quayReset_bound hopen hlink))
  case badOpcode =>
    intro op hop
    exact congrArg (done s) (when_true (by rw [hw, hopen, quayBad_of_unlisted hop]; rfl))

/-! ## MGMT -/

/-- A read of n whole registers and k further bytes: a word for each register it reaches, and the index past the whole ones. -/
theorem mgmtRead_reads (k n : Nat) (s : State) (l : List W32) :
    (State.mgmtRead k n s l).side.data.length = l.length + n + (if k = 0 then 0 else 1) ∧
      (State.mgmtRead k n s l).side.mgmtIndex = s.side.mgmtIndex + BitVec.ofNat 8 n ∧
      { State.mgmtRead k n s l with side := s.side } = s := by
  induction n generalizing s l with
  | zero =>
    unfold State.mgmtRead
    by_cases hk : k = 0
    · simp [hk]
    · simp [hk, State.mgmtSeen]
  | succ n ih =>
    obtain ⟨hdata, hindex, hrest⟩ := ih
      { s.mgmtSeen s.side.mgmtIndex with
        side := { (s.mgmtSeen s.side.mgmtIndex).side with mgmtIndex := s.side.mgmtIndex + 1 } }
      (l ++ [s.mgmtReg s.side.mgmtIndex.toNat])
    unfold State.mgmtRead
    refine ⟨hdata.trans ?_, hindex.trans ?_, congrArg (fun t : State => { t with side := s.side }) hrest⟩
    · rw [List.length_append, List.length_singleton]
      omega
    · rw [BitVec.add_assoc, Nat.add_comm n 1, BitVec.ofNat_add]
      rfl

theorem exec_mgmtRead {n : Nat} {s : State} (hpor : s.pwr.por = false) :
    exec (.mgmtRead n) s = done s (State.mgmtRead (n % 4) (n / 4) s []) :=
  congrArg (done s) (when_true (by rw [hpor]; rfl))

/-- Settles O49: a read, by induction on the registers that it reads whole. -/
theorem mgmtTransfers : Obligations.MgmtTransfers := by
  refine ⟨?write, ?one, ?any⟩
  case write => exact fun i s hpor => congrArg (done s) (when_true (by rw [hpor]; rfl))
  case one => exact fun s hpor => exec_mgmtRead hpor
  case any =>
    intro n s hpor
    obtain ⟨hdata, hindex, hrest⟩ := mgmtRead_reads (n % 4) (n / 4) s []
    refine ⟨_, exec_mgmtRead hpor, hdata.trans ?_, hindex, ?_⟩
    · rw [List.length_nil]
      split <;> omega
    · have hkept : ({ State.mgmtRead (n % 4) (n / 4) s [] with side := s.side, pending := s.pending, otp := s.otp, mem := s.mem } :
          State) = s := congrArg (fun t : State => { t with pending := s.pending, otp := s.otp, mem := s.mem }) hrest
      exact (congrArg s.unitsKept hkept).mpr (State.unitsKept.refl s)

end Sys2Proof.Machine
end

section
/-! SUPPORT. Proofs/PacketStart.lean: what begins: the command at the front of the queue (log 5), and the next landed packet (R290, R291,
R294); with none ready, the running packet stays at its boundary unless its next instruction has a reserved opcode (R315). -/

namespace Sys2Proof.Machine

/-- Settles O1: the step matches on the queue. -/
theorem stepRunsTheFrontCommand : Obligations.StepRunsTheFrontCommand := by
  intro c r s hq
  unfold step
  rw [hq]

section
variable {s : State}

theorem packetStart_next {m : Fin 8} {c : Fin 4} {p : Landed} (hrun : s.commands = true) (hnext : s.nextPacket = some (m, c, p)) :
    s.packetStart = (s.takePacket m c p).boundary := by
  unfold State.packetStart
  rw [hrun, hnext]
  rfl

theorem packetStart_none (hrun : s.commands = true) (hnext : s.nextPacket = none) : s.packetStart = s.boundary := by
  unfold State.packetStart
  rw [hrun, hnext]
  rfl

/-- A packet that FLUSH has marked is refused unread (R294). -/
theorem takePacket_flushed {m : Fin 8} {c : Fin 4} {p : Landed} (hflush : p.flush ≠ []) :
    s.takePacket m c p =
      let q := s.queue m.val c.val
      let t := s.setQueue m.val c.val { q with landed := q.landed.tail }
      State.refusePacket { t with ctl := { t.ctl with rr := t.ctl.rr.set c.val m.val } } m c p (s.packetAt m.val c.val p).2 eflushed :=
  if_pos (by simp [hflush])

theorem closeReserved_listed {p : Pkt} {rest : List Pkt} (hstack : s.ctl.stack = p :: rest)
    (hlisted : ∀ i ∈ p.insns.head?, opListed i.op = true) : s.closeReserved = s := by
  unfold State.closeReserved
  rw [hstack]
  cases hinsns : p.insns with
  | nil => simp only [hinsns]
  | cons i more =>
    have hi : opListed i.op = true := hlisted i (by rw [hinsns]; rfl)
    simp only [hinsns, hi, if_true]

theorem boundary_of_closeReserved (h : s.closeReserved = s) : s.boundary = s := by
  unfold State.boundary
  induction List.range s.ctl.stack.length with
  | nil => rfl
  | cons k ks ih => rwa [List.foldl_cons, h, ite_self]

theorem boundary_idle (hstack : s.ctl.stack = []) : s.boundary = s := by
  unfold State.boundary
  rw [hstack]
  rfl

end

theorem exec_packetStart {s : State} (hw : s.awake = true) : exec .packetStart s = doneMem s s.packetStart :=
  congrArg (doneMem s) (when_true hw)

/-- Settles O48: the controllers take the next packet; without one, a boundary changes nothing where no reserved opcode is next. -/
theorem packetsStart : Obligations.PacketsStart := by
  refine ⟨fun s hw => exec_packetStart hw, ?flushed, ?taken, ?nothing⟩
  case flushed =>
    intro m c p s hw hrun hnext hflush
    rw [exec_packetStart hw, packetStart_next hrun hnext, takePacket_flushed hflush]
  case taken =>
    intro m c p s hw hrun hnext
    rw [exec_packetStart hw, packetStart_next hrun hnext]
  case nothing =>
    intro s hw hrun hnext
    have hstart : exec .packetStart s = doneMem s s.boundary := by rw [exec_packetStart hw, packetStart_none hrun hnext]
    refine ⟨hstart, fun p rest hstack hlisted => ?_, fun hstack => ?_⟩
    · rw [hstart, boundary_of_closeReserved (closeReserved_listed hstack hlisted)]
      rfl
    · rw [hstart, boundary_idle hstack]
      rfl

end Sys2Proof.Machine
end

section
/-! SUPPORT. Proofs/InsnAnswers.lean: what an instruction answers that succeeds, that ends its own packet, or that meets a condition of its
error table (R311, R317, R320, R321, R277). -/

namespace Sys2Proof.Machine

/-! ## Answers -/

theorem room_mono {s : State} {op m n : Nat} {q : Req} (hr : s.room op q n) (h : m ≤ n) : s.room op q m := by
  intro p hp
  have hlen := hr p hp
  unfold replyLen at hlen ⊢
  omega

/-- An instruction that the controllers execute, whose reply has room for the record it leaves: its own packet is still at the front. -/
theorem runInsn_answers {s t : State} {op k st : Nat} {q : Req} {payload : List W32} {body : Nat → Bool → State → Res}
    (h : s.takes op k q) (hb : body (s.packetId op q) true (s.enter op q) = ⟨st, payload, t⟩)
    (hr : s.room op q (if st = stOk ∨ st = stPending then payload.length else payloadLen op k q))
    (hs : t.ctl.stack.head?.map (·.id) = some (s.packetId op q)) :
    runInsn op k q s body = t.record { op := op, status := st, payload := payload } := by
  obtain ⟨p, -, -, hp, -, -⟩ := packet_some s op q
  rw [runInsn_body h hp hb hs, room_fits hp hr]
  rfl

/-- The same for an instruction in order, whose body acts. -/
theorem runInsn_acts_clear {s t : State} {op k st : Nat} {q : Req} {errs : State → List (Bool × Nat)} {payload : List W32}
    {body : Nat → Bool → State → Res} (hc : s.clear op k q errs)
    (hr : s.room op q (if st = stOk ∨ st = stPending then payload.length else payloadLen op k q))
    (hb : body (s.packetId op q) true (s.enter op q) =
      checked (s.enter op q) (errs (s.enter op q)) (fun _ => ⟨st, payload, t⟩))
    (hs : t.ctl.stack.head?.map (·.id) = some (s.packetId op q)) :
    runInsn op k q s body = t.record { op := op, status := st, payload := payload } := by
  obtain ⟨htakes, -, herr⟩ := hc
  rw [checked_act _ _ _ herr] at hb
  exact runInsn_answers htakes hb hr hs

/-- An instruction in order that succeeds without a payload. -/
theorem runInsn_accepted {s t : State} {op k : Nat} {q : Req} {errs : State → List (Bool × Nat)}
    {body : Nat → Bool → State → Res} (hc : s.clear op k q errs)
    (hb : body (s.packetId op q) true (s.enter op q) = checked (s.enter op q) (errs (s.enter op q)) (fun _ => Res.ok t))
    (hs : t.ctl.stack.head?.map (·.id) = some (s.packetId op q)) :
    runInsn op k q s body = t.record { op := op, status := stOk, payload := [] } :=
  have ⟨_, hroom, _⟩ := hc
  runInsn_acts_clear hc hroom hb hs

theorem head_of_stack {s t : State} {op : Nat} {q : Req} (h : t.ctl.stack = (s.enter op q).ctl.stack) :
    t.ctl.stack.head?.map (·.id) = some (s.packetId op q) := by
  rw [h, enter_head]

/-- An instruction whose packet its own effect ends gets no record. -/
theorem runInsn_ended {s t : State} {op k : Nat} {q : Req} {errs : State → List (Bool × Nat)}
    {body : Nat → Bool → State → Res} (hc : s.clear op k q errs)
    (hb : body (s.packetId op q) true (s.enter op q) = checked (s.enter op q) (errs (s.enter op q)) (fun _ => Res.ok t))
    (hgone : ∀ x ∈ t.ctl.stack, x.id ≠ s.packetId op q) : runInsn op k q s body = t := by
  obtain ⟨⟨hserves, hexec, hmod⟩, hroom, herr⟩ := hc
  rw [checked_act _ _ _ herr] at hb
  obtain ⟨p, r, hstack, hp, hid, -⟩ := packet_some s op q
  have hfits : s.tooLong p op k q (Res.ok t) = false := room_fits hp hroom
  have hhead : t.ctl.stack.head?.map (·.id) ≠ some p.id := by
    intro h
    obtain ⟨x, hx, hxid⟩ := Option.map_eq_some_iff.mp h
    exact hgone x (List.mem_of_mem_head? hx) (hxid.trans hid.symm)
  rw [hid] at hb
  unfold runInsn
  simp only [hserves, hmod, hstack, hexec, hb, Option.isSome_some, hfits, Bool.not_true,
    Option.getD_some, bne_self_eq_false, Bool.or_self, Bool.false_and, Bool.false_eq_true, if_false]
  simp [hhead, Res.ok]

/-! ## Failures -/

theorem failure_aboveRange {s : State} {op k e : Nat} {q : Req} (h : aboveRange e = true) : s.failure op k q e = e := by
  unfold State.failure
  split
  · rw [h, Bool.not_true, Bool.and_false]
    rfl
  · rfl

theorem failure_erange (s : State) (op k : Nat) (q : Req) : s.failure op k q erange = erange := by
  unfold State.failure
  split
  · exact ite_self _
  · rfl

theorem badIn_markless {s : State} (hm : s.marks = []) (a n : Nat) : s.badIn a n = none := by
  unfold State.badIn
  rw [hm]
  rfl

theorem secureRead_markless {s : State} (hm : s.marks = []) (a n : Nat) : s.secureRead a n = s := by
  unfold State.secureRead
  simp only [fixSingles_markless hm, badIn_markless hm]

theorem signRead_markless {s : State} (hm : s.marks = []) (ws : List W32) : s.signRead ws = s := by
  unfold State.signRead
  rw [secureRead_markless hm, ite_self]

/-- A signed instruction that fails, and whose read of the slot changes nothing or does not come about (R188). -/
theorem checkedSigned_fails {s : State} {ws : List W32} {n e : Nat} {cs : State → List (Bool × Nat)} {act : State → Res}
    (hread : s.marks = [] ∨ (firstErr ((cs s).take n)).isSome = true) (he : firstErr (cs s) = some e) :
    checkedSigned s ws n cs act = Res.err s e := by
  have hsame : (if (firstErr ((cs s).take n)).isNone then s.signRead ws else s) = s := by
    obtain hm | hfirst := hread
    · rw [signRead_markless hm, ite_self]
    · rw [if_neg (by rw [Option.isNone_eq_false_iff.mpr hfirst]; exact Bool.false_ne_true)]
  unfold checkedSigned
  rw [hsame]
  exact checked_err _ _ _ _ he

/-- A row that meets a condition of its table fails. -/
theorem exec_fails {c : Instr} {r : Row} {s : State} {e : Nat} (h : rowOf c = some r) (ht : s.takes r.op r.k r.q)
    (hread : r.k = 2 ∧ (r.op = 0x30 ∨ r.op = 0x33) →
      s.marks = [] ∨ (firstErr ((r.errs true (s.enter r.op r.q)).take 4)).isSome = true)
    (he : firstErr (r.errs true (s.enter r.op r.q)) = some e) :
    exec c s = s.rejects r.op r.q (s.failure r.op r.k r.q e) := by
  rw [← (session_enter s r.op r.q).marks] at hread
  have hc := fun act => checked_err (s.enter r.op r.q) _ act e he
  cases c <;> cases h
  case taskStart => exact insn_rejects_mem ht (checkedSigned_fails (hread ⟨rfl, .inl rfl⟩) he)
  case ferryUcommit => exact insn_rejects_mem ht (checkedSigned_fails (hread ⟨rfl, .inr rfl⟩) he)
  case mwrite | mfill | power => exact insn_rejects_mem ht (hc _)
  case slotmapBindin | slotmapBindout => exact insn_rejects ht (by unfold bindAct; exact hc _)
  case turnAt | turnNext => exact insn_rejects ht (by unfold turnAct; exact hc _)
  case tstopFade | tstopCut => exact insn_rejects ht (by unfold tstopAct; exact hc _)
  case tparamReadActive | tparamReadInactive => exact insn_rejects ht (by unfold tparamRead; exact hc _)
  case alarmRaise | alarmClear => exact insn_rejects ht (by unfold alarmAct; exact hc _)
  all_goals exact insn_rejects ht (hc _)

/-- A row that meets one of the first conditions of its table fails; such a status of class or mooring is not lowered to ERANGE. -/
theorem exec_fails_first {c : Instr} {r : Row} {s : State} {e : Nat} (h : rowOf c = some r) (ht : s.takes r.op r.k r.q)
    (he : firstErr ((r.errs true (s.enter r.op r.q)).take 4) = some e) (habove : aboveRange e = true) :
    exec c s = s.rejects r.op r.q e := by
  rw [exec_fails h ht (fun _ => .inr (by rw [he]; rfl)) (firstErr_of_take he), failure_aboveRange habove]

/-- A signed instruction that fails in the state which the read of the slot leaves. -/
theorem insn_signed_fails {s : State} {op k n e : Nat} {q : Req} {ws : List W32} {cs : State → List (Bool × Nat)}
    {act : State → Res} {body : Nat → Bool → State → Res} (ht : s.takes op k q) (hr : s.room op q (payloadLen op k q))
    (hfirst : firstErr ((cs (s.enter op q)).take n) = none) (he : firstErr (cs ((s.enter op q).signRead ws)) = some e)
    (hb : body (s.packetId op q) true (s.enter op q) = checkedSigned (s.enter op q) ws n cs act) :
    doneMem s (runInsn op k q s body) = s.answerMem op e [] ((s.enter op q).signRead ws) := by
  have hfail : body (s.packetId op q) true (s.enter op q) = Res.err ((s.enter op q).signRead ws) e := by
    rw [hb]
    unfold checkedSigned
    rw [hfirst]
    exact checked_err _ _ _ _ he
  have hroom : s.room op q (if e = stOk ∨ e = stPending then ([] : List W32).length else payloadLen op k q) := by
    refine room_mono hr ?_
    split
    · exact Nat.zero_le _
    · exact Nat.le_refl _
  exact congrArg (doneMem s) (runInsn_answers ht hfail hroom (head_of_stack (stack_signRead _ _)))

/-- Settles O9: the first condition of the table that holds decides the status, behind the read of the slot for a signed instruction. -/
theorem failedInstructionsChangeNothing : Obligations.FailedInstructionsChangeNothing := by
  refine ⟨fun c r e s h ht hread he => exec_fails h ht hread he, ?start, ?commit⟩
  case start => exact fun q e s ht hr hfirst he => insn_signed_fails ht hr hfirst he rfl
  case commit => exact fun q e s ht hr hfirst he => insn_signed_fails ht hr hfirst he rfl

end Sys2Proof.Machine
end

section
/-! SUPPORT. Proofs/InstructionFrames.lean: what an instruction leaves unchanged, whatever it answers: the frame of its body and of its
packet (R316, R317, R336 to R339, R344 to R348). -/

namespace Sys2Proof.Machine

/-! ## Frames of instructions -/

/-- A relation between a state and what an instruction leaves of it: it admits what a packet does to the sessions, and what an outcome
restores. -/
structure InsnFrame (R : State → State → Prop) : Prop where
  kept : ∀ {s t : State}, s.unitsKept t → R s t
  trans : ∀ {s t u : State}, R s t → R t u → R s u
  restored : ∀ {s t : State}, R s t → R s { t with pending := s.pending, otp := s.otp, mem := s.mem }

section
variable {R : State → State → Prop} (hR : InsnFrame R)
include hR

theorem InsnFrame.refl (s : State) : R s s := hR.kept (.refl s)

/-- An instruction whose body keeps the frame keeps it. -/
theorem InsnFrame.of_body (op k : Nat) (q : Req) (s : State) (body : Nat → Bool → State → Res)
    (hb : ∀ (p : Nat) (ok : Bool) (u : State), R u (body p ok u).st) : R s (runInsn op k q s body) := by
  have henter : R s (s.enter op q) := hR.kept (kept_enter s op q)
  have hrecord (u : State) (r : Rec) : R u (u.record r) := hR.kept (kept_record u r)
  unfold runInsn
  split
  · exact hR.refl s
  · simp only []
    split
    · exact hR.refl s
    · repeat' split
      · exact hR.trans henter (hrecord _ _)
      · exact hR.trans henter (hrecord _ _)
      · exact hR.trans henter (hR.trans (hb _ _ _) (hrecord _ _))
      · exact hR.trans henter (hb _ _ _)

/-- A checked body keeps the frame where its action does. -/
theorem InsnFrame.of_checked {u : State} {cs : List (Bool × Nat)} {act : Unit → Res} (h : R u (act ()).st) :
    R u (checked u cs act).st := by
  unfold checked
  split
  · exact hR.refl u
  · exact h

/-- An instruction whose body keeps the frame keeps it, whatever it answers. -/
theorem InsnFrame.of_insn {op k : Nat} {q : Req} {s t : State} {body : Nat → Bool → State → Res}
    (hb : ∀ (p : Nat) (ok : Bool) (u : State), R u (body p ok u).st) (h : done s (runInsn op k q s body) = .next t) : R s t := by
  injection h with h
  rw [← h]
  exact hR.restored (hR.of_body op k q s body hb)

end

theorem frame_unitsKept : InsnFrame State.unitsKept where
  kept h := h
  trans := State.unitsKept.trans
  restored {s t} h := by
    have g := congrArg (fun x : State => { x with pending := s.pending, otp := s.otp, mem := s.mem }) h
    exact g

/-- Settles O29: each body reads, stores a request for a stage edge, or changes the sessions alone. -/
theorem instructionsKeepTheUnits : Obligations.InstructionsKeepTheUnits := by
  intro q c s t hc
  have hf := frame_unitsKept
  revert c
  simp only [List.forall_mem_cons]
  refine ⟨?nop, ?echo, ?device, ?frame, ?self, ?subscribe, ?kind, ?bindin, ?bindout, ?unbind, ?mode, ?inslot, ?busslot, ?outslot,
    ?define, ?delete, ?drop, ?taskInfo, ?ferryInfo, ?spareInfo, ?claim, ?release, ?zoneRead, ?time, ?refsel, ?asrc, ?rxread, ?alarms,
    ?notify, ?memtest, ?scrub, ?lifecycle, List.forall_mem_nil _⟩
  case nop | echo | device | frame | self | taskInfo | ferryInfo | spareInfo | zoneRead | time | refsel | asrc | rxread | alarms
      | memtest | scrub =>
    exact hf.of_insn fun _ _ u => hf.of_checked (.refl u)
  case kind | bindin | bindout | unbind | mode | inslot | busslot | outslot | define | delete | drop | claim | release =>
    exact hf.of_insn fun p _ u => hf.of_checked (kept_deferEdge u p _)
  case subscribe | notify | lifecycle => exact hf.of_insn fun _ _ u => hf.of_checked rfl

/-! ## Ports and registers -/

/-- Nothing differs but registers, ports, meter points and what belongs to the sessions. -/
def PortsKept (s t : State) : Prop := s.unitsKept { t with regs := s.regs, ports := s.ports, meters := s.meters }

theorem frame_portsKept : InsnFrame PortsKept where
  kept {s t} h := by
    have g := congrArg (fun x : State => { x with regs := s.regs, ports := s.ports, meters := s.meters }) h
    exact g
  trans {s t u} h g := by
    have g1 := congrArg (fun x : State => { x with regs := s.regs, ports := s.ports, meters := s.meters }) g
    have h1 := congrArg (fun x : State => { x with moors := u.moors, ctl := u.ctl, queues := u.queues, sec := u.sec }) h
    exact Eq.trans g1 h1
  restored {s t} h := by
    have g := congrArg (fun x : State => { x with pending := s.pending, otp := s.otp, mem := s.mem }) h
    exact g

theorem PortsKept.ite {s t u : State} {c : Prop} [Decidable c] (ht : PortsKept s t) (hu : PortsKept s u) :
    PortsKept s (if c then t else u) := by split <;> assumption

theorem PortsKept.addWait {s t : State} (h : PortsKept s t) {n : Nat} {w : Wait} : PortsKept s (t.addWait n w) :=
  frame_portsKept.trans h (frame_portsKept.kept (kept_addWait t n w))

theorem portsKept_limSet (s : State) (p n : Nat) (w : W32) : PortsKept s (s.limSet p n w) := .ite rfl rfl

/-- CHAN abandons an earlier one of its channel, whose reply falls due (R437). -/
theorem portsKept_chanSet (s : State) (p : Nat) (w : ChanWait) : PortsKept s (s.chanSet p w) := by
  have hf := frame_portsKept
  unfold State.chanSet
  extract_lets _ t u e _ _ v
  have ht : PortsKept s t := rfl
  have hu : PortsKept t u := hf.kept (kept_release _ _)
  have hv : PortsKept u v := rfl
  exact hf.trans (hf.trans (hf.trans ht hu) hv) rfl

/-! ## The network unit -/

/-- Nothing differs but the network unit and what belongs to the sessions. -/
def NetKept (s t : State) : Prop := s.unitsKept { t with net := s.net }

theorem frame_netKept : InsnFrame NetKept where
  kept {s t} h := by
    have g := congrArg (fun x : State => { x with net := s.net }) h
    exact g
  trans {s t u} h g := by
    have g1 := congrArg (fun x : State => { x with net := s.net }) g
    have h1 := congrArg (fun x : State => { x with moors := u.moors, ctl := u.ctl, queues := u.queues, sec := u.sec }) h
    exact Eq.trans g1 h1
  restored {s t} h := by
    have g := congrArg (fun x : State => { x with pending := s.pending, otp := s.otp, mem := s.mem }) h
    exact g

/-- The same, and the fades of the channels. -/
def NetFadesKept (s t : State) : Prop := s.unitsKept { t with net := s.net, ports := { t.ports with fades := s.ports.fades } }

theorem frame_netFadesKept : InsnFrame NetFadesKept where
  kept {s t} h := by
    have g := congrArg (fun x : State => { x with net := s.net, ports := { x.ports with fades := s.ports.fades } }) h
    exact g
  trans {s t u} h g := by
    have g1 := congrArg (fun x : State => { x with net := s.net, ports := { x.ports with fades := s.ports.fades } }) g
    have h1 := congrArg (fun x : State => { x with moors := u.moors, ctl := u.ctl, queues := u.queues, sec := u.sec }) h
    exact Eq.trans g1 h1
  restored {s t} h := by
    have g := congrArg (fun x : State => { x with pending := s.pending, otp := s.otp, mem := s.mem }) h
    exact g

/-! ## Effects on the network unit -/

theorem NetKept.ite {s t u : State} {c : Prop} [Decidable c] (ht : NetKept s t) (hu : NetKept s u) :
    NetKept s (if c then t else u) := by split <;> assumption

theorem netKept_setCtx (s : State) (n : Nat) (c : Ctx) : NetKept s (s.setCtx n c) := rfl

theorem netKept_sentLast (s : State) (b : Bool) (f : TxFrame) : NetKept s (s.sentLast b f) := by
  have hwait (l : List TxFrame) : NetKept s (s.setWaiting b l) := .ite rfl rfl
  have hsent : NetKept s (s.sent b f) := .ite rfl (.ite rfl rfl)
  exact .ite (hwait _) hsent

theorem netKept_igmpOn (s : State) (c : Ctx) (b leave : Bool) : NetKept s (s.igmpOn c b leave) := .ite rfl (netKept_sentLast _ _ _)

theorem netKept_igmp (s : State) (c : Ctx) : NetKept s (s.igmp c) :=
  frame_netKept.trans (netKept_igmpOn _ _ _ _) (netKept_igmpOn _ _ _ _)

theorem netKept_defineCtx (s : State) (n : Nat) (r : List W32) : NetKept s (s.defineCtx n r) := by
  unfold State.defineCtx
  split <;> exact netKept_setCtx _ _ _

theorem netKept_deleteCtx (s : State) (n : Nat) : NetKept s (s.deleteCtx n) := by
  unfold State.deleteCtx
  split
  · exact .ite (netKept_setCtx _ _ _) rfl
  · rfl

theorem netKept_stopCtx (s : State) (n : Nat) (cut : Bool) : NetKept s (s.stopCtx n cut) := by
  unfold State.stopCtx
  split
  · exact netKept_setCtx _ _ _
  · rfl

theorem netKept_sctlClear (s : State) (n : Nat) : NetKept s (s.sctlClear n) := by
  unfold State.sctlClear
  split
  · exact netKept_setCtx _ _ _
  · rfl

theorem netKept_sctlClears (s : State) (l : List Nat) : NetKept s (l.foldl State.sctlClear s) := by
  induction l generalizing s with
  | nil => rfl
  | cons n l ih => exact frame_netKept.trans (netKept_sctlClear s n) (ih _)

theorem netKept_alarmAsk (s : State) (p : Nat) (a : PendAlarm) : NetKept s (s.alarmAsk p a) :=
  .ite (frame_netKept.kept (kept_deferEdge _ _ _)) rfl

theorem NetKept.fades {s t : State} (h : NetKept s t) : NetFadesKept s t := by
  unfold NetKept State.unitsKept at h
  have hports : t.ports = s.ports := by
    have g := congrArg State.ports h
    exact g
  unfold NetFadesKept State.unitsKept
  rw [hports]
  have g := congrArg (fun x : State => { x with ports := s.ports }) h
  exact g

/-- A START sets up the fades of the channels that it receives (R383). -/
theorem netFadesKept_startCtx (s : State) (n k : Nat) : NetFadesKept s (s.startCtx n k) := by
  have hf := frame_netFadesKept
  unfold State.startCtx
  split
  · rfl
  · next c hc =>
    extract_lets p at_ next c0 c1 fades _
    split
    · exact (netKept_setCtx _ _ _).fades
    · have hfades : NetFadesKept s { s with ports := { s.ports with fades := fades } } := rfl
      exact hf.trans (hf.trans hfades (netKept_setCtx _ _ _).fades) (netKept_igmp _ _).fades

theorem netFadesKept_startAsk (s : State) (n k : Nat) : NetFadesKept s (s.startAsk n k) := by
  unfold State.startAsk
  split
  · split
    · exact (netKept_setCtx _ _ _).fades
    · exact netFadesKept_startCtx _ _ _
  · rfl

/-- Settles O30: each body keeps the frame of its unit, and so does the packet around it. -/
theorem portAndNetworkInstructionsKeepTheRest : Obligations.PortAndNetworkInstructionsKeepTheRest := by
  refine ⟨fun q c s t hc => ?ports, fun q c s t hc => ?net⟩
  case ports =>
    have hf := frame_portsKept
    revert c
    simp only [List.forall_mem_cons]
    refine ⟨?tdmgrp, ?tdmlane, ?aesrx, ?aestx, ?lim, ?chan, ?assign, ?release, ?txset, ?insrc, ?inopen, ?gain, ?out, ?set, ?read,
      List.forall_mem_nil _⟩
    case lim => exact hf.of_insn fun _ _ u => hf.of_checked (portsKept_limSet u _ _ _)
    case chan => exact hf.of_insn fun _ _ u => hf.of_checked (portsKept_chanSet u _ _)
    case release =>
      refine hf.of_insn fun _ _ u => hf.of_checked ?_
      apply PortsKept.addWait
      exact .ite rfl rfl
    case set => exact hf.of_insn fun _ _ u => hf.of_checked (PortsKept.ite rfl rfl)
    case tdmgrp | tdmlane | aesrx | aestx | assign | txset | insrc | inopen | gain | out | read =>
      exact hf.of_insn fun _ _ u => hf.of_checked rfl
  case net =>
    have hf := frame_netKept
    have hg := frame_netFadesKept
    revert c
    simp only [List.forall_mem_cons, reduceCtorEq, if_false, if_true]
    refine ⟨?define, ?delete, ?start, ?stop, ?status, ?bind, ?send, ?recv, ?filter, ?raise, ?clear, List.forall_mem_nil _⟩
    case start => exact hg.of_insn fun _ _ u => hg.of_checked (hg.trans (netFadesKept_startAsk u _ _) (hg.kept (kept_addWait _ _ _)))
    case define => exact hf.of_insn fun _ _ u => hf.of_checked (netKept_defineCtx u _ _)
    case delete => exact hf.of_insn fun _ _ u => hf.of_checked (netKept_deleteCtx u _)
    case stop => exact hf.of_insn fun _ _ u => hf.of_checked (hf.trans (netKept_stopCtx u _ _) (hf.kept (kept_addWait _ _ _)))
    case status => exact hf.of_insn fun _ _ u => hf.of_checked (netKept_sctlClears u _)
    case send => exact hf.of_insn fun _ _ u => hf.of_checked (netKept_sentLast u _ _)
    case raise | clear => exact hf.of_insn fun _ _ u => hf.of_checked (netKept_alarmAsk u _ _)
    case bind | recv | filter => exact hf.of_insn fun _ _ u => hf.of_checked rfl

end Sys2Proof.Machine
end

section
/-! SUPPORT. Proofs/Admission.lean: classes, moorings, and NOP and ECHO (R314, R67, R100, R328, R338, R344). -/

namespace Sys2Proof.Machine

/-! ## Classes and moorings -/

/-- A table that asks for the class first. -/
theorem firstErr_class {q : Req} {l : List Nat} {rest : List (Bool × Nat)} {n : Nat} (h : q.cls.val ∉ l) :
    firstErr (((!clsIn q l, eproto) :: rest).take (n + 1)) = some eproto := by
  simp [firstErr, clsIn, h]

/-- A table that asks for mooring 0 next. -/
theorem firstErr_mooring {q : Req} {l : List Nat} {rest : List (Bool × Nat)} {n : Nat} (hc : q.cls.val ∈ l) (hm : q.m ≠ 0) :
    firstErr (((!clsIn q l, eproto) :: (q.m != 0, eperm) :: rest).take (n + 2)) = some eperm := by
  simp [firstErr, clsIn, hc, hm]

theorem firstErr_mwrite {q : Req} (u : State) (h : q.cls.val ∉ [1, 2]) :
    firstErr ((errsMwrite q true u).take 4) = some eproto := by
  unfold errsMwrite
  split
  · exact firstErr_class h
  · exact firstErr_class h

theorem firstErr_gangway_class {q : Req} {l : List Nat} {bad : Bool} {u : State} (ho : u.owns q.m ownGangway 0 = true)
    (h : q.cls.val ∉ l) : firstErr ((errsGangway q l bad u).take 4) = some eproto := by
  simp [errsGangway, firstErr, clsIn, ho, h]

/-- Every row meets its condition of class first, those of GANGWAY behind their ownership. -/
theorem firstErr_of_class {c : Instr} {r : Row} (h : rowOf c = some r) (u : State) (hcls : r.q.cls.val ∉ classesOf c)
    (ho : r.op = 0x58 → u.owns r.q.m ownGangway 0 = true) : firstErr ((r.errs true u).take 4) = some eproto := by
  cases c <;> cases h
  case nop q | echo q | queryDevice q | queryFrame q | querySelf q | subscribe q | flush q | xptRead q | tparamReadActive q
      | tparamReadInactive q | timeGet q | alarmStatus q => exact absurd (mem_allClasses q.cls) hcls
  case mwrite => exact firstErr_mwrite u hcls
  case gangwayInsrc | gangwayInopen | gangwayGain | gangwayOut => exact firstErr_gangway_class (ho rfl) hcls
  all_goals exact firstErr_class hcls

/-- Settles O11: the class is the first condition of every table, but for the ownership of the gangway. -/
theorem classesAreChecked : Obligations.ClassesAreChecked := by
  intro c r s h ht hcls ho
  exact exec_fails_first h ht (firstErr_of_class h _ hcls (fun hop => (owns_enter _ _ _ _ _ _).trans (ho hop))) rfl

/-- The rows of mooring 0 ask for it behind their class. -/
theorem firstErr_of_mooring {c : Instr} {r : Row} (h : rowOf c = some r) (u : State) (honly : onlyM0 c = true)
    (hcls : r.q.cls.val ∈ classesOf c) (hm : r.q.m ≠ 0) : firstErr ((r.errs true u).take 4) = some eperm := by
  cases c <;> cases h
  case rate | timetable | xmodeMode | spareSet | spareHold | zoneBind | ntapSend | ntapRecv | ntapFilter | timeStep | timeFreq
      | ptpcfg | refselInput | refselMode | realign | portTdmgrp | portTdmlane | portAesrx | portAestx | memtestMarch
      | memtestStatus | scrubEnable | scrubStatus | power | clockGate | clockMclk | clockBand | resetEngine | keyLoad | keyErase
      | keySignkey | lifecycle => exact firstErr_mooring hcls hm
  all_goals cases honly

/-- Settles O12: the mooring is the condition behind the class. -/
theorem onlyM0IsAdmitted : Obligations.OnlyM0IsAdmitted := by
  intro c r s h ht honly hcls hm
  exact exec_fails_first h ht (firstErr_of_mooring h _ honly hcls hm) rfl

/-! ## NOP and ECHO -/

theorem executes_basic {s : State} {op : Nat} {q : Req} (hs : s.serves op q = true) (hop : op ∈ [0x00, 0x01, 0x02, 0x09]) :
    s.executes op = true := by
  have hrun : s.commands = true := (Bool.and_eq_true_iff.mp hs).1
  unfold State.commands at hrun
  unfold State.executes
  split at hrun
  · rfl
  · simpa [or_assoc] using hop
  · cases hrun

theorem modSel_zero {mod : W16} (h : mod ≠ 0) : modSel 0x00 mod = none ∧ modSel 0x01 mod = none := by
  have hn : mod.toNat ≠ 0 := fun h0 => h (BitVec.eq_of_toNat_eq h0)
  exact ⟨if_neg hn, if_neg hn⟩

/-- Settles O15: both change only their packet, and a modifier other than 0 selects nothing. -/
theorem nopAndEcho : Obligations.NopAndEcho := by
  refine ⟨?nop, ?echo, ?long, ?reserved, ?kept⟩
  case nop =>
    intro q s ht hlen hr
    refine insn_accepted (errs := fun _ => errsNop q true) ⟨ht, hr, ?_⟩ rfl rfl
    simp [errsNop, firstErr, Nat.not_lt.mpr hlen]
  case echo =>
    intro q s ht hlen hr
    refine insn_succeeds (errs := fun _ => errsEcho q true) ⟨ht, ?_, ?_⟩ hr rfl rfl
    · exact room_mono hr (Nat.zero_le _)
    · simp [errsEcho, firstErr, Nat.not_lt.mpr hlen]
  case long =>
    intro q s ht hlen
    have he : firstErr (errsEcho q true) = some erange := by simp [errsEcho, firstErr, hlen]
    exact (exec_fails (c := .echo q) rfl ht (fun h => nomatch h.1) he).trans (by rw [failure_erange])
  case reserved =>
    intro q s ⟨h0, h1⟩ hmod
    obtain ⟨hm0, hm1⟩ := modSel_zero hmod
    have hnop := exec_reserved (c := .nop q) rfl h0 (executes_basic h0 (by simp)) hm0 rfl (.inr rfl)
    have hecho := exec_reserved (c := .echo q) rfl h1 (executes_basic h1 (by simp)) hm1 rfl (.inr rfl)
    exact ⟨hnop, hecho⟩
  case kept =>
    have hf := frame_unitsKept
    rintro q s t (h | h)
    · exact hf.of_insn (fun _ _ u => hf.of_checked (.refl u)) h
    · exact hf.of_insn (fun _ _ u => hf.of_checked (.refl u)) h

end Sys2Proof.Machine
end

section
/-! SUPPORT. Proofs/ReservedOpcodes.lean: a packet ends at a reserved opcode (R315), behind a packet of a lower class (R292). -/

namespace Sys2Proof.Machine

/-- At a boundary the running packet is judged once, where no packet of a lower class goes first. -/
def State.judged (s : State) : State := if s.nextPacket.isSome then s else s.closeReserved

/-- A boundary judges as many packets as the stack holds. -/
theorem boundary_eq_foldl (s : State) : s.boundary = (List.range s.ctl.stack.length).foldl (fun t _ => t.judged) s := rfl

/-- The first packet is judged before the others. -/
theorem foldl_judged_succ (s : State) (n : Nat) :
    (List.range (n + 1)).foldl (fun t _ => t.judged) s = (List.range n).foldl (fun t _ => t.judged) s.judged := by
  rw [List.range_succ_eq_map, List.foldl_cons, List.foldl_map]

/-- A packet of a lower class goes first (R292). -/
theorem boundary_of_nextPacket {s : State} (h : s.nextPacket.isSome = true) : s.boundary = s := by
  have hfixed : s.judged = s := if_pos h
  rw [boundary_eq_foldl]
  induction List.range s.ctl.stack.length with
  | nil => rfl
  | cons k ks ih => rwa [List.foldl_cons, hfixed]

theorem stack_completePacket {s : State} {p : Pkt} {rest : List Pkt} (h : s.ctl.stack = p :: rest) :
    s.completePacket.ctl.stack = rest := by
  unfold State.completePacket
  rw [h]
  exact stack_flushDue _

theorem closeReserved_reserved {s : State} {p : Pkt} {i : Insn} {rest : List Pkt} {more : List Insn}
    (hstack : s.ctl.stack = p :: rest) (hinsns : p.insns = i :: more) (hop : opListed i.op = false) :
    s.closeReserved = State.completePacket { s with ctl := { s.ctl with stack :=
      { p with recs := p.recs ++ [{ op := i.op, status := eopcode, payload := [] }], insns := more } :: rest } } := by
  unfold State.closeReserved
  simp only [hstack, hinsns, hop, Bool.false_eq_true, if_false]

/-- The state with other packets in execution. -/
def State.withStack (s : State) (l : List Pkt) : State := { s with ctl := { s.ctl with stack := l } }

/-- At a boundary the running packet ends at a reserved opcode, and the packet that resumes is judged in turn. -/
theorem boundary_reserved {s : State} {p : Pkt} {i : Insn} {rest : List Pkt} {more : List Insn}
    (hnext : s.nextPacket = none) (hstack : s.ctl.stack = p :: rest) (hinsns : p.insns = i :: more)
    (hop : opListed i.op = false) :
    s.boundary = s.endsWith p rest [{ op := i.op, status := eopcode, payload := [] }] more := by
  have hjudged : s.judged = s.closeReserved := if_neg (by rw [hnext]; exact Bool.false_ne_true)
  unfold State.endsWith
  rw [boundary_eq_foldl, hstack, List.length_cons, foldl_judged_succ, hjudged,
    closeReserved_reserved hstack hinsns hop, boundary_eq_foldl, stack_completePacket rfl]

/-- What is dequeued next does not depend on the records and instructions of the running packet. -/
theorem nextPacket_withStack {s : State} {p p1 : Pkt} {rest : List Pkt} (hstack : s.ctl.stack = p :: rest)
    (hm : p1.m = p.m) (hcls : p1.cls = p.cls) (hstamp : p1.stamp = p.stamp) :
    (s.withStack (p1 :: rest)).nextPacket = s.nextPacket := by
  have hready (m : Fin 8) (c : Nat) : (s.withStack (p1 :: rest)).headReady m c = s.headReady m c := by
    unfold State.headReady State.withStack
    simp only [hstack, List.any_cons, hm, hstamp]
    rfl
  unfold State.nextPacket
  simp only [hready]
  simp only [State.withStack, hstack, hcls]

/-- A record of success in front of a reserved opcode ends the packet (R315). -/
theorem record_reserved {s : State} {r : Rec} {p : Pkt} {i j : Insn} {rest : List Pkt} {more : List Insn}
    (hok : r.status = stOk ∨ r.status = stPending) (hstack : s.ctl.stack = p :: rest) (hinsns : p.insns = i :: j :: more)
    (hop : opListed j.op = false) (hnext : s.nextPacket = none) :
    s.record r = s.endsWith p rest [r, { op := j.op, status := eopcode, payload := [] }] more := by
  have hon : ((r.status == stOk || r.status == stPending) && !p.insns.tail.isEmpty) = true := by
    rw [hinsns]
    simpa using hok
  let p1 : Pkt := { p with recs := p.recs ++ [r], insns := p.insns.tail }
  have hnext1 : (s.withStack (p1 :: rest)).nextPacket = none := (nextPacket_withStack hstack rfl rfl rfl).trans hnext
  calc s.record r
    _ = (s.withStack (p1 :: rest)).boundary := by
      unfold State.record
      rw [hstack]
      exact congrArg State.boundary (if_pos hon)
    _ = (s.withStack (p1 :: rest)).endsWith p1 rest [{ op := j.op, status := eopcode, payload := [] }] more :=
      boundary_reserved hnext1 rfl (congrArg List.tail hinsns) hop
    _ = s.endsWith p rest [r, { op := j.op, status := eopcode, payload := [] }] more := by
      unfold State.endsWith
      simp only [p1, List.append_assoc, List.singleton_append]
      rfl

/-- Settles O14: a boundary judges the running packet once for each packet it ends; logs 2, 115. -/
theorem reservedOpcodesFail : Obligations.ReservedOpcodesFail := by
  refine ⟨?first, ?later, ?nop, fun s p i rest more hstack hinsns hop => closeReserved_reserved hstack hinsns hop⟩
  case first =>
    intro m c l p i rest more s u hw hrun hnext hstack hinsns hop
    rw [exec_packetStart hw, packetStart_next hrun hnext]
    exact ⟨fun hnone => congrArg (doneMem s) (boundary_reserved hnone hstack hinsns hop),
      fun hsome => congrArg (doneMem s) (boundary_of_nextPacket hsome)⟩
  case later =>
    intro c op st pl p i j rest more s t hexec hok hstack hinsns hop hnext
    rw [hexec]
    exact congrArg (done s) (record_reserved hok hstack hinsns hop hnext)
  case nop =>
    intro q p j rest more s hc hnext hstack hinsns hop
    obtain ⟨⟨hserves, -, -⟩, -, -⟩ := id hc
    have henter : s.enter 0x00 q = s := if_pos hnext
    have hnone : s.nextPacket = none := by
      unfold State.serves at hserves
      simpa [hnext] using (Bool.and_eq_true_iff.mp hserves).2
    obtain ⟨i, hi⟩ : ∃ i, p.insns = i :: j :: more := by
      cases hp : p.insns with
      | nil => rw [hp] at hinsns; cases hinsns
      | cons i l => rw [hp] at hinsns; exact ⟨i, congrArg (i :: ·) hinsns⟩
    have hnop : exec (.nop q) s = s.accepts 0x00 s := by
      rw [← congrArg (s.accepts 0x00) henter]
      exact insn_accepted hc rfl rfl
    rw [hnop]
    exact congrArg (done s) (record_reserved (.inl rfl) hstack hi hop hnone)

end Sys2Proof.Machine
end

section
/-! SUPPORT. Proofs/CommandInstructions.lean: the instructions of the command set in order, MREAD, MWRITE and MFILL apart
(R294, R308, R328 to R354). -/

namespace Sys2Proof.Machine

/-- Settles O16: each body by its own effect. -/
theorem basicInstructions : Obligations.BasicInstructions := by
  refine ⟨?nop, ?echo, ?device, ?frame, ?self, ?rate, ?subscribe, ?flush⟩
  case nop => exact fun q s hc => insn_accepted hc rfl rfl
  case echo => exact fun q s hc hr => insn_succeeds hc hr rfl rfl
  case device => exact fun q s hc hr => insn_succeeds hc hr rfl rfl
  case frame => exact fun q s hc hr => insn_succeeds hc hr rfl rfl
  case self => exact fun q s hc hr => insn_succeeds hc hr rfl rfl
  case rate =>
    intro q s u p hc
    refine insn_accepted hc (congrArg (checked _ _) (funext fun _ => ?_)) (stack_ite _ _ _ _ rfl (stack_rateAccept _ _ _))
    exact (apply_ite Res.ok _ _ _).symm
  case subscribe => exact fun q s hc => insn_accepted hc rfl rfl
  case flush => exact fun q s hc => insn_accepted hc rfl (stack_flushQueues _ _ _ _)

/-- Settles O22: each body by its own effect; the effects leave the packets in execution. -/
theorem streamZoneAndAlarmInstructions : Obligations.StreamZoneAndAlarmInstructions := by
  refine ⟨?define, ?delete, ?readDefined, ?readFree, ?start, ?stop, ?status, ?bind, ?claim, ?release,
    ?zoneRead, ?raise, ?clear, ?alarms⟩
  case define => exact fun q s hc => insn_accepted hc rfl (stack_defineCtx _ _ _)
  case delete => exact fun q s hc => insn_accepted hc rfl (stack_deleteCtx _ _)
  case readDefined =>
    intro q s c u hc hdef hr
    refine insn_succeeds hc hr (congrArg (checked _ _) (funext fun _ => ?_)) rfl
    rw [hdef]
  case readFree =>
    intro q s u hc hnone hr
    refine insn_succeeds hc hr (congrArg (checked _ _) (funext fun _ => ?_)) rfl
    rw [hnone]
  case start => exact fun q s hc hr => insn_succeeds hc hr rfl ((stack_addWait _ _ _).trans (stack_startAsk _ _ _))
  case stop => exact fun q s hc => insn_accepted hc rfl ((stack_addWait _ _ _).trans (stack_stopCtx _ _ _))
  case status => exact fun q s hc hr => insn_succeeds hc hr rfl (stack_foldl _ (fun _ _ => stack_sctlClear _ _) _ _)
  case bind => exact fun q s hc => insn_accepted hc rfl (stack_zoneBindTo _ _ _ _ _)
  case claim => exact fun q s hc => insn_defers hc rfl
  case release => exact fun q s hc => insn_defers hc rfl
  case zoneRead => exact fun q s hc hr => insn_succeeds hc hr rfl rfl
  case raise => exact fun q s hc => insn_accepted hc rfl (stack_alarmAsk _ _ _)
  case clear => exact fun q s hc => insn_accepted hc rfl (stack_alarmAsk _ _ _)
  case alarms => exact fun q s hc hr => insn_succeeds hc hr rfl rfl

/-- Settles O23: each body by its own effect; the effects leave the packets in execution. -/
theorem timeAndReferenceInstructions : Obligations.TimeAndReferenceInstructions := by
  refine ⟨?send, ?recv, ?filter, ?get, ?step, ?freq, ?ptpcfg, ?input, ?mode, ?status, ?realign⟩
  case send => exact fun q s hc => insn_accepted hc rfl (stack_sentLast _ _ _)
  case recv => exact fun q s hc hr => insn_succeeds hc hr rfl rfl
  case filter => exact fun q s hc => insn_accepted hc rfl rfl
  case get => exact fun q s hc hr => insn_succeeds hc hr rfl rfl
  case step => exact fun q s hc => insn_accepted hc rfl (stack_stepTime _ _ _ _)
  case freq => exact fun q s hc => insn_accepted hc rfl (stack_setFreq _ _)
  case ptpcfg => exact fun q s hc => insn_accepted hc rfl (stack_ptpSet _ _)
  case input => exact fun q s hc => insn_accepted hc rfl (stack_refCommand _ _)
  case mode => exact fun q s hc => insn_accepted hc rfl (stack_refCommand _ _)
  case status => exact fun q s hc hr => insn_succeeds hc hr rfl rfl
  case realign => exact fun q s hc => insn_accepted hc rfl (stack_addRealign _ _)

/-- Settles O24: each body by its own effect; the effects leave the packets in execution. -/
theorem portGangwayAndMeterInstructions : Obligations.PortGangwayAndMeterInstructions := by
  refine ⟨?tdmgrp, ?tdmlane, ?aesrx, ?aestx, ?lim, ?chan, ?assign, ?release, ?asrcStatus, ?txset, ?rxread, ?insrc, ?inopen, ?gain,
    ?out, ?set, ?read, ?notify⟩
  case tdmgrp => exact fun q s hc => insn_accepted hc rfl (stack_setGrp _ _ _)
  case tdmlane => exact fun q s hc => insn_accepted hc rfl rfl
  case aesrx => exact fun q s hc => insn_accepted hc rfl (stack_setRx _ _ _)
  case aestx => exact fun q s hc => insn_accepted hc rfl rfl
  case lim => exact fun q s hc => insn_accepted hc rfl (stack_limSet _ _ _ _)
  case chan => exact fun q s hc => insn_accepted hc rfl (stack_chanSet _ _ _)
  case assign => exact fun q s hc => insn_accepted hc rfl rfl
  case release => exact fun q s hc => insn_accepted hc rfl ((stack_addWait _ _ _).trans (stack_ite _ _ _ _ rfl rfl))
  case asrcStatus => exact fun q s hc hr => insn_succeeds hc hr rfl rfl
  case txset => exact fun q s hc => insn_accepted hc rfl (stack_txSet _ _ _ _ _)
  case rxread => exact fun q s hc hr => insn_succeeds hc hr rfl rfl
  case insrc => exact fun q s hc => insn_accepted hc rfl rfl
  case inopen => exact fun q s hc => insn_accepted hc rfl rfl
  case gain => exact fun q s hc => insn_accepted hc rfl rfl
  case out => exact fun q s hc => insn_accepted hc rfl rfl
  case set => exact fun q s hc => insn_accepted hc rfl (stack_meterPut _ _ _ _ _)
  case read => exact fun q s hc hr => insn_succeeds hc hr rfl (stack_clearPeaks _ _ _ _)
  case notify => exact fun q s hc => insn_accepted hc rfl rfl

/-! ## MEMTEST, SCRUB, POWER, CLOCK, RESET, KEY and LIFECYCLE -/

@[simp] theorem stack_slotSet (s : State) (k : Nat) (h : List Byte) : (s.slotSet k h).ctl.stack = s.ctl.stack :=
  stack_wroteAll _ _

/-- RESET MOORING of another mooring leaves the packet it stands in (R335). -/
theorem resetMooring_other {q : Req} {s : State} (hc : s.clear 0x72 0 q (fun _ => errsResetMooring q true))
    (hm : moorOf (opf q 1 2 0) ≠ q.m) :
    exec (.resetMooring q) s = s.accepts 0x72 ((s.enter 0x72 q).mooringReset (moorOf (opf q 1 2 0))) := by
  obtain ⟨p, r, hstack, -, hid, hpm⟩ := packet_some s 0x72 q
  refine congrArg (done s) (runInsn_accepted hc rfl ?_)
  rw [hid]
  exact head_mooringReset _ _ p r hstack (hpm ▸ hm.symm)

/-- A mooring that resets itself gets no reply (R335). -/
theorem resetMooring_own {q : Req} {s : State} (hc : s.clear 0x72 0 q (fun _ => errsResetMooring q true))
    (hm : moorOf (opf q 1 2 0) = q.m) (hids : ∀ x ∈ (s.enter 0x72 q).ctl.stack, x.m ≠ q.m → x.id ≠ s.packetId 0x72 q) :
    exec (.resetMooring q) s = done s ((s.enter 0x72 q).mooringReset q.m) := by
  refine congrArg (done s) (runInsn_ended hc (congrArg (checked _ _) (funext fun _ => by rw [hm])) fun x hx => ?_)
  have hmem := List.mem_map_of_mem (f := fun x : Pkt => (x.id, x.m)) hx
  rw [samePackets_mooringReset] at hmem
  obtain ⟨y, hy, hyx⟩ := List.mem_map.mp hmem
  obtain ⟨hin, hother⟩ := List.mem_filter.mp hy
  have hid : y.id = x.id := congrArg Prod.fst hyx
  exact hid ▸ hids y hin (by simpa using hother)

theorem resetEngine_accepts {q : Req} {s : State} (hc : s.clear 0x72 1 q (fun _ => errsResetEngine q true)) :
    exec (.resetEngine q) s = s.accepts 0x72 ((s.enter 0x72 q).engineAsk (s.packetId 0x72 q)) := by
  obtain ⟨p, r, hstack, -, hid, -⟩ := packet_some s 0x72 q
  refine congrArg (done s) (runInsn_accepted hc rfl ?_)
  rw [head_engineAsk _ _ p r hstack, hid]

/-- Settles O25: each body by its own effect; a mooring that resets itself loses the packet and gets no record. -/
theorem systemInstructions : Obligations.SystemInstructions := by
  refine ⟨?march, ?marchStatus, ?scrub, ?scrubStatus, ?power, ?gate, ?mclk, ?band, ?resetOther, ?resetOwn, ?engine, ?load, ?erase,
    ?signkey, ?lifecycle⟩
  case march =>
    intro q s u hc
    have ⟨_, hroom, _⟩ := hc
    exact congrArg (done s) (runInsn_acts_clear hc hroom rfl (head_of_stack (stack_marchStart _ _ _)))
  case marchStatus => exact fun q s hc hr => insn_succeeds hc hr rfl rfl
  case scrub => exact fun q s hc => insn_accepted hc rfl rfl
  case scrubStatus => exact fun q s hc hr => insn_succeeds hc hr rfl rfl
  case power => exact fun q s hc => congrArg (doneMem s) (runInsn_accepted hc rfl (head_of_stack (stack_powerTo _ _ _ _)))
  case gate => exact fun q s hc => insn_accepted hc rfl (stack_gateSet _ _ _ _ _)
  case mclk => exact fun q s hc => insn_accepted hc rfl (stack_mclkSet _ _ _ _ _)
  case band => exact fun q s hc => insn_accepted hc rfl (stack_bandSet _ _ _)
  case resetOther => exact fun q s hc hm => resetMooring_other hc hm
  case resetOwn => exact fun q s hc ⟨hm, hids⟩ => resetMooring_own hc hm hids
  case engine => exact fun q s hc => resetEngine_accepts hc
  case load => exact fun q s hc => insn_accepted hc rfl (stack_keySet _ _ _ _)
  case erase => exact fun q s hc => insn_accepted hc rfl (stack_keySet _ _ _ _)
  case signkey => exact fun q s hc => insn_accepted hc rfl (stack_slotSet _ _ _)
  case lifecycle => exact fun q s hc => insn_accepted hc rfl (stack_lcStart _ _ _)

end Sys2Proof.Machine
end

section
/-! SUPPORT. Proofs/MemoryInstructions.lean: MREAD, MWRITE and MFILL: regions and banks, words read and stored
(R323, R325 to R327, R475, R562). -/

namespace Sys2Proof.Machine

/-! ## Regions -/

/-- A branch of another value is not the one taken. -/
theorem eq_of_ite_eq {α : Type} {x y z : α} {c : Prop} [Decidable c] (hne : x ≠ z) (h : (if c then x else y) = z) : y = z := by
  split at h
  · exact absurd h hne
  · exact h

section
variable {s : State} {a b n : Nat}

theorem region_windowZ : s.region a = .windowZ ↔ a < 0x40000 := by
  refine ⟨fun h => Decidable.byContradiction fun hz => ?_, fun h => if_pos h⟩
  rw [State.region, if_neg hz] at h
  iterate 12 replace h := eq_of_ite_eq (by decide) h
  cases h

theorem bootRom_of_region (h : s.region a = .bootRom) : 0x10000000 ≤ a ∧ a < 0x10040000 := by
  refine Decidable.byContradiction fun hrom => ?_
  have hrest := eq_of_ite_eq (by decide) h
  rw [if_neg hrom] at hrest
  iterate 11 replace hrest := eq_of_ite_eq (by decide) hrest
  cases hrest

theorem dram_of_region (h : s.region a = .dram) : dramBase ≤ a ∧ a < dramBase + s.dramSpan := by
  refine Decidable.byContradiction fun hdram => ?_
  rw [State.region] at h
  iterate 12 replace h := eq_of_ite_eq (by decide) h
  rw [if_neg hdram] at h
  cases h

theorem region_dram (h : dramBase ≤ a ∧ a < dramBase + s.dramSpan) : s.region a = .dram := by
  have hbase : 0x100000000 ≤ a := h.1
  unfold State.region
  iterate 12 rw [if_neg (by omega)]
  exact if_pos h

/-- Below CTL SRAM lie window Z, the boot ROM and holes (R475). -/
theorem region_below (h : a < 0x20000000) : s.region a = .windowZ ∨ s.region a = .bootRom ∨ s.region a = .hole := by
  by_cases hz : a < 0x40000
  · exact .inl (if_pos hz)
  by_cases hrom : 0x10000000 ≤ a ∧ a < 0x10040000
  · exact .inr (.inl ((if_neg hz).trans (if_pos hrom)))
  unfold State.region dramBase
  iterate 13 rw [if_neg (by omega)]
  exact .inr (.inr rfl)

theorem bank0_of_bankOf (h : bankOf a = some 0) : 0x20000000 ≤ a ∧ a < 0x20200000 := by
  refine Decidable.byContradiction fun hctl => ?_
  rw [bankOf, if_neg hctl] at h
  iterate 7 replace h := eq_of_ite_eq (by decide) h
  have hcore : some (8 + (a - 0x70000000) / 0x100000) ≠ some 0 := by simp
  cases eq_of_ite_eq hcore h

theorem range_of_badRange (h : s.badRange a n = false) : s.region a ≠ .hole ∧ s.region a = s.region (a + 4 * (n - 1)) := by
  simp only [State.badRange, Bool.or_eq_false_iff, beq_eq_false_iff_ne, bne_eq_false_iff_eq] at h
  exact ⟨h.1.2, h.2⟩

/-- The words of a good access that does not begin in CTL SRAM, nor in window Z, lie outside CTL SRAM (R326). -/
theorem bankOf_of_badRange {i : Nat} (h : s.badRange a n = false) (hz : 0x40000 ≤ a) (hbank : bankOf a ≠ some 0) (hi : i < n) :
    bankOf (a + 4 * i) ≠ some 0 := by
  intro hin
  have hrange := bank0_of_bankOf hin
  obtain ⟨hhole, hsame⟩ := range_of_badRange h
  have hbelow : a < 0x20000000 := Decidable.byContradiction fun hge => hbank (if_pos (by omega))
  obtain hwin | hrom | hno := region_below (s := s) hbelow
  · have := region_windowZ.mp hwin
    omega
  · have := bootRom_of_region (hsame.symm.trans hrom)
    omega
  · exact hhole hno

end

/-! ## Words read -/
section
variable {s : State} {a n : Nat}

/-- A read leaves the packets, whether it delivers a word or not. -/
def ReadKeepsStack (s : State) (x : Option W32 × State) : Prop := x.2.ctl.stack = s.ctl.stack

theorem readKeepsStack_ite {x y : Option W32 × State} {c : Prop} [Decidable c] (hx : ReadKeepsStack s x) (hy : ReadKeepsStack s y) :
    ReadKeepsStack s (if c then x else y) := by split <;> assumption

theorem readKeepsStack_readReg (k : Nat) : ReadKeepsStack s (some (s.readReg k).1, (s.readReg k).2) := stack_readReg s k

/-- A read outside CTL SRAM leaves the packets, also where its word is uncorrectable (R323, R487). -/
theorem readKeepsStack_readWord (h : bankOf (s.remapped a) ≠ some 0) : ReadKeepsStack s (s.readWord a) := by
  unfold State.readWord
  simp only []
  generalize s.remapped a = b at h
  generalize s.region b = r
  cases r
  case periph => exact readKeepsStack_readReg _
  case dram => exact readKeepsStack_ite (stack_dramScan _ _ _ _) (stack_dramScan _ _ _ _)
  all_goals
    simp only []
    cases hk : bankOf b with
    | none => rfl
    | some k =>
      have hk0 : k ≠ 0 := fun h0 => h (hk.trans (congrArg some h0))
      have hbad : (if k = 0 then (s.fixSingles b 4).ctlReadFault b else (s.fixSingles b 4).ueRecord b).ctl.stack = s.ctl.stack := by
        rw [if_neg hk0, stack_ueRecord, stack_fixSingles]
      exact readKeepsStack_ite rfl (readKeepsStack_ite hbad (stack_fixSingles _ _ _))

theorem stack_readWords_outside (h : ∀ i < n, 0x40000 ≤ a + 4 * i ∧ bankOf (a + 4 * i) ≠ some 0) :
    (State.readWords n a s).2.2.ctl.stack = s.ctl.stack := by
  induction n generalizing s a with
  | zero => rfl
  | succ n ih =>
    obtain ⟨hz, hbank⟩ := h 0 (Nat.succ_pos n)
    have hmap : s.remapped a = a := if_neg (Nat.not_lt.mpr hz)
    have hfirst : (s.readWord a).2.ctl.stack = s.ctl.stack := readKeepsStack_readWord (hmap.symm ▸ hbank)
    have hrest (i : Nat) (hi : i < n) : 0x40000 ≤ a + 4 + 4 * i ∧ bankOf (a + 4 + 4 * i) ≠ some 0 := by
      have := h (i + 1) (Nat.succ_lt_succ hi)
      rwa [Nat.mul_succ, Nat.add_comm (4 * i), ← Nat.add_assoc] at this
    unfold State.readWords
    simp only []
    split
    · exact hfirst
    · exact (ih hrest).trans hfirst

/-- Window Z over the boot ROM reads without an error (R475). -/
theorem readWords_rom (hremap : s.on F.FAB_CTRL_REMAP = false) (h : ∀ i < n, a + 4 * i < 0x40000) :
    (State.readWords n a s).2 = (true, s) := by
  induction n generalizing a with
  | zero => rfl
  | succ n ih =>
    have hz : a < 0x40000 := h 0 (Nat.succ_pos n)
    have hmap : s.remapped a = 0x10000000 + a := by
      rw [State.remapped, if_pos hz, hremap]
      rfl
    have hregion : s.region (0x10000000 + a) = .bootRom := (if_neg (by omega)).trans (if_pos (by omega))
    have hbank : bankOf (0x10000000 + a) = none := by
      unfold bankOf
      iterate 9 rw [if_neg (by omega)]
    have hword : s.readWord a = (some (s.rawWord (0x10000000 + a)), s) := by
      unfold State.readWord
      simp only [hmap, hregion, hbank]
    unfold State.readWords
    rw [hword]
    exact ih fun i hi => by have := h (i + 1) (Nat.succ_lt_succ hi); omega

/-- Words of DRAM without error marks read as they stand (R517). -/
theorem readWords_dram (hm : s.marks = []) (h : ∀ i < n, s.region (a + 4 * i) = .dram) :
    State.readWords n a s = ((List.range n).map (fun i => s.word (a + 4 * i)), true, s) := by
  induction n generalizing a with
  | zero => rfl
  | succ n ih =>
    have hregion : s.region a = .dram := h 0 (Nat.succ_pos n)
    have hbase : 0x100000000 ≤ a := (dram_of_region hregion).1
    have hmap : s.remapped a = a := if_neg (by omega)
    have hscan : s.dramScan a 4 4 = s := if_pos (List.isEmpty_iff.mpr hm)
    have hgood : s.bad a 4 = false := by rw [State.bad, badIn_markless hm]; rfl
    have hword : s.readWord a = (some (s.word a), s) := by
      unfold State.readWord
      simp only [hmap, hregion, hscan, hgood, Bool.false_eq_true, if_false]
    have hrest (i : Nat) : a + 4 + 4 * i = a + 4 * (i + 1) := by omega
    have htail := ih (a := a + 4) fun i hi => (hrest i).symm ▸ h (i + 1) (Nat.succ_lt_succ hi)
    unfold State.readWords
    simp only [hword, htail, hrest, List.range_succ_eq_map, List.map_cons, List.map_map, Function.comp_def, Nat.mul_zero, Nat.add_zero]

end

/-! ## MREAD -/

theorem badRange_mread {q : Req} {s : State} (h : firstErr (errsMread q true s) = none) :
    s.badRange (opAddr q) (opf q 2 29 16 + 1) = false := by
  have hrange := firstErr_none h
    (!shape true q 2 || extra q 2 0x3FFF00FF || s.badRange (opAddr q) (opf q 2 29 16 + 1), erange) (by simp [errsMread])
  exact (Bool.or_eq_false_iff.mp hrange).2

theorem mread_returns {q : Req} {s : State} (hc : s.clear 0x08 0 q (errsMread q true))
    (hgood : (State.readWords (opf q 2 29 16 + 1) (opAddr q) (s.enter 0x08 q)).2.1 = true)
    (hr : s.room 0x08 q (State.readWords (opf q 2 29 16 + 1) (opAddr q) (s.enter 0x08 q)).1.length) :
    exec (.mread q) s = s.answer 0x08 stOk (State.readWords (opf q 2 29 16 + 1) (opAddr q) (s.enter 0x08 q)).1
      (State.readWords (opf q 2 29 16 + 1) (opAddr q) (s.enter 0x08 q)).2.2 :=
  insn_succeeds hc hr (congrArg (checked _ _) (funext fun _ => if_pos hgood)) (stack_readWords _ _ _ hgood)

/-- A failed read of a good access outside CTL SRAM leaves the packets. -/
theorem stack_readWords_failed {s : State} {a n : Nat} (hrange : s.badRange a n = false)
    (hbad : (State.readWords n a s).2.1 = false) (hbank : bankOf (s.remapped a) ≠ some 0) :
    (State.readWords n a s).2.2.ctl.stack = s.ctl.stack := by
  by_cases hz : a < 0x40000
  · have hremap : s.on F.FAB_CTRL_REMAP = false := by
      refine Bool.eq_false_iff.mpr fun hon => hbank ?_
      rw [State.remapped, if_pos hz, if_pos hon]
      exact if_pos (by omega)
    have hlast := region_windowZ.mp ((range_of_badRange hrange).2.symm.trans (region_windowZ.mpr hz))
    rw [readWords_rom hremap fun i hi => by omega] at hbad
    cases hbad
  · rw [State.remapped, if_neg hz] at hbank
    exact stack_readWords_outside fun i hi => ⟨by omega, bankOf_of_badRange hrange (Nat.not_lt.mp hz) hbank hi⟩

/-- An MREAD that meets an uncorrectable word outside CTL SRAM brings out the words before it (R323). -/
theorem mread_faults {q : Req} {s : State} (hc : s.clear 0x08 0 q (errsMread q true))
    (hbad : (State.readWords (opf q 2 29 16 + 1) (opAddr q) (s.enter 0x08 q)).2.1 = false)
    (hbank : bankOf ((s.enter 0x08 q).remapped (opAddr q)) ≠ some 0) (hr : s.room 0x08 q (opf q 2 29 16 + 1)) :
    exec (.mread q) s = s.answer 0x08 efault (State.readWords (opf q 2 29 16 + 1) (opAddr q) (s.enter 0x08 q)).1
      (State.readWords (opf q 2 29 16 + 1) (opAddr q) (s.enter 0x08 q)).2.2 := by
  have ⟨_, _, herr⟩ := hc
  exact congrArg (done s) (runInsn_acts_clear hc hr
    (congrArg (checked _ _) (funext fun _ => if_neg (ne_true_of_eq_false hbad)))
    (head_of_stack (stack_readWords_failed (badRange_mread herr) hbad hbank)))

/-! ## MWRITE and MFILL -/

theorem writeAct_regs {s : State} {a : Nat} (ws : List W32) (h : s.region a = .periph) :
    writeAct a ws s = Res.ok (s.writeRegs (a - periphBase) ws) := if_pos h

theorem writeAct_dram {s : State} {a : Nat} {ws : List W32} (h : s.region a ≠ .periph) (hmerge : s.badMerge a ws.length = none) :
    writeAct a ws s = Res.ok (s.writeDram a ws) := by
  unfold writeAct
  rw [if_neg h, hmerge]

/-- What keeps a packet of mooring 0 at the front keeps that of the instruction there (R288). -/
theorem head_of_sameFront {s t : State} {op : Nat} {q : Req} (hm : q.m = 0) (h : SameFront (s.enter op q) t) :
    t.ctl.stack.head?.map (·.id) = some (s.packetId op q) := by
  obtain ⟨p, r, hstack, -, hid, hpm⟩ := packet_some s op q
  have hfront := h p.id (by rw [hstack, List.head?_cons, Option.map_some, hpm, hm])
  rw [hid]
  simpa using congrArg (Option.map Prod.fst) hfront

/-- MWRITE in order, by what it does. -/
theorem mwrite_accepts {q : Req} {s t : State} (hc : s.clear 0x09 0 q (errsMwrite q true))
    (hact : (if (s.enter 0x09 q).ctl.run = .loader then loaderWrite q (s.enter 0x09 q)
      else writeAct (opAddr q) (q.ops.drop 2) (s.enter 0x09 q)) = Res.ok t)
    (hs : t.ctl.stack.head?.map (·.id) = some (s.packetId 0x09 q)) :
    exec (.mwrite q) s = s.answerMem 0x09 stOk [] t :=
  congrArg (doneMem s) (runInsn_accepted hc (congrArg (checked _ _) (funext fun _ => hact)) hs)

theorem mwrite_dram {q : Req} {s : State} (hc : s.clear 0x09 0 q (errsMwrite q true)) (hrun : (s.enter 0x09 q).ctl.run = .firmware)
    (hregion : (s.enter 0x09 q).region (opAddr q) ≠ .periph)
    (hmerge : (s.enter 0x09 q).badMerge (opAddr q) (q.ops.drop 2).length = none) :
    exec (.mwrite q) s = s.answerMem 0x09 stOk [] ((s.enter 0x09 q).writeDram (opAddr q) (q.ops.drop 2)) :=
  mwrite_accepts hc ((if_neg (by rw [hrun]; decide)).trans (writeAct_dram hregion hmerge)) (head_of_stack (stack_writeDram _ _ _))

theorem mfill_dram {q : Req} {s : State} (hc : s.clear 0x0A 0 q (errsMfill q true))
    (hregion : (s.enter 0x0A q).region (opAddr q) ≠ .periph)
    (hmerge : (s.enter 0x0A q).badMerge (opAddr q) (List.replicate (opf q 3 23 0 + 1) (opw q 4)).length = none) :
    exec (.mfill q) s = s.answerMem 0x0A stOk []
      ((s.enter 0x0A q).writeDram (opAddr q) (List.replicate (opf q 3 23 0 + 1) (opw q 4))) :=
  congrArg (doneMem s) (runInsn_accepted hc (congrArg (checked _ _) (funext fun _ => writeAct_dram hregion hmerge))
    (head_of_stack (stack_writeDram _ _ _)))

/-- The boot loader takes a write of SYS_BOOT that does not set GO (R562). -/
theorem loaderWrite_boot {q : Req} {s : State} (haddr : opAddr q = periphBase + F.SYS_BOOT) (hlen : q.ops.length = 3)
    (hgo : bit (opw q 3) 31 = false) : loaderWrite q s = Res.ok (s.writeReg F.SYS_BOOT (opw q 3) false) := by
  have hregion : s.region (periphBase + F.SYS_BOOT) = .periph := rfl
  have hone : (q.ops.drop 2).length = 1 := by rw [List.length_drop, hlen]
  have hword : wd (q.ops.drop 2) 0 = opw q 3 := by simp [wd, opw]
  unfold loaderWrite
  simp only [hregion, haddr, hone, hword, hgo]
  rfl

/-- While the boot loader runs, M0 alone writes (R562). -/
theorem mooring_of_loader {q : Req} {s : State} (hrun : s.ctl.run = .loader) (h : firstErr (errsMwrite q true s) = none) : q.m = 0 := by
  have hm := firstErr_none h (q.m != 0, eperm) (by simp [errsMwrite, hrun])
  simpa using hm

/-- Settles O26: a read outside the SRAM of the controllers and a write leave the packet at the front. -/
theorem memoryInstructions : Obligations.MemoryInstructions := by
  refine ⟨?read, ?readBad, ?write, ?writeRegs, ?loaderSram, ?loaderBoot, ?fillRegs, ?fill⟩
  case read => exact fun q s hc hgood hr => mread_returns hc hgood hr
  case readBad => exact fun q s hc ⟨hbad, hbank⟩ hr => mread_faults hc hbad hbank hr
  case write => exact fun q s hc ⟨hrun, hregion, hmerge⟩ => mwrite_dram hc hrun hregion hmerge
  case writeRegs =>
    exact fun q s hc ⟨hrun, hregion, hm⟩ => mwrite_accepts hc ((if_neg (by rw [hrun]; decide)).trans (writeAct_regs _ hregion))
      (head_of_sameFront hm (sameFront_writeRegs _ _ _))
  case loaderSram =>
    intro q s u hc ⟨hrun, hfirst, hlast⟩
    refine mwrite_accepts hc ((if_pos hrun).trans (if_pos ?_)) (head_of_stack ((stack_wroteRange _ _ _).trans (stack_setWords _ _ _)))
    rw [hfirst, hlast]
    rfl
  case loaderBoot =>
    intro q s u hc ⟨hrun, haddr, hlen, hgo⟩
    have ⟨_, _, herr⟩ := hc
    exact mwrite_accepts hc ((if_pos hrun).trans (loaderWrite_boot haddr hlen hgo))
      (head_of_sameFront (mooring_of_loader hrun herr) (sameFront_writeReg _ _ _ _))
  case fillRegs =>
    exact fun q s hc ⟨hregion, hm⟩ => congrArg (doneMem s) (runInsn_accepted hc
      (congrArg (checked _ _) (funext fun _ => writeAct_regs _ hregion)) (head_of_sameFront hm (sameFront_writeRegs _ _ _)))
  case fill => exact fun q s hc ⟨hregion, hmerge⟩ => mfill_dram hc hregion hmerge

/-! ## Bytes and words stored -/

theorem byte_of_mem {s t : State} (h : t.mem = s.mem) (a : Nat) : t.byte a = s.byte a :=
  congrArg (fun m => lookD m 0 a) h

theorem word_of_mem {s t : State} (h : t.mem = s.mem) (a : Nat) : t.word a = s.word a := by
  unfold State.word
  simp only [byte_of_mem h]

theorem byte_setWord_outside (s : State) {a j : Nat} (w : W32) (h : j < a ∨ a + 4 ≤ j) : (s.setWord a w).byte j = s.byte j := by
  unfold State.setWord
  simp (disch := omega) only [byte_setByte_other]

/-- Words stored leave every byte outside them. -/
theorem byte_setWords_outside (s : State) {a j : Nat} (ws : List W32) (h : j < a ∨ a + 4 * ws.length ≤ j) :
    (s.setWords a ws).byte j = s.byte j := by
  induction ws generalizing s a with
  | nil => rfl
  | cons w ws ih =>
    rw [List.length_cons] at h
    rw [State.setWords, ih _ (by omega), byte_setWord_outside s w (by omega)]

/-- Words stored read back. -/
theorem word_setWords (s : State) (a : Nat) (ws : List W32) {i : Nat} (hi : i < ws.length) :
    (s.setWords a ws).word (a + 4 * i) = ws.getD i 0 := by
  induction ws generalizing s a i with
  | nil => cases hi
  | cons w ws ih =>
    rw [State.setWords]
    cases i with
    | zero =>
      have hword : ((s.setWord a w).setWords (a + 4) ws).word a = (s.setWord a w).word a := by
        unfold State.word
        simp (disch := omega) only [byte_setWords_outside]
      exact hword.trans (word_setWord_same s a w)
    | succ i =>
      have haddr : a + 4 * (i + 1) = a + 4 + 4 * i := by omega
      rw [haddr, ih (s.setWord a w) (a + 4) (Nat.lt_of_succ_lt_succ hi)]
      rfl

/-! ## DRAM -/

/-- What an instruction that has stored words answers: they read back, and every byte outside them reads as before. -/
theorem answerMem_writeDram {s : State} (op a : Nat) (q : Req) (ws : List W32) :
    ∃ t, s.answerMem op stOk [] ((s.enter op q).writeDram a ws) = .next t ∧
      (∀ i < ws.length, t.word (a + 4 * i) = ws.getD i 0) ∧
      (∀ j, (j < a ∨ a + 4 * ws.length ≤ j) → t.byte j = s.byte j) := by
  refine ⟨_, rfl, fun i hi => ?_, fun j hj => ?_⟩
  · rw [← word_setWords (s.enter op q) a ws hi]
    exact word_of_mem ((mem_record _ _).trans (mem_wroteRange _ _ _)) _
  · rw [← byte_of_mem (mem_enter s op q), ← byte_setWords_outside (s.enter op q) ws hj]
    exact byte_of_mem ((mem_record _ _).trans (mem_wroteRange _ _ _)) _

/-- An MREAD of DRAM without error marks brings out the words from the address on, and changes nothing but its packet. -/
theorem mread_dram {q : Req} {s : State} (hc : s.clear 0x08 0 q (errsMread q true))
    (hregion : (s.enter 0x08 q).region (opAddr q) = .dram) (hm : (s.enter 0x08 q).marks = [])
    (hr : s.room 0x08 q (opf q 2 29 16 + 1)) :
    exec (.mread q) s = s.returns 0x08 q
      ((List.range (opf q 2 29 16 + 1)).map (fun i => (s.enter 0x08 q).word (opAddr q + 4 * i))) := by
  have ⟨_, _, herr⟩ := hc
  obtain ⟨-, hsame⟩ := range_of_badRange (badRange_mread herr)
  have hfirst := dram_of_region hregion
  have hlast := dram_of_region (hsame.symm.trans hregion)
  have hread := readWords_dram (a := opAddr q) (n := opf q 2 29 16 + 1) hm fun i hi => region_dram (by omega)
  have h := mread_returns hc (by rw [hread]) (by rw [hread]; simpa using hr)
  rwa [hread] at h

/-- Settles O27: words stored read back, and leave the bytes outside them. -/
theorem dramReadsAndWrites : Obligations.DramReadsAndWrites := by
  refine ⟨?write, ?fill, fun q s hc hregion hm hr => mread_dram hc hregion hm hr⟩
  case write =>
    intro q s u hc hrun hregion hmerge
    rw [mwrite_dram hc hrun (by rw [hregion]; decide) hmerge]
    exact answerMem_writeDram _ _ _ _
  case fill =>
    intro q s u hc hregion hmerge
    have hlen : (List.replicate (opf q 3 23 0 + 1) (opw q 4)).length = opf q 3 23 0 + 1 := List.length_replicate
    rw [mfill_dram hc (by rw [hregion]; decide) (by rw [hlen]; exact hmerge)]
    obtain ⟨t, ht, hwords, hbytes⟩ := answerMem_writeDram (s := s) 0x0A (opAddr q) q (List.replicate (opf q 3 23 0 + 1) (opw q 4))
    rw [hlen] at hwords hbytes
    refine ⟨t, ht, fun i hi => ?_, hbytes⟩
    rw [hwords i hi, List.getD_eq_getElem?_getD, List.getElem?_replicate, if_pos hi]
    rfl

end Sys2Proof.Machine
end

section
/-! SUPPORT. Proofs/OutcomesAndFuses.lean: what the outcome of a command keeps: byte memory (R325) and the fuses (R354). -/

namespace Sys2Proof.Machine

/-! ## Outcomes -/

/-- Every command keeps fuses and byte memory, or the fuses alone, where it stores bytes; LIFECYCLE_FUSE_DONE programs the life-cycle
fuse. -/
theorem exec_outcome (c : Instr) (s : State) :
    (∃ u, exec c s = done s u) ∨ (storesBytes c = true ∧ ∃ u, exec c s = doneMem s u) ∨ c = .lifecycleFuseDone := by
  cases c
  case lifecycleFuseDone => exact .inr (.inr rfl)
  case power | mwrite | mfill | taskStart | ferryUcommit | delayLinePassDone | pcieApertureWrite | pcieDbWrite | qpPacket | packetStart
      | registerWrite | jtagDebugAccess | vddAoFall | pwrgoodFall | resetNLow | tamperN | voltageGlitch | clockGlitch
      | thermalShutdown | pll0Lock | clockMonitorWindow | gwdtExpiry | loaderGo | bootFlashDone | ctlLockstepMismatch
      | ctlWatchdogExpiry | ctlRestartDone | marchDone | bankReady | powerDone | dramTrainingStep | recorderWriteDone | stageEdge =>
    exact .inr (.inl ⟨rfl, _, rfl⟩)
  all_goals exact .inl ⟨_, rfl⟩

theorem mem_done {s u t : State} (h : done s u = .next t) : t.mem = s.mem := by
  injection h with h
  rw [← h]

theorem otp_done {s u t : State} (h : done s u = .next t) : t.otp = s.otp := by
  injection h with h
  rw [← h]

theorem otp_doneMem {s u t : State} (h : doneMem s u = .next t) : t.otp = s.otp := by
  injection h with h
  rw [← h]

/-- Settles O28: the outcome of every other command restores byte memory. -/
theorem otherCommandsKeepMemory : Obligations.OtherCommandsKeepMemory := by
  intro c s t hc h a
  obtain ⟨u, hu⟩ | ⟨hstores, -⟩ | rfl := exec_outcome c s
  · exact byte_of_mem (mem_done (hu.symm.trans h)) a
  · rw [hc] at hstores
    cases hstores
  · cases hc

/-! ## Fuses -/

theorem otp_setMark (s : State) (a : Nat) (m : Option Mark) : (s.setMark a m).otp = s.otp := by
  unfold State.setMark
  cases m <;> rfl

theorem otp_ceRecord (s : State) (a : Nat) : (s.ceRecord a).otp = s.otp := by
  unfold State.ceRecord
  split <;> rfl

theorem otp_ueRecord (s : State) (a : Nat) : (s.ueRecord a).otp = s.otp := by
  unfold State.ueRecord
  extract_lets t
  split <;> rfl

theorem otp_merge (s : State) (a : Nat) : (s.merge a).otp = s.otp := by
  unfold State.merge
  split
  · exact (otp_ceRecord _ _).trans (otp_setMark _ _ _)
  · exact otp_setMark _ _ _
  · exact otp_ueRecord _ _
  · rfl

theorem otp_flip (s : State) : s.flip.otp = s.otp := by
  unfold State.flip
  extract_lets f wide d c k t u
  split
  · rfl
  · split
    · split
      · exact otp_setMark t f _
      · rfl
    · exact otp_setMark t f _

/-- What follows a master's write in its bank leaves the fuses. -/
theorem otp_wrote (s : State) (a n : Nat) : (s.wrote a n).otp = s.otp := by
  unfold State.wrote
  extract_lets t u
  have ht : t.otp = s.otp := by
    obtain ⟨e, he⟩ := eccOnly_validate s a n
    rw [show t = _ from he]
  have hu : u.otp = s.otp := by
    by_cases hc : codeBytes a ≤ n
    · simp only [u, if_pos hc]
      exact ht
    · simp only [u, if_neg hc]
      exact (otp_merge t a).trans ht
  split
  · rfl
  · split
    · exact (otp_flip u).trans hu
    · exact hu

/-- LIFECYCLE_FUSE_DONE programs the life-cycle fuse alone, where a LIFECYCLE waits (R354). -/
theorem otp_fuseDone (s : State) :
    s.fuseDone.otp = s.otp ∨ ∃ pid target rest, s.sec.fusing = (pid, target) :: rest ∧
      s.fuseDone.otp = { s.otp with lc := target } := by
  unfold State.fuseDone
  cases hf : s.sec.fusing with
  | nil => exact .inl rfl
  | cons x rest =>
    obtain ⟨pid, target⟩ := x
    refine .inr ⟨pid, target, rest, rfl, ?_⟩
    exact (session_flushDue _).otp.trans (otp_wrote _ _ _)

/-- Settles O8: every outcome restores the fuses, but for that of LIFECYCLE_FUSE_DONE (log 72). -/
theorem fusesAreWrittenOnce : Obligations.FusesAreWrittenOnce := by
  intro s t h
  cases hq : s.pending with
  | nil =>
    have hidle : step s = .next s := by
      unfold step
      rw [hq]
    injection hidle.symm.trans h with h
    exact .inl (by rw [h])
  | cons c r =>
    rw [stepRunsTheFrontCommand c r s hq] at h
    obtain ⟨u, hu⟩ | ⟨-, u, hu⟩ | rfl := exec_outcome c { s with pending := r }
    · have hotp := otp_done (hu.symm.trans h)
      exact .inl hotp
    · have hotp := otp_doneMem (hu.symm.trans h)
      exact .inl hotp
    · injection h with h
      rw [← h]
      obtain hsame | ⟨pid, target, rest, hfusing, hlc⟩ := otp_fuseDone { s with pending := r }
      · exact .inl hsame
      · exact .inr ⟨pid, target, rest, rfl, hfusing, hlc⟩

end Sys2Proof.Machine
end

section
/-! SUPPORT. Proofs/PtpEvents.lean: PTP messages and the announce receipt timeout (R341, R393 to R400). -/

namespace Sys2Proof.Machine

section
variable {s : State} {b : Bool}

theorem exec_ptpMessageRx (hhears : s.hears b = true) (hruns : s.ptpRuns = true) (hport : s.ptpPorts b = true) (m : PtpMsg) :
    exec (.ptpMessageRx b m) s = done s (s.ptpRx b m) :=
  congrArg (done s) (when_true (by rw [hhears, hruns, hport]; rfl))

theorem exec_ptpMessageTx (hhears : s.hears b = true) (hruns : s.ptpRuns = true) (hport : s.ptpPorts b = true) (k : PtpKind) (tx : Nat) :
    exec (.ptpMessageTx b k tx) s = done s (s.ptpTx b k tx) :=
  congrArg (done s) (when_true (by rw [hhears, hruns, hport]; rfl))

theorem ptpRx_followUp {q : W16} {t1 : Nat} {c c0 t2 : Int} (hslave : s.ptpSlave b = true)
    (hopen : (s.ptpPort b).open_ = some (q, t2, c0)) :
    s.ptpRx b (.followUp q t1 c) = (s.syncDone b t2 t1 (c0 + c)).ptpFollow := by
  unfold State.ptpRx
  simp only [hopen, hslave, beq_self_eq_true, Bool.and_self, if_true]

/-- A port that is no master's sends neither Sync nor Announce (R395). -/
theorem ptpTx_notMaster (h : s.fld (portFld b) ≠ 6) (tx : Nat) : s.ptpTx b .sync tx = s ∧ s.ptpTx b .announce tx = s := by
  have hm : ¬ (s.fld (portFld b) == 6) = true := by simpa using h
  exact ⟨if_neg hm, if_neg hm⟩

end

/-- Settles O55: each event by the conditions of its port. -/
theorem ptpEvents : Obligations.PtpEvents := by
  intro b s hhears hruns hport
  refine ⟨exec_ptpMessageRx hhears hruns hport, fun d => rfl, ?sync, ?followUp, exec_ptpMessageTx hhears hruns hport, ?withheld,
    ?timeout⟩
  case sync => exact fun rx t1 c hslave => if_pos hslave
  case followUp => exact fun q t1 c c0 t2 hslave hopen => ptpRx_followUp hslave hopen
  case withheld =>
    intro tx
    refine ⟨fun h => ptpTx_notMaster h tx, fun hpeer => if_neg ?_, fun hpeer => if_neg ?_⟩
    · rw [hpeer]; exact Bool.false_ne_true
    · rw [hpeer]; exact Bool.false_ne_true
  case timeout =>
    intro hup hnot
    refine congrArg (done s) (when_true ?_)
    rw [hhears, hruns, hport]
    simp [hup, hnot]

end Sys2Proof.Machine
end

section
/-! SUPPORT. Proofs/NetworkEvents.lean: links, requests to the ports, stream packets, the tap and MDIO (R363 to R369, R375, R381,
R402). -/

namespace Sys2Proof.Machine

section
variable {s : State} {b : Bool}

/-! ## Requests to a port (R367) -/

theorem asks_own {ip : W32} (hhears : s.hears b = true) (hfw : s.firmware = true) (hown : s.reg (F.NETx_IP (netIx b)) = ip)
    (hip : ip ≠ 0) : s.asks b ip = true := by
  unfold State.asks
  rw [hhears, hfw, hown]
  simpa using hip

theorem exec_arpRequestRx {ip : W32} (hasks : s.asks b ip = true) :
    exec (.arpRequestRx b ip) s = done s (s.sentOwn b (.arpReply ip)) :=
  congrArg (done s) (when_true hasks)

theorem exec_icmpEchoRx {ip : W32} {l : List Byte} (hasks : s.asks b ip = true) (hlen : l.length ≤ 1472) :
    exec (.icmpEchoRx b ip l) s = done s (s.sentOwn b (.icmpReply ip l)) :=
  congrArg (done s) (when_true (by rw [hasks, decide_eq_true hlen]; rfl))

/-- The firmware answers no echo request of more than 1,472 bytes (R367). -/
theorem exec_icmpEchoRx_long (ip : W32) {l : List Byte} (hlen : 1472 < l.length) : exec (.icmpEchoRx b ip l) s = .next s :=
  congrArg (done s) (when_false (by rw [decide_eq_false (Nat.not_le.mpr hlen), Bool.and_false]))

/-! ## Events of a context (R364, R369, R381) -/

section
variable {n : Nat} {k : Ctx} (hctx : s.ctx n = some k)
include hctx

/-- The second unsolicited report of a running receive context that owes one (R369). -/
theorem igmpSecond_due (hfw : s.firmware = true) (hrun : k.run = true) (hrx : k.tx = false) (howes : k.reports = 1) :
    s.igmpSecond n = (s.setCtx n { k with reports := 0 }).igmp k := by
  unfold State.igmpSecond
  rw [hctx]
  exact if_pos (by rw [hfw, hrun, hrx, howes]; rfl)

theorem streamTx_ready {onA onB : Bool} (hready : s.packetReady k false = true)
    (hports : k.unsent.filter (fun x => (if x then onB else onA) && s.netUp x) ≠ []) :
    s.streamTx n onA onB = s.sendPacket n k (k.unsent.filter (fun x => (if x then onB else onA) && s.netUp x)) := by
  unfold State.streamTx
  rw [hctx]
  exact if_pos (by rw [hready, List.isEmpty_eq_false_iff.mpr hports]; rfl)

theorem streamLate_late (hlate : s.packetReady k true = true) :
    s.streamLate n = (k.unsent.foldl (fun t _ => t.bump (F.STRMn_PKT_DROP n)) s).afterPacket n k := by
  unfold State.streamLate
  rw [hctx]
  exact if_pos hlate

end

/-! ## MDIO (R366) -/

/-- The end of a frame clears GO, whether the frame reads or writes. -/
theorem on_mdioEnd_go (d : W16) : (s.mdioEnd d).on F.NETA_MDIO_GO = false := by
  have hgo : (s.setFld F.NETA_MDIO_GO 0).fld F.NETA_MDIO_GO = 0 := fld_setFld_same _ _ _ (by decide)
  suffices h : (s.mdioEnd d).fld F.NETA_MDIO_GO = 0 by unfold State.on; rw [h]; rfl
  unfold State.mdioEnd
  split
  · exact (fld_setFld_other _ F.NETA_MDIO_DATA F.NETA_MDIO_GO d.toNat (by decide)).trans hgo
  · exact hgo

theorem fld_mdioEnd_data (d : W16) (hreads : s.mdioReads = true) : (s.mdioEnd d).fld F.NETA_MDIO_DATA = d.toNat := by
  have hdata : s.mdioEnd d = (s.setFld F.NETA_MDIO_GO 0).setFld F.NETA_MDIO_DATA d.toNat := if_pos hreads
  rw [hdata, fld_setFld_same _ _ _ (by decide)]
  exact Nat.mod_eq_of_lt d.isLt

end

/-- Settles O54: each event comes to its own function where its guard holds. -/
theorem networkEvents : Obligations.NetworkEvents := by
  refine ⟨?link, ?rtp, ?requests, ?longEcho, ?query, ?report, ?tap, ?packets, ?mdio⟩
  case link =>
    exact fun b v s hw hpower hspeed => congrArg (done s) (when_true (by rw [hw, hpower, decide_eq_true hspeed]; rfl))
  case rtp => exact fun f s hhears => congrArg (done s) (when_true hhears)
  case requests =>
    intro b ip s hhears hfw hown hip
    have hasks := asks_own hhears hfw hown hip
    exact ⟨exec_arpRequestRx hasks, fun l hlen => exec_icmpEchoRx hasks hlen⟩
  case longEcho => exact fun b ip l s hlen => exec_icmpEchoRx_long ip hlen
  case query => exact fun b v g s hhears hfw => congrArg (done s) (when_true (by rw [hhears, hfw]; rfl))
  case report =>
    exact fun n k s hw hfw hctx hrun hrx howes =>
      congrArg (done s) ((when_true hw).trans (igmpSecond_due hctx hfw hrun hrx howes))
  case tap => exact fun f s hhears => congrArg (done s) (when_true hhears)
  case packets =>
    intro n k s hruns hctx
    refine ⟨?_, fun hlate => ?_⟩
    · intro onA onB ports hready hports
      exact congrArg (done s) ((when_true hruns).trans (congrArg State.sendBehind (streamTx_ready hctx hready hports)))
    · exact congrArg (done s) ((when_true hruns).trans (congrArg State.sendBehind (streamLate_late hctx hlate)))
  case mdio =>
    intro d s hw hgo
    exact ⟨_, congrArg (done s) (when_true (by rw [hw, hgo]; rfl)), on_mdioEnd_go d, fld_mdioEnd_data d⟩

end Sys2Proof.Machine
end

section
/-! SUPPORT. Proofs/PortEvents.lean: frames and losses of the TDM slave groups and the AES3 receivers, and the end of an ASRC's
acquisition (R414, R418, R419, R424, R426, R432, R433). -/

namespace Sys2Proof.Machine

section
variable {s : State}

/-- The guard that the frames of both kinds of port share: the port runs, the TAP does not hold the balls, and the frame's
instant lies in the running period. -/
theorem frameGuard_true {d4 : Nat} {runs : Bool} (hruns : runs = true) (htap : s.tapHolds = false)
    (hperiod : s.inPeriodAt d4 = true) : (runs && !s.tapHolds && s.inPeriodAt d4) = true := by
  rw [hruns, htap, hperiod]
  rfl

theorem exec_tdmSlaveFrame {g : Fin 4} {f : TdmIn} (hruns : s.slaveRuns g.val = true) (htap : s.tapHolds = false)
    (hperiod : s.inPeriodAt f.d4 = true) :
    exec (.tdmSlaveFrame g f) s = done s (if s.served 1 g.val then s.servedFrame g.val f else s.slaveFrame g.val f) :=
  congrArg (done s) (when_true (frameGuard_true hruns htap hperiod))

theorem exec_tdmFsyncLoss {g : Fin 4} (hruns : s.slaveRuns g.val = true) :
    exec (.tdmFsyncLoss g) s = done s (s.fsyncLost g.val) :=
  congrArg (done s) (when_true hruns)

theorem exec_aes3FrameRx {n : Fin 8} {f : AesIn} (hruns : s.rxRuns n.val = true) (htap : s.tapHolds = false)
    (hperiod : s.inPeriodAt f.d4 = true) : exec (.aes3FrameRx n f) s = done s (s.aesRx n.val f) :=
  congrArg (done s) (when_true (frameGuard_true hruns htap hperiod))

/-- Only a receiver that has locked can lose its lock (R424). -/
theorem exec_aes3LockLoss {n : Fin 8} (hruns : s.rxRuns n.val = true) (hlock : s.on (F.AESRXn_STAT_LOCK n.val) = true) :
    exec (.aes3LockLoss n) s = done s (s.loseLock n.val) :=
  congrArg (done s) (when_true (Bool.and_eq_true_iff.mpr ⟨hruns, hlock⟩))

theorem exec_asrcAcquireDone {n : Fin 24} (hruns : s.asrcRuns = true) (hready : s.asrcReady n.val = true) :
    exec (.asrcAcquireDone n) s = done s (s.asrcAcquired n.val) :=
  congrArg (done s) (when_true (Bool.and_eq_true_iff.mpr ⟨hruns, hready⟩))

end

/-- Settles O56: each event comes to its own function where its guard holds. -/
theorem portEvents : Obligations.PortEvents := by
  refine ⟨?slaveFrame, ?fsyncLoss, ?aesFrame, ?lockLoss, ?acquired⟩
  case slaveFrame => exact fun g f s hruns htap hperiod => exec_tdmSlaveFrame hruns htap hperiod
  case fsyncLoss => exact fun g s hruns => exec_tdmFsyncLoss hruns
  case aesFrame => exact fun n f s hruns htap hperiod => exec_aes3FrameRx hruns htap hperiod
  case lockLoss => exact fun n s hruns hlock => exec_aes3LockLoss hruns hlock
  case acquired => exact fun n s hruns hready => exec_asrcAcquireDone hruns hready

end Sys2Proof.Machine
end

section
/-! SUPPORT. Proofs/StepInvariants.lean: what every step keeps: the queue behind its first command (log 5) and the canonical form of
byte memory (log 9); and what power-on leaves (R14, R542). -/

namespace Sys2Proof.Machine

/-! ## The queue -/

/-- Every command completes, and leaves the queue of waiting commands. -/
theorem exec_pending (c : Instr) (s : State) : ∃ t, exec c s = .next t ∧ t.pending = s.pending := by
  obtain ⟨u, hu⟩ | ⟨-, u, hu⟩ | rfl := exec_outcome c s
  · exact ⟨_, hu, rfl⟩
  · exact ⟨_, hu, rfl⟩
  · exact ⟨_, rfl, rfl⟩

/-- Settles O2: the step matches on the queue. -/
theorem stepIdlesOnAnEmptyQueue : Obligations.StepIdlesOnAnEmptyQueue := by
  intro s hq
  unfold step
  rw [hq]

/-- Settles O3: every outcome restores the queue that the step left to its command. -/
theorem stepTakesOneCommand : Obligations.StepTakesOneCommand := by
  intro s
  cases hq : s.pending with
  | nil => exact ⟨s, stepIdlesOnAnEmptyQueue s hq, hq⟩
  | cons c r =>
    rw [stepRunsTheFrontCommand c r s hq]
    exact exec_pending c { s with pending := r }

/-! ## Byte memory -/

/-- An outcome that keeps the bytes stored keeps their form. -/
theorem memOk_doneMem {s u t : State} (h : doneMem s u = .next t) (hu : u.memOk) : t.memOk := by
  injection h with h
  rw [← h]
  exact hu

/-- An instruction that may store keeps the form where its body does. -/
theorem memOk_insn {op k : Nat} {q : Req} {s t : State} {body : Nat → Bool → State → Res} (hs : s.memOk)
    (h : doneMem s (runInsn op k q s body) = .next t) (hb : ∀ p ok u, u.memOk → resOk (body p ok u)) : t.memOk :=
  memOk_doneMem h (memOk_runInsn op k q s body hs hb)

/-- Every command keeps the form of byte memory: what stores does so through stores that keep it, and every other command restores
byte memory. -/
theorem exec_memOk {c : Instr} {s t : State} (hs : s.memOk) (h : exec c s = .next t) : t.memOk := by
  cases c
  case mwrite q =>
    exact memOk_insn hs h fun _ _ u hu => resOk_checked hu _ _ (resOk_ite (memWf_loaderWrite q u hu) (resOk_writeAct hu _ _))
  case mfill => exact memOk_insn hs h fun _ _ u hu => resOk_checked hu _ _ (resOk_writeAct hu _ _)
  case power => exact memOk_insn hs h fun _ _ u hu => resOk_checked hu _ _ (resOk_mk (memWf_powerTo u _ _ _ hu))
  case taskStart =>
    exact memOk_insn hs h fun _ _ u hu => memWf_checkedSigned _ _ _ _ _
      (fun v hv => memOk_of (KeepsMem.trans (mem_armTask v _ _ _ _) (mem_addWait _ _ _)) hv) hu
  case ferryUcommit =>
    exact memOk_insn hs h fun _ _ u hu => memWf_checkedSigned _ _ _ _ _
      (fun v hv => memOk_of (KeepsMem.trans (mem_updCommit v _ _ _) (mem_addWait _ _ _)) hv) hu
  case delayLinePassDone => exact memOk_doneMem h (memWf_passDone s _ _ hs)
  case stageEdge => exact memOk_doneMem h (memOk_ite (memWf_stageEdge s _ hs) hs)
  case pcieApertureWrite => exact memOk_doneMem h (memOk_when hs (memWf_apertureWrite s _ _ _ _ _ _ hs))
  case pcieDbWrite => exact memOk_doneMem h (memOk_when hs (memWf_doorbell s _ _ _ hs))
  case qpPacket => exact memOk_doneMem h (memOk_when hs (memWf_quayPacket s _ _ _ _ hs))
  case packetStart => exact memOk_doneMem h (memOk_when hs (memWf_packetStart s hs))
  case registerWrite => exact memOk_doneMem h (memWf_regWrite s _ _ _ hs)
  case jtagDebugAccess => exact memOk_doneMem h (memWf_debug s _ _ hs)
  case vddAoFall => exact memOk_doneMem h (memWf_porReset s)
  case pwrgoodFall => exact memOk_doneMem h (memOk_when hs (memWf_goodFalls s hs))
  case resetNLow => exact memOk_doneMem h (memWf_resetLow s hs)
  case tamperN | voltageGlitch | clockGlitch => exact memOk_doneMem h (memWf_tamper s _ hs)
  case thermalShutdown => exact memOk_doneMem h (memWf_shutdown s _ hs)
  case pll0Lock => exact memOk_doneMem h (memOk_when hs (memWf_pllLock s _ hs))
  case clockMonitorWindow => exact memOk_doneMem h (memOk_when hs (memWf_clockWindow s _ hs))
  case gwdtExpiry => exact memOk_doneMem h (memOk_when hs (memWf_deviceReset s _ hs))
  case loaderGo => exact memOk_doneMem h (memOk_when hs (memWf_goWrite s _ hs))
  case bootFlashDone => exact memOk_doneMem h (memWf_bootFlash s _ _ hs)
  case ctlLockstepMismatch | ctlWatchdogExpiry => exact memOk_doneMem h (memOk_when hs (memWf_ctlRestart s _ _ hs))
  case ctlRestartDone => exact memOk_doneMem h (memWf_restartEnd s _ _ hs)
  case marchDone => exact memOk_doneMem h (memOk_when hs (memWf_marchEnd s _ _ hs))
  case bankReady => exact memOk_doneMem h (memWf_bankReady s _ _ hs)
  case powerDone => exact memOk_doneMem h (memWf_powerDone s _ hs)
  case dramTrainingStep => exact memOk_doneMem h (memOk_when hs (memWf_trainStep s _ hs))
  case recorderWriteDone => exact memOk_doneMem h (memWf_capDone s _ hs)
  case lifecycleFuseDone =>
    injection h with h
    rw [← h]
    exact memWf_fuseDone s hs
  all_goals exact memOk_of (mem_done h) hs

/-- Settles O5: the form does not depend on the queue, and every command keeps it. -/
theorem stepKeepsTheMemoryForm : Obligations.StepKeepsTheMemoryForm := by
  intro s t hs h
  cases hq : s.pending with
  | nil =>
    injection (stepIdlesOnAnEmptyQueue s hq).symm.trans h with h
    rw [← h]
    exact hs
  | cons c r =>
    rw [stepRunsTheFrontCommand c r s hq] at h
    have hrest : State.memOk { s with pending := r } := hs
    exact exec_memOk hrest h

/-- Settles O6. -/
theorem resetMemoryForm : Obligations.ResetMemoryForm := by
  unfold Obligations.ResetMemoryForm State.memOk
  rfl

/-! ## Power-on and the command table -/

/-- Without a stored register, every register reads as it does at reset. -/
theorem reg_of_regs_nil {s : State} (h : s.regs = []) (a : Nat) : s.reg a = regReset a := by
  unfold State.reg
  rw [h]
  rfl

/-- Settles O7: State.reset stores no register. -/
theorem resetState : Obligations.ResetState := by
  refine ⟨rfl, rfl, rfl, rfl, rfl, rfl, rfl, rfl, rfl, rfl, rfl, rfl, rfl, ?_, ?_, ?_, ?_, ?_, reg_of_regs_nil rfl⟩
  all_goals decide

/-- Settles O58: the table of words is empty. -/
theorem noTableWordSpellsACommand : Obligations.NoTableWordSpellsACommand :=
  ⟨fun _ _ => rfl, fun _ _ _ => rfl⟩

end Sys2Proof.Machine
end

section
/-! SUPPORT. Proofs/InstructionsAndControllers.lean: what the boot loader does not execute, and instructions that the controllers do
not come to (R292, R556, R562, log 1). -/

namespace Sys2Proof.Machine

/-- Every row of an instruction runs in the frame of the instructions. -/
theorem exec_row {c : Instr} {r : Row} (s : State) (h : rowOf c = some r) :
    ∃ body, exec c s = done s (runInsn r.op r.k r.q s body) ∨ exec c s = doneMem s (runInsn r.op r.k r.q s body) := by
  cases c <;> cases h
  case mwrite | mfill | power | taskStart | ferryUcommit => exact ⟨_, .inr rfl⟩
  all_goals exact ⟨_, .inl rfl⟩

section
variable {s : State} {op k : Nat} {q : Req}

/-- An opcode that the controllers do not execute fails with ENOTREADY (R562). -/
theorem runInsn_notReady {body : Nat → Bool → State → Res} (hs : s.serves op q = true)
    (hm : modSel op q.mod = some k ∨ modSel op q.mod = none) (hx : s.executes op = false) :
    runInsn op k q s body = (s.enter op q).record { op := op, status := enotready, payload := [] } := by
  obtain ⟨p, rest, hstack, -⟩ := enter_stack s op q
  have hk : (modSel op q.mod).getD k = k := by
    rcases hm with hm | hm <;> rw [hm] <;> rfl
  unfold runInsn
  simp [hs, hk, hx, hstack]

/-- The boot loader executes NOP, ECHO, QUERY and MWRITE (R562). -/
theorem executes_loader (h : s.ctl.run = .loader) (hop : op ∉ [0x00, 0x01, 0x02, 0x09]) : s.executes op = false := by
  unfold State.executes
  rw [h]
  simp only [List.mem_cons, List.not_mem_nil, not_or] at hop
  obtain ⟨hnop, hecho, hquery, hmwrite, -⟩ := hop
  simp [hnop, hecho, hquery, hmwrite]

theorem serves_of_off (h : s.commands = false) : s.serves op q = false := by
  unfold State.serves
  rw [h]
  rfl

/-- A packet of a lower class that is ready goes before the next instruction of the running one (R292, log 115). -/
theorem serves_of_lower (hn : s.isNext op q = true) (hp : s.nextPacket.isSome = true) : s.serves op q = false := by
  unfold State.serves
  rw [hn, hp]
  exact Bool.and_false _

end

theorem exec_notReady {c : Instr} {r : Row} {s : State} (h : rowOf c = some r) (hs : s.serves r.op r.q = true)
    (hm : modSel r.op r.q.mod = some r.k ∨ modSel r.op r.q.mod = none) (hx : s.executes r.op = false) :
    exec c s = s.rejects r.op r.q enotready := by
  obtain ⟨body, hc | hc⟩ := exec_row s h
  · rw [hc, runInsn_notReady hs hm hx]
    rfl
  · rw [hc, runInsn_notReady hs hm hx, doneMem_record]
    rfl

theorem exec_held {c : Instr} {r : Row} {s : State} (h : rowOf c = some r) (hs : s.serves r.op r.q = false) :
    exec c s = .next s := by
  obtain ⟨body, hc | hc⟩ := exec_row s h
  · rw [hc, runInsn_held hs]
    rfl
  · rw [hc, runInsn_held hs]
    rfl

/-- Settles O13: every row runs in one frame, which asks whether the controllers come to the instruction and then whether they
execute its opcode. -/
theorem instructionsNeedTheirControllers : Obligations.InstructionsNeedTheirControllers := by
  refine ⟨?loader, fun c r s h hs => exec_held h hs, fun op q s h => serves_of_off h, fun op q s hn hp => serves_of_lower hn hp⟩
  case loader =>
    intro c r s h hrun hs hm hop
    exact exec_notReady h hs (hm.imp_right And.left) (executes_loader hrun hop)

end Sys2Proof.Machine
end

section
/-! SUPPORT. Proofs/ClocksAndReferences.lean: the events of the crystal, PLL0, the domain multiplexers, the gates, the media PLL and
the reference selector (R439 to R455, R460 to R465, R473). -/

namespace Sys2Proof.Machine

/-! ## Fields of one bit -/

section
variable (s : State) {f g : Fld}

theorem on_setFld_set (h : f.hi = f.lo ∧ f.lo < 32) : (s.setFld f 1).on f = true := by
  unfold State.on
  rw [fld_setFld_same _ _ _ (h.1 ▸ h.2), h.1, Nat.add_sub_cancel_left]
  rfl

theorem on_setFld_clear (h : f.hi < 32) : (s.setFld f 0).on f = false := by
  unfold State.on
  rw [fld_setFld_same _ _ _ h, Nat.zero_mod]
  rfl

theorem on_setFld_other (v : Nat) (h : g.reg ≠ f.reg ∨ g.hi < f.lo ∨ f.hi < g.lo) : (s.setFld f v).on g = s.on g :=
  congrArg (· != 0) (fld_setFld_other s f g v h)

theorem on_mark_same (b : Bool) (h : f.hi = f.lo ∧ f.lo < 32) : (s.mark f b).on f = (s.on f || b) := by
  unfold State.mark
  cases b with
  | true => exact (on_setFld_set s h).trans (Bool.or_true _).symm
  | false => exact (Bool.or_false _).symm

/-- Ready bits are cleared in SYS_READY alone. -/
theorem reg_clearReady {fs : List Fld} (hfs : ∀ x ∈ fs, x.reg = F.SYS_READY) {x : Nat} (hx : x ≠ F.SYS_READY) :
    (s.clearReady fs).reg x = s.reg x :=
  reg_foldl _ (fun t y hy => reg_setFld_other t 0 ((hfs y hy).symm ▸ hx)) s

end

section
variable {s : State}

/-! ## Domain multiplexers (R443 to R445) -/

theorem muxDone_toSrc {d : Nat} (h : s.clk.toSrc.contains d = true) :
    s.muxDone d = { s.setFld (ckmBit F.CKM_STAT_ONROOT d) 0 with clk := { s.clk with toSrc := s.clk.toSrc.erase d } } :=
  if_pos h

theorem muxDone_toRoot {d : Nat} (h : s.clk.toSrc.contains d = false) :
    s.muxDone d = { s.setFld (ckmBit F.CKM_STAT_ONROOT d) 1 with clk := { s.clk with moves := s.clk.moves.tail } } :=
  if_neg (Bool.eq_false_iff.mp h)

theorem muxBusy_of_toSrc {d : Nat} (h : s.clk.toSrc.contains d = true) : s.muxBusy d = true := by
  unfold State.muxBusy
  rw [h]
  rfl

theorem muxBusy_of_head {d : Nat} (h : s.clk.moves.head? = some d) : s.muxBusy d = true := by
  unfold State.muxBusy
  simp [h]

/-- A switch ends in ONROOT alone of CKM_STAT. -/
theorem on_muxDone_hang (s : State) (d : Nat) :
    (s.muxDone d).on (ckmBit F.CKM_STAT_CKMUX_HANG d) = s.on (ckmBit F.CKM_STAT_CKMUX_HANG d) := by
  have hother : ∀ v, (s.setFld (ckmBit F.CKM_STAT_ONROOT d) v).on (ckmBit F.CKM_STAT_CKMUX_HANG d) =
      s.on (ckmBit F.CKM_STAT_CKMUX_HANG d) := by
    refine fun v => on_setFld_other s v (.inr (.inr ?_))
    simp only [ckmBit, F.CKM_STAT_ONROOT, F.CKM_STAT_CKMUX_HANG]
    omega
  unfold State.muxDone
  split
  · exact hother 0
  · exact hother 1

/-- The reset of a domain ends accesses, and changes no register. -/
theorem reg_domainReset (s : State) (d x : Nat) : (s.domainReset d).reg x = s.reg x := by
  unfold State.domainReset
  extract_lets t
  have ht : t.reg x = s.reg x := by
    unfold t
    split
    · refine reg_foldl _ (fun u c _ => ?_) s
      extract_lets k lost reads
      split <;> rfl
    · rfl
  split
  · exact ht
  · exact ht

theorem reg_clkFail (s : State) (source domain meas : Nat) {x : Nat} (hx : ∀ m < 8, x ≠ F.MOOR_STATm m) :
    (s.clkFail source domain meas).reg x = s.reg x :=
  reg_notice _ _ hx

/-- A hung switch shows in CKMUX_HANG (R444). -/
theorem on_muxHang (s : State) (d : Fin 8) : (s.muxHang d.val).on (ckmBit F.CKM_STAT_CKMUX_HANG d.val) = true := by
  have hbit : (ckmBit F.CKM_STAT_CKMUX_HANG d.val).hi = (ckmBit F.CKM_STAT_CKMUX_HANG d.val).lo ∧
      (ckmBit F.CKM_STAT_CKMUX_HANG d.val).lo < 32 := by
    refine ⟨rfl, ?_⟩
    simp only [ckmBit, F.CKM_STAT_CKMUX_HANG]
    omega
  unfold State.muxHang
  extract_lets t
  have ht : t.on (ckmBit F.CKM_STAT_CKMUX_HANG d.val) = true :=
    (on_congr (reg_domainReset _ _ _)).trans ((on_muxDone_hang _ _).trans (on_setFld_set s hbit))
  split
  · exact ht
  · exact (on_congr (reg_clkFail t 4 d.val 0 (by decide : ∀ m < 8, F.CKM_STAT ≠ F.MOOR_STATm m))).trans ht

/-! ## The media PLL (R454, R455) -/

/-- A media PLL that locks says so, ends its coasting, and starts MOUT. -/
theorem mpllLock_spec (s : State) :
    s.mpllLock.on F.MPLL_STAT_LOCK = true ∧ s.mpllLock.on F.MPLL_STAT_COAST = false ∧ s.mpllLock.clk.mout = true := by
  unfold State.mpllLock
  extract_lets locked clk t
  have hreg : (t.setReady [F.SYS_READY_MPLL]).reg F.MPLL_STAT = locked.reg F.MPLL_STAT :=
    (reg_setReady _ (by decide) (by decide) (by decide)).trans (reg_congr rfl _)
  have hclk : (t.setReady [F.SYS_READY_MPLL]).clk = t.clk := (session_setReady t _).clk
  refine ⟨?_, ?_, by rw [hclk]⟩
  · rw [on_congr (f := F.MPLL_STAT_LOCK) hreg]
    exact (on_setFld_other _ 0 (by decide)).trans (on_setFld_set s (by decide))
  · rw [on_congr (f := F.MPLL_STAT_COAST) hreg]
    exact on_setFld_clear _ (by decide)

/-- A media PLL that coasts has lost its lock, which UNLK remembers. -/
theorem mpllCoast_spec (s : State) :
    let t := s.mpllUnlock.setFld F.MPLL_STAT_COAST 1
    t.on F.MPLL_STAT_LOCK = false ∧ t.on F.MPLL_STAT_COAST = true ∧
      t.on F.MPLL_STAT_UNLK = (s.on F.MPLL_STAT_UNLK || s.on F.MPLL_STAT_LOCK) := by
  have hreg : s.mpllUnlock.reg F.MPLL_STAT =
      ((s.mark F.MPLL_STAT_UNLK (s.on F.MPLL_STAT_LOCK)).setFld F.MPLL_STAT_LOCK 0).reg F.MPLL_STAT :=
    reg_clearReady _ (by decide) (by decide)
  refine ⟨?_, on_setFld_set _ (by decide), ?_⟩
  · refine ((on_setFld_other _ 1 (by decide)).trans (on_congr (f := F.MPLL_STAT_LOCK) hreg)).trans ?_
    exact on_setFld_clear _ (by decide)
  · refine ((on_setFld_other _ 1 (by decide)).trans (on_congr (f := F.MPLL_STAT_UNLK) hreg)).trans ?_
    exact (on_setFld_other _ 0 (by decide)).trans (on_mark_same s _ (by decide))

/-! ## Events -/

theorem exec_xoStable (hw : s.awake = true) (hgood : s.fld F.CKM_XO_GOOD = 256) (hoff : s.on F.CKM_STAT_XOSTABLE = false) :
    exec .xoStable s = done s ((s.setFld F.CKM_STAT_XOSTABLE 1).setFld F.CKM_STAT_XOFAIL 0).bringUp :=
  congrArg (done s) (when_true (by rw [hw, hgood, hoff]; rfl))

theorem exec_pll0Lock (b : BitVec 3) (hw : s.awake = true) (hxo : s.on F.CKM_STAT_XOSTABLE = true)
    (hoff : s.on F.PLL0_STAT_LOCK = false) : exec (.pll0Lock b) s = doneMem s (s.pllLock b.toNat) :=
  congrArg (doneMem s) (when_true (by rw [hw, hxo, hoff]; rfl))

/-- A relock of a PLL0 that coasted ends in a DEVICE reset (R450). -/
theorem pllLock_coasting {b : Nat} (h : s.on F.PLL0_STAT_COAST = true) : s.pllLock b = s.deviceReset 5 := by
  unfold State.pllLock
  exact if_pos h

theorem exec_domainSwitchDone {d : Fin 8} (h : s.muxBusy d.val = true) :
    exec (.domainSwitchDone d) s = done s (s.muxDone d.val) :=
  congrArg (done s) (when_true h)

end

/-- Settles O37: each event comes to its own function where its precondition holds. -/
theorem clockAndMediaPllEvents : Obligations.ClockAndMediaPllEvents := by
  refine ⟨?xo, ?lock, ?relock, ?toSrc, ?toRoot, ?hang, ?window, ?trim, ?gates, ?mpllLock, ?mpllCoast, ?reacquire⟩
  case xo => exact fun s hw hgood hoff => exec_xoStable hw hgood hoff
  case lock => exact fun b s hw hxo hoff _ => exec_pll0Lock b hw hxo hoff
  case relock =>
    intro b s hw hxo hoff hcoast
    rw [exec_pll0Lock b hw hxo hoff, pllLock_coasting hcoast]
  case toSrc =>
    intro d s h
    rw [exec_domainSwitchDone (muxBusy_of_toSrc h), muxDone_toSrc h]
  case toRoot =>
    intro d s hsrc hhead
    rw [exec_domainSwitchDone (muxBusy_of_head hhead), muxDone_toRoot hsrc]
  case hang => exact fun d s h => ⟨congrArg (done s) (when_true h), on_muxHang s d⟩
  case window => exact fun k s h => congrArg (doneMem s) (when_true (by rw [h]; rfl))
  case trim => exact fun n s h => congrArg (done s) (when_true (by rw [h]; rfl))
  case gates => exact fun n b s h => ⟨congrArg (done s) (when_true h), congrArg (done s) (when_true h)⟩
  case mpllLock => exact fun s h => ⟨_, congrArg (done s) (when_true h), mpllLock_spec s⟩
  case mpllCoast =>
    intro s h
    have hguard : (s.on F.MPLL_STAT_LOCK || (s.mpllSeeks && s.clk.mout)) = true := by
      rcases h with h | ⟨hseeks, hmout⟩
      · rw [h]
        rfl
      · rw [hseeks, hmout]
        exact Bool.or_true _
    exact ⟨_, congrArg (done s) (when_true hguard), mpllCoast_spec s⟩
  case reacquire => exact fun s h => ⟨congrArg (done s) (when_true h), congrArg (done s) (when_true h)⟩

/-! ## References (R460 to R465) -/

section
variable {s : State}

/-- An enabled input becomes absent, where what the engine itself knows of it does not say otherwise (R460). -/
theorem refGone_absent {i : Nat} (hen : s.refEn i = true) (hst : s.refState i ≠ refAbs)
    (hgone : (i = 0 ∨ (2 ≤ i ∧ i < 10)) → s.refPresent i 0 = false) : s.refGone i = (s.setRef i refAbs).selAsk := by
  unfold State.refGone
  refine if_neg ?_
  simp only [hen, hst, Bool.or_eq_true, Bool.and_eq_true, Bool.not_true, beq_iff_eq, decide_eq_true_eq, Bool.false_eq_true,
    false_or, not_and, Bool.not_eq_true]
  exact hgone

/-- An input whose time in a state has run out leaves it (R462). -/
theorem refTimed_expired {i st next : Nat} (hst : s.refState i = st) (hleft : s.rsel.left.getD i 0 = 0) :
    s.refTimed i st next = (s.setRef i next).selAsk := by
  unfold State.refTimed
  exact if_pos (by rw [hst, hleft]; simp)

end

/-- Settles O38: each event comes to its own function where its guard holds; a measurement looks at its input's EN itself. -/
theorem referenceEvents : Obligations.ReferenceEvents := by
  refine ⟨?sample, ?absent, fun i o hz s _ => rfl, ?wait, ?qual, ?switch⟩
  case sample => exact fun i p s hen => congrArg (done s) (when_true hen)
  case absent => exact fun i s hen hst hgone => congrArg (done s) (refGone_absent hen hst hgone)
  case wait => exact fun i s hst hleft => congrArg (done s) (refTimed_expired hst hleft)
  case qual => exact fun i s hst hleft => congrArg (done s) (refTimed_expired hst hleft)
  case switch => exact fun a s hfw hst => congrArg (done s) (when_true (by rw [hfw, hst]; rfl))

end Sys2Proof.Machine
end

section
/-! SUPPORT. Proofs/TapBanksAndDram.lean: the test access port and core debug access (R565, R507), and the events of the banks and of the
DRAM controller (R486 to R499, R519 to R535, R543). -/

namespace Sys2Proof.Machine

section
variable {s : State}

/-! ## The test access port (R565, R507, R572, log 150) -/

/-- Out of POR an instruction of the TAP is entered, and ends the debug access. -/
theorem scan_entered (h : s.pwr.por = false) (i : Tap) :
    done s (s.scan i) = .next { s with tap := i, side := { s.side with debug := false } } := by
  unfold State.scan
  rw [when_true (by rw [h]; rfl)]
  rfl

theorem exec_idcode (h : s.pwr.por = false) :
    exec .idcode s = .next { s with tap := .idcode, side := { s.side with debug := false, data :=
      if s.ioPowered then [0x114806B9 + BitVec.ofNat 32 (0x10000000 * s.otp.step.toNat)] else [] } } := by
  have hid : s.idcode =
      { s.scan .idcode with side := { s.side with debug := false, data := if s.ioPowered then [idcodeOf s.otp.step.toNat] else [] } } :=
    if_neg (by rw [h]; exact Bool.false_ne_true)
  have hscan : s.scan .idcode = { s with tap := .idcode, side := { s.side with debug := false } } := when_true (by rw [h]; rfl)
  show done s s.idcode = _
  rw [hid, hscan]
  rfl

/-! ## Debug access (R446, R477) -/

/-- The state in which a debug access is open (log 150). -/
abbrev State.debugging (s : State) : State := { s with side := { s.side with debug := true } }

theorem debug_closed {a : Nat} (hw : s.awake = true) (ha : a % 4 = 0) (hg : s.gateOpen 1 22 = false) (w : Option W32) :
    s.debug a w = if w.isSome then s else s.show [0] := by
  obtain ⟨hpor, hheld⟩ := Bool.and_eq_true_iff.mp hw
  rw [Bool.not_eq_true'] at hpor hheld
  unfold State.debug
  simp [hpor, hheld, ha, hg]

/-- Through the open gate, a write that no target refuses reaches its word. -/
theorem debug_write {a : Nat} {v : W32} (hw : s.awake = true) (ha : a % 4 = 0) (hg : s.gateOpen 1 22 = true)
    (hok : s.debugging.debugError (s.debugging.remapped a) true = none) :
    s.debug a (some v) = s.debugging.debugWrite (s.debugging.remapped a) v := by
  obtain ⟨hpor, hheld⟩ := Bool.and_eq_true_iff.mp hw
  rw [Bool.not_eq_true'] at hpor hheld
  have hok' : s.debugging.debugError (s.remapped a) true = none := hok
  unfold State.debug
  simp only [hpor, hheld, ha, hg, Option.isSome_some, hok']
  rfl

/-- Through the open gate, a read that no target refuses brings out its word. -/
theorem debug_read {a : Nat} (hw : s.awake = true) (ha : a % 4 = 0) (hg : s.gateOpen 1 22 = true)
    (hok : s.debugging.debugError (s.debugging.remapped a) false = none) :
    s.debug a none = s.debugging.debugRead (s.debugging.remapped a) := by
  obtain ⟨hpor, hheld⟩ := Bool.and_eq_true_iff.mp hw
  rw [Bool.not_eq_true'] at hpor hheld
  have hok' : s.debugging.debugError (s.remapped a) false = none := hok
  unfold State.debug
  simp only [hpor, hheld, ha, hg, Option.isSome_none, hok']
  rfl

end

/-- Settles O50: the TAP acts out of POR, and a debug access comes to its word through the open gate. -/
theorem tapAndDebugAccess : Obligations.TapAndDebugAccess := by
  refine ⟨?tap, ?debug⟩
  case tap =>
    intro s h
    exact ⟨scan_entered h _, scan_entered h _, scan_entered h _, scan_entered h _, scan_entered h _, exec_idcode h⟩
  case debug =>
    intro a s hw ha
    refine ⟨?write, ?read, ?dropped, ?zeros⟩
    case write => exact fun v hg hok => congrArg (doneMem s) (debug_write hw ha hg hok)
    case read => exact fun hg hok => congrArg (doneMem s) (debug_read hw ha hg hok)
    case dropped => exact fun v hg => congrArg (doneMem s) (debug_closed hw ha hg (some v))
    case zeros => exact fun hg => congrArg (doneMem s) (debug_closed hw ha hg none)

/-! ## Banks (R486 to R499, R543) -/

section
variable {s : State}

/-- A corrected word is written back where no other master has written it in the meantime (R486). -/
theorem writeBack_single {a : Nat} (h : s.markAt a = some .single) : s.writeBack a = (s.setMark a none).ceRecord a :=
  if_pos (beq_iff_eq.mpr h)

theorem writeBack_other {a : Nat} (h : s.markAt a ≠ some .single) : s.writeBack a = s :=
  if_neg fun hb => h (beq_iff_eq.mp hb)

end

/-- Settles O52: each event comes to its own function where its guard holds; the ends of a march and of a transition look at their
bank and domain themselves. -/
theorem bankEvents : Obligations.BankEvents := by
  refine ⟨?single, ?other, ?scrub, ?march, fun b l s _ _ _ _ => rfl, fun d s _ => rfl⟩
  case single => exact fun a s h => congrArg (done s) (writeBack_single h)
  case other => exact fun a s h => congrArg (done s) (writeBack_other h)
  case scrub => exact fun f n s h => congrArg (done s) (when_true h)
  case march => exact fun l a s h => congrArg (doneMem s) (when_true h)

/-! ## DRAM (R519 to R523, R535) -/

section
variable {s : State}

/-- A poll of MR4 in the running controller shows the refresh rate, and whether the device is too hot (R519). -/
theorem mr4_running (r : BitVec 3) (h : s.fld F.DRC_STAT_STATE = 4) :
    (s.mr4 r.toNat).fld F.DRC_STAT_RATE = r.toNat ∧ (s.mr4 r.toNat).on F.DRC_STAT_DHOT = decide (r = 7) := by
  have hmr4 : s.mr4 r.toNat = (s.setFld F.DRC_STAT_RATE r.toNat).setFld F.DRC_STAT_DHOT (if r.toNat = 7 then 1 else 0) :=
    if_neg (not_not_intro h)
  rw [hmr4]
  constructor
  · rw [fld_setFld_other _ _ _ _ (by decide), fld_setFld_same _ _ _ (by decide)]
    exact Nat.mod_eq_of_lt r.isLt
  · have hseven : r.toNat = 7 ↔ r = 7 := BitVec.toNat_inj (y := 7)
    by_cases hr : r = 7
    · rw [if_pos (hseven.mpr hr), decide_eq_true hr]
      exact on_setFld_set _ (by decide)
    · rw [if_neg (mt hseven.mp hr), decide_eq_false hr]
      exact on_setFld_clear _ (by decide)

end

/-- Settles O53: each event comes to its own function while D5 runs on a locked PLL0; the end of a recorder's write looks at its
queue itself. -/
theorem dramEvents : Obligations.DramEvents := by
  refine ⟨?step, ?refresh, ?poll, ?patrol, fun k r s _ => rfl⟩
  case step => exact fun r s hclk _ => congrArg (doneMem s) (when_true hclk)
  case refresh => exact fun b k s hclk _ => congrArg (done s) (when_true hclk)
  case poll => exact fun r s hclk hstate => ⟨_, congrArg (done s) (when_true hclk), mr4_running r hstate⟩
  case patrol => exact fun f g s hclk _ _ _ => congrArg (done s) (when_true hclk)

end Sys2Proof.Machine
end

section
/-! SUPPORT. Proofs/ResetsAndTamper.lean: supplies, resets and thermal shutdowns (R541 to R558, R582), what a DEVICE reset keeps
(R307, R509, R553), and the wipes of the secure bank (R354, R504 to R506). -/

namespace Sys2Proof.Machine

/-! ## Tables and fields -/

theorem lookD_sub {V : Type} (m : SMap V) (d : V) {a n k : Nat} (h : a ≤ k ∧ k < a + n) :
    lookD (sub m a n) d k = lookD m d k := by
  unfold lookD sub
  rw [look_filter_key (fun k => a ≤ k && k < a + n), if_pos (by simpa using h)]

theorem lookD_delRange {V : Type} (m : SMap V) (d : V) {a n k : Nat} (h : a ≤ k ∧ k < a + n) :
    lookD (delRange m a n) d k = d := by
  unfold lookD delRange
  rw [look_filter_key (fun k => k < a || a + n ≤ k), if_neg (by simpa using h)]
  rfl

/-- A register of a state whose register map is filtered by offset. -/
theorem reg_filter {s t : State} {p : Nat → Bool} {x : Nat} (h : t.regs = s.regs.filter (fun e => p e.1)) (hp : p x = true) :
    t.reg x = s.reg x := by
  unfold State.reg lookD
  rw [h, look_filter_key p, if_pos hp]

theorem fld_lt (s : State) (f : Fld) : s.fld f < 2 ^ (f.hi + 1 - f.lo) :=
  Nat.mod_lt _ (Nat.two_pow_pos _)

/-! ## What a DEVICE reset leaves (R553) -/

/-- Nothing differs but the registers and the berths. -/
def RegsAndBerths (s t : State) : Prop := t = { s with regs := t.regs, cores := t.cores }

theorem RegsAndBerths.refl (s : State) : RegsAndBerths s s := rfl

theorem RegsAndBerths.trans {s t u : State} (h : RegsAndBerths s t) (g : RegsAndBerths t u) : RegsAndBerths s u := by
  unfold RegsAndBerths at *
  rw [g, h]

theorem RegsAndBerths.foldl {A : Type} {f : State → A → State} (h : ∀ s a, RegsAndBerths s (f s a)) (l : List A) (s : State) :
    RegsAndBerths s (l.foldl f s) := by
  induction l generalizing s with
  | nil => exact .refl s
  | cons a l ih => exact (h s a).trans (ih _)

theorem RegsAndBerths.sec {s t : State} (h : RegsAndBerths s t) : t.sec = s.sec := by have g := congrArg State.sec h; exact g
theorem RegsAndBerths.side {s t : State} (h : RegsAndBerths s t) : t.side = s.side := by have g := congrArg State.side h; exact g
theorem RegsAndBerths.otp {s t : State} (h : RegsAndBerths s t) : t.otp = s.otp := by have g := congrArg State.otp h; exact g
theorem RegsAndBerths.mem {s t : State} (h : RegsAndBerths s t) : t.mem = s.mem := by have g := congrArg State.mem h; exact g
theorem RegsAndBerths.pwr {s t : State} (h : RegsAndBerths s t) : t.pwr = s.pwr := by have g := congrArg State.pwr h; exact g
theorem RegsAndBerths.pending {s t : State} (h : RegsAndBerths s t) : t.pending = s.pending := by
  have g := congrArg State.pending h
  exact g

theorem RegsAndBerths.of_cores (s : State) (c : Vector Core 32) : RegsAndBerths s { s with cores := c } := rfl
theorem regsAndBerths_setReg (s : State) (a : Nat) (v : W32) : RegsAndBerths s (s.setReg a v) := rfl
theorem regsAndBerths_setFld (s : State) (f : Fld) (v : Nat) : RegsAndBerths s (s.setFld f v) := rfl
theorem regsAndBerths_bump (s : State) (f : Fld) : RegsAndBerths s (s.bump f) := rfl
theorem regsAndBerths_fuseRegs (s : State) : RegsAndBerths s s.fuseRegs := by
  unfold State.fuseRegs
  extract_lets mac
  have hmac : ∀ t i m, RegsAndBerths t (mac t i m) := fun t _ _ => (regsAndBerths_setReg t _ _).trans (regsAndBerths_setReg _ _ _)
  exact ((hmac s _ _).trans (hmac _ _ _)).trans (regsAndBerths_setReg _ _ _)

theorem regsAndBerths_berthsReset (s : State) : RegsAndBerths s s.berthsReset := by
  unfold State.berthsReset
  refine RegsAndBerths.foldl (fun _ _ => ?_) _ _
  rfl

theorem regsAndBerths_setPds (s : State) (v : Nat) : RegsAndBerths s (s.setPds v) := by
  unfold State.setPds
  refine RegsAndBerths.foldl (fun _ _ => ?_) _ _
  rfl

theorem regsAndBerths_bankKept (s : State) (failed : Bool) : RegsAndBerths s (s.bankKept failed) := by
  unfold State.bankKept
  split
  · exact .refl s
  · rfl

theorem reg_berthsReset (s : State) (x : Nat) : s.berthsReset.reg x = s.reg x := by
  unfold State.berthsReset
  refine reg_foldl _ (fun _ _ _ => ?_) s
  rfl

/-- The fuses are loaded into the MAC addresses and the SRC trim alone. -/
theorem reg_fuseRegs (s : State) {x : Nat}
    (hx : ∀ a ∈ [F.CKM_SRC, F.NETx_MACHI 0, F.NETx_MACLO 0, F.NETx_MACHI 1, F.NETx_MACLO 1], x ≠ a) : s.fuseRegs.reg x = s.reg x := by
  simp only [List.forall_mem_cons] at hx
  obtain ⟨hsrc, hhi0, hlo0, hhi1, hlo1, -⟩ := hx
  unfold State.fuseRegs
  extract_lets mac
  rw [reg_setReg_other _ _ hsrc]
  simp only [mac]
  rw [reg_setReg_other _ _ hlo1, reg_setReg_other _ _ hhi1, reg_setReg_other _ _ hlo0, reg_setReg_other _ _ hhi0]

/-- The secure bank's state shows in its own register. -/
theorem reg_bankKept (s : State) (failed : Bool) {x : Nat} (hx : x ≠ F.BANK_STATb 1) : (s.bankKept failed).reg x = s.reg x := by
  unfold State.bankKept
  split
  · rfl
  · refine (reg_setFld_other _ _ ?_).trans ((reg_setFld_other _ _ hx).trans (reg_setFld_other _ _ hx))
    cases failed
    all_goals exact hx

/-- PD1 to PD7 stand in bits 2 to 15 of PWR_STAT. -/
theorem on_setPds (s : State) (v : Nat) {f : Fld} (h : f.reg ≠ F.PWR_STAT ∨ 16 ≤ f.lo) : (s.setPds v).on f = s.on f := by
  have hstep : ∀ p ∈ [1, 2, 3, 4, 5, 6, 7], ∀ t : State, (t.setPd p v).on f = t.on f := by
    intro p hp t
    refine on_setFld_other t v (h.imp_right fun hlo => .inr ?_)
    have hp7 : p ≤ 7 := by revert p; decide
    simp only [pdFld]
    omega
  unfold State.setPds
  simp only [List.foldl_cons, List.foldl_nil]
  simp (disch := decide) only [hstep]

/-- What a DEVICE reset keeps, whatever its cause (R307, R509, R553), and that it is held. -/
theorem deviceReset_keeps (cause : Nat) (s : State) :
    (s.deviceReset cause).sec = s.sec ∧ (s.deviceReset cause).side.alert = s.side.alert ∧
      (s.deviceReset cause).side.mgmtIndex = s.side.mgmtIndex ∧ (s.deviceReset cause).otp = s.otp ∧
      (s.deviceReset cause).pending = s.pending ∧ (s.deviceReset cause).mem = sub s.mem 0x30000000 0x40000 ∧
      (s.deviceReset cause).pwr.held = true ∧ (s.deviceReset cause).pwr.tsd = s.pwr.tsd := by
  unfold State.deviceReset
  extract_lets out side ecc pwr t berths u
  have h : RegsAndBerths t ((u.setFld F.RST_STAT_LAST cause).bump F.RST_STAT_DEVCNT) := by
    have hberths : RegsAndBerths t berths := (RegsAndBerths.of_cores t s.cores).trans (regsAndBerths_berthsReset _)
    have hu : RegsAndBerths berths u :=
      ((regsAndBerths_fuseRegs berths).trans (regsAndBerths_setPds _ _)).trans (regsAndBerths_bankKept _ _)
    exact (hberths.trans hu).trans ((regsAndBerths_setFld u _ _).trans (regsAndBerths_bump _ _))
  rw [h.sec, h.side, h.otp, h.pending, h.mem, h.pwr]
  exact ⟨rfl, rfl, rfl, rfl, rfl, rfl, rfl, rfl⟩

theorem fld_deviceReset_last {cause : Nat} (s : State) (h : cause < 16) : (s.deviceReset cause).fld F.RST_STAT_LAST = cause := by
  unfold State.deviceReset State.bump
  extract_lets out side ecc pwr t berths u
  rw [fld_setFld_other _ _ _ _ (by decide), fld_setFld_same _ _ _ (by decide)]
  exact Nat.mod_eq_of_lt h

/-- The status of the supplies and of the temperature is kept (R553). -/
theorem on_deviceReset_tsd (cause : Nat) (s : State) : (s.deviceReset cause).on F.PWR_STAT_TSD = s.on F.PWR_STAT_TSD := by
  unfold State.deviceReset State.bump
  extract_lets out side ecc pwr t berths u
  have hkept : t.on F.PWR_STAT_TSD = s.on F.PWR_STAT_TSD := on_congr (reg_filter rfl (by decide))
  have hberths : berths.on F.PWR_STAT_TSD = t.on F.PWR_STAT_TSD := on_congr (reg_berthsReset _ _)
  have hu : u.on F.PWR_STAT_TSD = berths.on F.PWR_STAT_TSD := by
    refine (on_congr (reg_bankKept _ _ (by decide))).trans ((on_setPds _ _ (.inr (by decide))).trans ?_)
    exact on_congr (reg_fuseRegs _ (by decide))
  rw [on_setFld_other _ _ (by decide), on_setFld_other _ _ (by decide), hu, hberths, hkept]

/-- Settles O35: the reset keeps the table of the secure bank's bytes as it is. -/
theorem deviceResetKeeps : Obligations.DeviceResetKeeps := by
  intro cause s hc
  obtain ⟨hsec, halert, hindex, hotp, hpending, hmem, hheld, -⟩ := deviceReset_keeps cause s
  refine ⟨hheld, fld_deviceReset_last s (by omega), hsec, halert, hindex, hotp, hpending, fun a hlo hhi => ?_⟩
  unfold State.byte
  rw [hmem]
  exact lookD_sub s.mem 0 ⟨hlo, hhi⟩

/-! ## Supplies, resets and temperature (R541 to R551, R558, R582) -/

section
variable {s : State}

/-- A fall of PWRGOOD out of POR is a DEVICE reset; in the reset that RESET_N holds it does not count (R582, log 138). -/
theorem goodFalls_awake (hpor : s.pwr.por = false) :
    s.goodFalls =
      (let t := State.deviceReset (State.unblock { s with pwr := { s.pwr with good := false } }) 2
       if s.pwr.held = true ∧ s.fld F.RST_STAT_LAST = 1 then t.setFld F.RST_STAT_DEVCNT (s.fld F.RST_STAT_DEVCNT) else t) := by
  unfold State.goodFalls
  extract_lets pwr t u
  have ht : t.pwr.por = false := hpor
  have hheld : t.pwr.held = s.pwr.held := rfl
  have hfld : ∀ f, t.fld f = s.fld f := fun _ => rfl
  rw [if_neg (by rw [ht]; exact Bool.false_ne_true), hfld, hfld, hheld]
  simp only [Bool.and_eq_true, beq_iff_eq]
  rfl

theorem resetLow_awake (hpor : s.pwr.por = false) :
    s.resetLow = if s.pwr.good then s.unblock.deviceReset 1 else s.unblock :=
  if_neg (by rw [hpor]; exact Bool.false_ne_true)

/-- A release samples BOOTSEL (R558). -/
theorem releaseReset_spec (sel : BitVec 3) (hpor : s.pwr.por = false) (hheld : s.pwr.held = true) (hgood : s.pwr.good = true)
    (hsrc : s.pwr.srcBad = false) (htsd : s.pwr.tsd = false) :
    let t := s.releaseReset sel.toNat
    t.pwr.held = false ∧ t.fld F.SYS_BOOT_BOOTSEL = sel.toNat ∧ (5 ≤ sel.toNat → t.on F.SYS_BOOT_BADSEL = true) ∧
      t.on F.SYS_BOOT_FAST = decide (sel = 4) := by
  unfold State.releaseReset
  rw [if_neg (by rw [hpor, hheld, hgood, hsrc, htsd]; decide)]
  extract_lets pwr t u v
  have hsel : u.fld F.SYS_BOOT_BOOTSEL = sel.toNat :=
    (fld_setFld_same t _ _ (by decide)).trans (Nat.mod_eq_of_lt sel.isLt)
  have hmark : (u.mark F.SYS_BOOT_BADSEL (decide (5 ≤ sel.toNat))).fld F.SYS_BOOT_BOOTSEL = u.fld F.SYS_BOOT_BOOTSEL := by
    unfold State.mark
    split
    · exact fld_setFld_other _ _ _ _ (by decide)
    · rfl
  have hpwr : v.pwr = t.pwr := (State.mark_pwr u F.SYS_BOOT_BADSEL _ :)
  refine ⟨by rw [hpwr], ?_, fun h5 => ?_, ?_⟩
  · exact (fld_setFld_other _ _ _ _ (by decide)).trans (hmark.trans hsel)
  · unfold v
    rw [on_setFld_other _ _ (by decide), on_mark_same _ _ (by decide), decide_eq_true h5, Bool.or_true]
  · have hfour : sel.toNat = 4 ↔ sel = 4 := BitVec.toNat_inj (y := 4)
    unfold v
    by_cases h : sel = 4
    · rw [if_pos (hfour.mpr h), decide_eq_true h]
      exact on_setFld_set _ (by decide)
    · rw [if_neg (mt hfour.mp h), decide_eq_false h]
      exact on_setFld_clear _ (by decide)

/-- After three readings above the limit a shutdown is a held DEVICE reset, which PWR_STAT.TSD and RST_STAT.LAST tell of (R550). -/
theorem shutdown_spec (g : Bool) (hpor : s.pwr.por = false) (htsd : s.pwr.tsd = false)
    (hhot : if g then s.pwr.grad = 3 else s.pwr.hot.contains 3 = true) :
    let t := s.shutdown g
    t.pwr.tsd = true ∧ t.pwr.held = true ∧ t.on F.PWR_STAT_TSD = true ∧ t.fld F.RST_STAT_LAST = (if g then 7 else 6) := by
  have hdue : (if g then s.pwr.grad == 3 else s.pwr.hot.contains 3) = true := by
    cases g with
    | true => exact beq_iff_eq.mpr hhot
    | false => exact hhot
  unfold State.shutdown
  rw [if_neg (by rw [hpor, htsd, hdue]; exact Bool.false_ne_true)]
  extract_lets hot pwr t
  obtain ⟨-, -, -, -, -, -, hheld, hkept⟩ := deviceReset_keeps (if g then 7 else 6) t
  have hlast : (if g then 7 else 6) < 16 := by cases g <;> decide
  have hset : t.on F.PWR_STAT_TSD = true := on_setFld_set s (by decide)
  exact ⟨hkept, hheld, (on_deviceReset_tsd _ t).trans hset, fld_deviceReset_last t hlast⟩

/-- A shutdown that is not blocked ends (R551). -/
theorem shutdownEnd_tsd (htsd : s.pwr.tsd = true) (hblocked : s.tsdBlocked = false) : s.shutdownEnd.pwr.tsd = false := by
  unfold State.shutdownEnd
  rw [if_neg (by rw [htsd, hblocked]; decide)]
  extract_lets pwr t
  rw [(regsAndBerths_setPds t _).pwr]

end

/-- Settles O34: each event comes to its own function where its precondition holds. -/
theorem supplyResetAndTemperatureEvents : Obligations.SupplyResetAndTemperatureEvents := by
  refine ⟨?porEnd, fun s => rfl, ?rises, ?falls, ?reset, ?release, fun l s _ => rfl, ?shutdown, ?ends⟩
  case porEnd => exact fun s h => congrArg (done s) (when_true h)
  case rises => exact fun s h => congrArg (done s) (when_true (by rw [h]; rfl))
  case falls => exact fun s hgood hpor => congrArg (doneMem s) ((when_true hgood).trans (goodFalls_awake hpor))
  case reset => exact fun s hpor => congrArg (doneMem s) (resetLow_awake hpor)
  case release => exact fun sel s hpor hheld hgood hsrc htsd => ⟨_, rfl, releaseReset_spec sel hpor hheld hgood hsrc htsd⟩
  case shutdown => exact fun g s hpor htsd hhot => ⟨_, rfl, shutdown_spec g hpor htsd hhot⟩
  case ends =>
    exact fun s hcool htsd hblocked => ⟨_, congrArg (done s) (when_true hcool), shutdownEnd_tsd htsd hblocked⟩

end Sys2Proof.Machine
end

section
/-! SUPPORT. Proofs/SecureBank.lean: tamper and LIFECYCLE wipe the secure bank (R354, R504 to R506). -/

namespace Sys2Proof.Machine

/-! ## What every step of a fold keeps -/

/-- What each step of a fold keeps of the state, the fold keeps. -/
theorem proj_foldl {A B : Type} {p : State → B} {f : State → A → State} (h : ∀ s a, p (f s a) = p s)
    (l : List A) (s : State) : p (l.foldl f s) = p s := by
  induction l generalizing s with
  | nil => rfl
  | cons a l ih => rw [List.foldl_cons, ih, h]

/-! ## A write of whole code words -/

/-- Nothing differs but the error marks and the register of the armed flip (R488, R493). -/
def MarksAndFlip (s t : State) : Prop :=
  t = { s with regs := t.regs, marks := t.marks, ecc := t.ecc } ∧ ∀ x, x ≠ F.ECC_FLIP_CTL → t.reg x = s.reg x

theorem MarksAndFlip.of_regs {s t : State} (h : t = { s with regs := t.regs, marks := t.marks, ecc := t.ecc })
    (hr : t.regs = s.regs) : MarksAndFlip s t := ⟨h, fun x _ => reg_congr hr x⟩

theorem MarksAndFlip.refl (s : State) : MarksAndFlip s s := .of_regs rfl rfl

theorem MarksAndFlip.trans {s t u : State} (h : MarksAndFlip s t) (g : MarksAndFlip t u) : MarksAndFlip s u := by
  obtain ⟨ht, hreg⟩ := h
  obtain ⟨hu, greg⟩ := g
  refine ⟨?_, fun x hx => (greg x hx).trans (hreg x hx)⟩
  rw [hu, ht]

theorem MarksAndFlip.sec {s t : State} (h : MarksAndFlip s t) : t.sec = s.sec := by have g := congrArg State.sec h.1; exact g
theorem MarksAndFlip.ctl {s t : State} (h : MarksAndFlip s t) : t.ctl = s.ctl := by have g := congrArg State.ctl h.1; exact g
theorem MarksAndFlip.otp {s t : State} (h : MarksAndFlip s t) : t.otp = s.otp := by have g := congrArg State.otp h.1; exact g
theorem MarksAndFlip.mem {s t : State} (h : MarksAndFlip s t) : t.mem = s.mem := by have g := congrArg State.mem h.1; exact g

theorem marksAndFlip_setMark (s : State) (a : Nat) (m : Option Mark) : MarksAndFlip s (s.setMark a m) := by
  unfold State.setMark
  cases m <;> exact .of_regs rfl rfl

theorem marksAndFlip_validate (s : State) (a n : Nat) : MarksAndFlip s (s.validate a n) := by
  obtain ⟨e, he⟩ := eccOnly_validate s a n
  rw [he]
  exact .of_regs rfl rfl

theorem marksAndFlip_clearMarks (s : State) (a n : Nat) : MarksAndFlip s (s.clearMarks a n) := .of_regs rfl rfl

theorem marksAndFlip_setFld (s : State) {f : Fld} (v : Nat) (h : f.reg = F.ECC_FLIP_CTL) : MarksAndFlip s (s.setFld f v) :=
  ⟨rfl, fun _ hx => reg_setFld_other s v (h ▸ hx)⟩

theorem marksAndFlip_flip (s : State) : MarksAndFlip s s.flip := by
  unfold State.flip
  extract_lets f wide d c k t u
  have ht : MarksAndFlip s t := marksAndFlip_setFld s 0 rfl
  have hmark : ∀ m, MarksAndFlip s (t.setMark f m) := fun m => ht.trans (marksAndFlip_setMark t f m)
  split
  · exact ht
  · split
    · split
      · exact hmark _
      · exact ht
    · exact (hmark _).trans (.of_regs rfl rfl)

/-- A write of whole code words clears their errors, and lets an armed flip act. -/
theorem marksAndFlip_wrote (s : State) {a n : Nat} (h : codeBytes a ≤ n) : MarksAndFlip s (s.wrote a n) := by
  unfold State.wrote
  extract_lets t u
  have hu : MarksAndFlip s u := by
    unfold u
    rw [if_pos h]
    exact (marksAndFlip_validate s a n).trans (marksAndFlip_clearMarks _ _ _)
  split
  · exact .refl s
  · split
    · exact hu.trans (marksAndFlip_flip u)
    · exact hu

/-! ## The wipe (R505) -/

/-- A wipe leaves the secure bank empty. -/
theorem wipeSecure_marksAndFlip (s : State) :
    MarksAndFlip { s with sec := { s.sec with keys := [], slots := [], later := [] }, mem := delRange s.mem 0x30000000 0x40000 }
      s.wipeSecure :=
  marksAndFlip_wrote _ (by decide)

theorem sec_wipeSecure (s : State) : s.wipeSecure.sec = { s.sec with keys := [], slots := [], later := [] } :=
  (wipeSecure_marksAndFlip s).sec

theorem byte_wipeSecure (s : State) {a : Nat} (hlo : 0x30000000 ≤ a) (hhi : a < 0x30040000) : s.wipeSecure.byte a = 0 := by
  unfold State.byte
  rw [(wipeSecure_marksAndFlip s).mem]
  exact lookD_delRange s.mem 0 ⟨hlo, hhi⟩

theorem reg_wipeSecure (s : State) {x : Nat} (hx : x ≠ F.ECC_FLIP_CTL) : s.wipeSecure.reg x = s.reg x :=
  (wipeSecure_marksAndFlip s).2 x hx

/-! ## Tamper (R504 to R506) -/

section
variable {s : State} {n : Nat}

/-- The state with a cause of tamper shown. -/
abbrev State.caused (s : State) (n : Nat) : State := s.setFld F.SEC_STAT_CAUSE (s.fld F.SEC_STAT_CAUSE ||| n)

theorem fld_caused (hn : n < 16) : (s.caused n).fld F.SEC_STAT_CAUSE = (s.fld F.SEC_STAT_CAUSE ||| n) := by
  rw [State.caused, fld_setFld_same _ _ _ (by decide)]
  exact Nat.mod_eq_of_lt (Nat.or_lt_two_pow (n := 4) (fld_lt s F.SEC_STAT_CAUSE) hn)

/-- Tamper without a wipe in progress starts one. -/
theorem tamper_starts (hpor : s.pwr.por = false) (hw : s.sec.wipe = none) :
    s.tamper n = { (s.caused n).wipeSecure with sec := { (s.caused n).wipeSecure.sec with wipe := some (n, s.tt.frame) } } := by
  unfold State.tamper
  rw [if_neg (by rw [hpor]; exact Bool.false_ne_true), hw]

/-- Tamper during a wipe joins it. -/
theorem tamper_joins {k f : Nat} (hpor : s.pwr.por = false) (hw : s.sec.wipe = some (k, f)) :
    s.tamper n = { s.caused n with sec := { s.sec with wipe := some (k ||| n, f) } } := by
  unfold State.tamper
  rw [if_neg (by rw [hpor]; exact Bool.false_ne_true), hw]
  rfl

theorem fld_tamper_cause (hpor : s.pwr.por = false) (hn : n < 16) :
    (s.tamper n).fld F.SEC_STAT_CAUSE = (s.fld F.SEC_STAT_CAUSE ||| n) := by
  cases hw : s.sec.wipe with
  | none =>
    rw [tamper_starts hpor hw]
    exact (fld_congr (reg_wipeSecure (s.caused n) (by decide))).trans (fld_caused hn)
  | some x =>
    rw [tamper_joins hpor (k := x.1) (f := x.2) hw]
    exact fld_caused hn

/-- A wipe that tamper starts leaves no key, no hash and no byte. -/
theorem tamper_wipes (hpor : s.pwr.por = false) (hw : s.sec.wipe = none) :
    (s.tamper n).sec.keys = [] ∧ (s.tamper n).sec.slots = [] ∧ (s.tamper n).sec.wipe = some (n, s.tt.frame) ∧
      ∀ a, 0x30000000 ≤ a → a < 0x30040000 → (s.tamper n).byte a = 0 := by
  rw [tamper_starts hpor hw, sec_wipeSecure]
  exact ⟨rfl, rfl, rfl, fun a hlo hhi => byte_wipeSecure (s.caused n) hlo hhi⟩

end

/-- The sources of tamper: each adds its bit to CAUSE. -/
theorem exec_tamper {c : Instr} {n : Nat} (s : State)
    (h : (c, n) ∈ [(Instr.tamperN, 1), (Instr.voltageGlitch, 2), (Instr.clockGlitch, 4)]) :
    exec c s = doneMem s (s.tamper n) ∧ n < 16 := by
  simp only [List.mem_cons, Prod.mk.injEq, List.not_mem_nil, or_false] at h
  obtain ⟨rfl, rfl⟩ | ⟨rfl, rfl⟩ | ⟨rfl, rfl⟩ := h
  all_goals exact ⟨rfl, by decide⟩

/-- Notices leave the secure bank. -/
theorem sec_notice (s : State) (c : Nat) (ws : List W32) : (s.notice c ws).sec = s.sec := by
  refine proj_foldl (p := State.sec) (fun t m => ?_) _ s
  unfold State.noticeTo
  extract_lets mo body ws'
  split
  · rfl
  · split <;> rfl

/-- A tamper wipe completes (R505, R506). -/
theorem wipeDone_spec {s : State} {k f : Nat} (h : s.sec.wipe = some (k, f)) :
    s.wipeDone.sec.wipe = none ∧ s.wipeDone.on F.SEC_STAT_WIPED = true ∧ s.wipeDone.side.alert.getLsbD 3 = true := by
  unfold State.wipeDone
  rw [h]
  extract_lets sec t
  have hside : ∀ ws, (t.notice nTAMPER ws).side = t.side := fun ws => (session_notice t nTAMPER ws).side
  refine ⟨by rw [sec_notice]; rfl, ?_, ?_⟩
  · have hwiped : ∀ u : State, ((u.setFld F.SEC_STAT_WIPED 1).bump F.SEC_WIPES_WIPES).on F.SEC_STAT_WIPED = true :=
      fun u => (on_setFld_other _ _ (by decide)).trans (on_setFld_set u (by decide))
    refine (on_congr (reg_notice _ _ (by decide))).trans ?_
    exact (on_congr (reg_congr (State.alertBit_regs _ 3) _)).trans (hwiped _)
  · rw [hside]
    show (s.side.alert ||| flag true 3).getLsbD 3 = true
    rw [BitVec.getLsbD_or]
    exact Bool.or_eq_true_iff.mpr (.inr (by decide))

/-! ## LIFECYCLE (R354) -/

/-- What the replies that fall due leave of the secure bank: the hashes and the fusing LIFECYCLEs, and the keys where no KEY waits
for its reply. -/
def KeysWait (s t : State) : Prop :=
  t.sec.slots = s.sec.slots ∧ t.sec.fusing = s.sec.fusing ∧
    (s.ctl.keyOps = [] → t.sec.keys = s.sec.keys ∧ t.ctl.keyOps = [])

theorem KeysWait.trans {s t u : State} (h : KeysWait s t) (g : KeysWait t u) : KeysWait s u := by
  obtain ⟨hslots, hfusing, hkeys⟩ := h
  obtain ⟨gslots, gfusing, gkeys⟩ := g
  refine ⟨gslots.trans hslots, gfusing.trans hfusing, fun h0 => ?_⟩
  obtain ⟨hk, h0'⟩ := hkeys h0
  obtain ⟨gk, g0⟩ := gkeys h0'
  exact ⟨gk.trans hk, g0⟩

/-- A reply that leaves, and the units that it frees, change neither the secure bank nor the waiting keys. -/
theorem sent_sec (s : State) (p : Pkt) :
    (if p.units = 0 then s.reply p else (s.reply p).freeUnits p.m.val p.cls.val p.units).sec = s.sec ∧
      (if p.units = 0 then s.reply p else (s.reply p).freeUnits p.m.val p.cls.val p.units).ctl.keyOps = s.ctl.keyOps := by
  have hreply : (s.reply p).sec = s.sec ∧ (s.reply p).ctl.keyOps = s.ctl.keyOps := by
    unfold State.reply
    extract_lets quiet key t
    unfold t
    split
    · exact ⟨rfl, rfl⟩
    · exact ⟨rfl, rfl⟩
  split
  · exact hreply
  · exact hreply

theorem keysWait_sendDue (l : List Pkt) (s : State) : KeysWait s (State.sendDue l s) := by
  induction l generalizing s with
  | nil => exact ⟨rfl, rfl, fun h => ⟨rfl, h⟩⟩
  | cons p r ih =>
    unfold State.sendDue
    split
    · exact ih s
    · obtain ⟨hsec, hops⟩ := sent_sec s p
      refine KeysWait.trans ?_ (ih _)
      refine ⟨by rw [← hsec], by rw [← hsec], fun h0 => ⟨?_, ?_⟩⟩
      · show ((s.ctl.keyOps.filter _).foldl _ _) = _
        rw [h0]
        exact congrArg SecState.keys hsec
      · show List.filter _ _ = []
        rw [hops, h0]
        rfl

theorem keysWait_flushDue (s : State) : KeysWait s s.flushDue := by
  unfold State.flushDue
  split
  · exact ⟨rfl, rfl, fun h => ⟨rfl, h⟩⟩
  · exact keysWait_sendDue _ s

/-- The state in which the oldest LIFECYCLE has programmed its target; its reply uses the key that M0 holds (R354). -/
abbrev State.fused (s : State) (pid target : Nat) (rest : List (Nat × Nat)) : State :=
  { s with otp := { s.otp with lc := target }, sec := { s.sec with fusing := rest },
           ctl := { s.ctl with oldKey := ins s.ctl.oldKey pid (s.key 0) } }

/-- The state in which the reply of a LIFECYCLE falls due. -/
abbrev State.fuseReply (s : State) (pid : Nat) : State :=
  { s with ctl := { s.ctl with waits := s.ctl.waits.filter (fun w => w != (pid, Wait.fuses)) } }

/-- LIFECYCLE_FUSE_DONE programs the target of the oldest LIFECYCLE, wipes the secure bank and sends the reply (R354, log 72). -/
theorem fuseDone_eq {s : State} {pid target : Nat} {rest : List (Nat × Nat)} (h : s.sec.fusing = (pid, target) :: rest) :
    s.fuseDone = (((s.fused pid target rest).wipeSecure.setFld F.SEC_STAT_WIPED 1).fuseReply pid).flushDue := by
  unfold State.fuseDone
  rw [h]

/-- The fuse is programmed and the secure bank empty; a KEY that waits for its reply sets its key behind it (log 179). -/
theorem fuseDone_spec {s : State} {pid target : Nat} {rest : List (Nat × Nat)} (h : s.sec.fusing = (pid, target) :: rest) :
    s.fuseDone.otp.lc = target ∧ s.fuseDone.sec.fusing = rest ∧ (s.ctl.keyOps = [] → s.fuseDone.sec.keys = []) ∧
      s.fuseDone.sec.slots = [] ∧ ∀ a, 0x30000000 ≤ a → a < 0x30040000 → s.fuseDone.byte a = 0 := by
  rw [fuseDone_eq h]
  generalize hv : s.fused pid target rest = v
  have hwipe := wipeSecure_marksAndFlip v
  obtain ⟨hslots, hfusing, hkeys⟩ := keysWait_flushDue ((v.wipeSecure.setFld F.SEC_STAT_WIPED 1).fuseReply pid)
  have hflush := session_flushDue ((v.wipeSecure.setFld F.SEC_STAT_WIPED 1).fuseReply pid)
  refine ⟨?_, ?_, fun h0 => ?_, ?_, fun a hlo hhi => (byte_of_mem hflush.mem a).trans (byte_wipeSecure v hlo hhi)⟩
  · rw [hflush.otp]
    show v.wipeSecure.otp.lc = target
    rw [hwipe.otp, ← hv]
  · rw [hfusing]
    show v.wipeSecure.sec.fusing = rest
    rw [sec_wipeSecure, ← hv]
  · have hops : v.wipeSecure.ctl.keyOps = [] := by rw [hwipe.ctl, ← hv]; exact h0
    rw [(hkeys hops).1]
    show v.wipeSecure.sec.keys = []
    rw [sec_wipeSecure]
  · rw [hslots]
    show v.wipeSecure.sec.slots = []
    rw [sec_wipeSecure]

/-- Settles O36: a tamper source comes to State.tamper, and both wipes go through State.wipeSecure. -/
theorem secureBankIsWiped : Obligations.SecureBankIsWiped := by
  refine ⟨fun s => ⟨rfl, rfl, rfl⟩, ?tamper, ?ends, ?fuse⟩
  case tamper =>
    intro c n s hc hpor
    obtain ⟨hexec, hn⟩ := exec_tamper s hc
    refine ⟨_, hexec, fld_tamper_cause hpor hn, fun hw => tamper_wipes hpor hw, fun k f hw => ?_⟩
    show (s.tamper n).sec.wipe = _
    rw [tamper_joins hpor hw]
  case ends => exact fun k f s h => ⟨_, rfl, wipeDone_spec h⟩
  case fuse => exact fun pid target rest s h => ⟨_, rfl, fuseDone_spec h⟩

end Sys2Proof.Machine
end

section
/-! SUPPORT. Proofs/BootAndRestarts.lean: what the boot ROM and the boot loader start, and what a controller restart keeps (R508, R554 to
R563). -/

namespace Sys2Proof.Machine

/-! ## Boot flash and the loader (R508, R559, R562) -/

section
variable {s : State}

/-- While the controllers boot from a sound boot ROM, the first flash copy that passes its check starts (R508, R559). -/
theorem bootFlash_booting (a b : List Byte) (hrun : s.ctl.run = .booting) (hrom : s.romBad = none) :
    s.bootFlash a b = s.fromFlash a b := by
  unfold State.bootFlash
  rw [if_neg (by rw [hrun]; decide), hrom]

/-- The LEN bytes that a host has loaded into CTL SRAM. -/
abbrev State.loaded (s : State) : List Byte := (List.range (s.fld F.SYS_BOOT_LEN)).map (fun i => s.byte (0x20000000 + i))

/-- The loaded image runs; after a controller restart the firmware takes up its work again. -/
theorem loaderGo_starts (hrun : s.ctl.run = .loader) (hok : s.fwOk s.loaded = true) :
    s.loaderGo.1 = if s.ctl.bound then ((s.setFld F.SYS_BOOT_SOURCE 2).fwStart s.loaded).ctlResume
      else (s.setFld F.SYS_BOOT_SOURCE 2).fwStart s.loaded := by
  unfold State.loaderGo
  extract_lets l first t
  rw [if_pos (by rw [hrun, hok]; rfl)]
  cases hb : s.ctl.bound with
  | true =>
    rw [if_neg (by simp [first, hb]), if_pos rfl]
  | false =>
    rw [if_pos (by simp [first, hb]), if_neg Bool.false_ne_true]

theorem loaderGo_stays (h : ¬(s.ctl.run = .loader ∧ s.fwOk s.loaded = true)) : s.loaderGo.1 = s := by
  unfold State.loaderGo
  extract_lets l first t
  rw [if_neg (by rwa [Bool.and_eq_true, beq_iff_eq])]

/-- A write of SYS_BOOT with GO starts the image that lies in CTL SRAM, where it passes its check (R562). -/
theorem goWrite_eq (v : W32) :
    s.goWrite v =
      (let t := s.writeReg F.SYS_BOOT v false
       let l := (List.range (t.fld F.SYS_BOOT_LEN)).map (fun i => t.byte (0x20000000 + i))
       let u := (t.setFld F.SYS_BOOT_SOURCE 2).fwStart l
       if bit v 31 = true ∧ t.ctl.run = .loader ∧ t.fwOk l = true then (if t.ctl.bound then u.ctlResume else u) else t) := by
  unfold State.goWrite
  extract_lets t l u
  by_cases hgo : bit v 31 = true
  · rw [if_pos hgo]
    by_cases hok : t.ctl.run = .loader ∧ t.fwOk l = true
    · rw [if_pos ⟨hgo, hok⟩]
      exact loaderGo_starts hok.1 hok.2
    · rw [if_neg (fun h => hok h.2)]
      exact loaderGo_stays hok
  · rw [if_neg hgo, if_neg (fun h => hgo h.1)]

end

/-! ## Restarts (R554 to R556) -/

/-- Neither the state of the controllers nor a register that tells of a restart differs. -/
def RestartKept (s t : State) : Prop := t.ctl.run = s.ctl.run ∧ ∀ x ∈ [F.RST_CNT, F.SYS_READY], t.reg x = s.reg x

theorem RestartKept.of_eq {s t : State} (hctl : t.ctl.run = s.ctl.run) (hregs : t.regs = s.regs) : RestartKept s t :=
  ⟨hctl, fun x _ => reg_congr hregs x⟩

theorem RestartKept.refl (s : State) : RestartKept s s := .of_eq rfl rfl

theorem RestartKept.trans {s t u : State} (h : RestartKept s t) (g : RestartKept t u) : RestartKept s u :=
  ⟨g.1.trans h.1, fun x hx => (g.2 x hx).trans (h.2 x hx)⟩

theorem RestartKept.ite {s t u : State} {c : Prop} [Decidable c] (h : RestartKept s t) (g : RestartKept s u) :
    RestartKept s (if c then t else u) := by
  split <;> assumption

theorem RestartKept.foldl {A : Type} {f : State → A → State} (h : ∀ s a, RestartKept s (f s a)) (l : List A) (s : State) :
    RestartKept s (l.foldl f s) := by
  induction l generalizing s with
  | nil => exact .refl s
  | cons a l ih => exact (h s a).trans (ih _)

theorem restartKept_notice (s : State) (c : Nat) (ws : List W32) : RestartKept s (s.notice c ws) := by
  refine ⟨?_, fun x hx => reg_notice c ws ?_⟩
  · refine proj_foldl (p := fun t => t.ctl.run) (fun t m => ?_) _ s
    unfold State.noticeTo
    extract_lets mo body ws'
    split
    · rfl
    · split <;> rfl
  · revert x
    decide

theorem codeBytes_le (a : Nat) : codeBytes a ≤ 8 := by
  unfold codeBytes
  repeat' split
  all_goals decide

/-- A berth that is emptied is a matter of its memories. -/
theorem restartKept_clearBerth (s : State) (c : Nat) : RestartKept s (s.clearBerth c) := by
  have hempty : ∀ st, RestartKept s (s.emptyBerth c st) := by
    intro st
    have h := marksAndFlip_wrote (s.setCore c (emptyCore st)) (a := windowAddr c) (n := 0x100000)
      (Nat.le_trans (codeBytes_le _) (by decide))
    refine ⟨congrArg Ctl.run h.ctl, fun x hx => h.2 x ?_⟩
    revert x
    decide
  exact (hempty _).trans (.of_eq rfl rfl)

theorem restartKept_cancelUpdate {s : State} {k : Nat} (reason : Nat) (h : (s.task k).upd = 1) :
    RestartKept s (s.cancelUpdate k reason) := by
  unfold State.cancelUpdate
  extract_lets r
  rw [if_pos h]
  exact ((RestartKept.of_eq rfl rfl).trans (restartKept_clearBerth (s.setTask k _) _)).trans (restartKept_notice _ _ _)

theorem restartKept_clearMarks (s : State) (a n : Nat) : RestartKept s (s.clearMarks a n) := .of_eq rfl rfl

theorem restartKept_invalidate (s : State) (a n : Nat) : RestartKept s (s.invalidate a n) := by
  unfold State.invalidate
  split
  · extract_lets all
    exact .ite (.refl s) (.of_eq rfl rfl)
  · exact .refl s

/-- The state in which a restart has counted, with its cause (R554). -/
abbrev State.restartCounted (s : State) (cause : Nat) : State := (s.bump F.RST_CNT_CTLRST).setFld F.RST_CNT_CTLCAUSE cause

/-- The state in which a restart has begun: the controllers are unready (R556). -/
abbrev State.restarting (s : State) : State :=
  { s.clearReady [F.SYS_READY_CTL] with ctl := { s.ctl with run := .restarting } }

theorem run_restarting (s : State) : s.restarting.ctl.run = .restarting := rfl

theorem reg_restarting (s : State) (x : Nat) : s.restarting.reg x = (s.setFld F.SYS_READY_CTL 0).reg x := rfl

/-- What a restart does behind its beginning leaves the controllers' state and its registers, where no word of CTL SRAM caused it. -/
theorem ctlRestart_keeps {s : State} {cause : Nat} (hrun : s.ctl.run ≠ .off) (hheld : s.pwr.held = false) (hcause : cause ≠ 3) :
    RestartKept (s.restartCounted cause).restarting (s.ctlRestart cause 0) := by
  unfold State.ctlRestart
  rw [if_neg (by rw [hheld, Bool.or_false, beq_iff_eq]; exact hrun)]
  extract_lets t x y t1 t2 z t3 t4 t5 n t6 t7 top lose ms t8
  have htop : ¬ top = true := by simp [top, hcause]
  have h1 : RestartKept t1 t2 := .foldl (f := State.stopPacket) (fun _ _ => .of_eq rfl rfl) _ _
  have h3 : RestartKept t2 t3 := .of_eq rfl rfl
  have h4 : RestartKept t3 t4 := .foldl (fun u c => .ite (restartKept_clearBerth u c) (.refl u)) _ _
  have h5 : RestartKept t4 t5 := by
    refine .foldl (fun u k => ?_) _ _
    split
    · next h => exact restartKept_cancelUpdate 4 h
    · exact .refl u
  have hbegun := ((h1.trans h3).trans h4).trans h5
  clear_value t5
  have h6 : RestartKept t5 t6 := .trans (.of_eq rfl rfl) (restartKept_clearMarks
    { t5 with mem := delRange t5.mem 0x20000000 0x1E0000, net := { t5.net with tapQ := [] } } _ _)
  have h7 : RestartKept t6 t7 := restartKept_invalidate t6 _ _
  have h8 : t8 = t7 := if_neg htop
  rw [if_neg hcause, h8]
  exact (hbegun.trans h6).trans h7

/-- A restart of running controllers counts with its cause, clears SYS_READY.CTL and runs no instruction until it ends (R554, R556). -/
theorem ctlRestart_spec {s : State} {cause : Nat} (hrun : s.ctl.run ≠ .off) (hheld : s.pwr.held = false) (hcause : cause ≠ 3) :
    let t := s.ctlRestart cause 0
    t.ctl.run = .restarting ∧ t.reg F.RST_CNT = ((s.bump F.RST_CNT_CTLRST).setFld F.RST_CNT_CTLCAUSE cause).reg F.RST_CNT ∧
      t.on F.SYS_READY_CTL = false ∧ t.commands = false := by
  obtain ⟨hctl, hreg⟩ := ctlRestart_keeps hrun hheld hcause
  have hrestarting : (s.ctlRestart cause 0).ctl.run = .restarting := hctl.trans (run_restarting _)
  refine ⟨hrestarting, ?_, ?_, by unfold State.commands; rw [hrestarting]⟩
  · rw [hreg _ (by decide), reg_restarting, reg_setFld_other _ _ (by decide)]
  · rw [on_congr (f := F.SYS_READY_CTL) ((hreg _ (by decide)).trans (reg_restarting _ _))]
    exact on_setFld_clear _ (by decide)

/-- The controllers that run are not off. -/
theorem run_ne_off {s : State} (h : s.ctlRuns = true) : s.ctl.run ≠ .off := by
  intro hoff
  unfold State.ctlRuns at h
  rw [hoff] at h
  exact absurd h (by decide)

/-- Settles O51: each event comes to its own function where the controllers are in the state that it belongs to. -/
theorem controllersBootAndRestart : Obligations.ControllersBootAndRestart := by
  refine ⟨fun a b s => rfl, ?flash, ?faults, fun a b s _ => rfl, ?loader, ?go, ?restart⟩
  case flash => exact fun a b s hrun hrom => bootFlash_booting a b hrun hrom
  case faults => exact fun s h => ⟨congrArg (doneMem s) (when_true h), congrArg (doneMem s) (when_true h)⟩
  case loader => exact fun v s h => congrArg (doneMem s) (when_true (beq_iff_eq.mpr h))
  case go => exact fun v s _ => goWrite_eq v
  case restart => exact fun cause s hruns hheld hcause => ctlRestart_spec (run_ne_off hruns) hheld (by omega)

end Sys2Proof.Machine
end
